-- ==== Sys2Proof/Word.lean ====
section
/-! DEFINITION. The word types of the device and their plainest helpers. -/
namespace Sys2Proof

/-- A byte: the smallest addressable unit of every data space (R12, R393). -/
abbrev Byte := BitVec 8

/-- A 32-bit register word (R618). -/
abbrev W32 := BitVec 32

/-- A 64-bit word: an engine's general register, a bridge payload (R385, R40). -/
abbrev W64 := BitVec 64

/-- A 5-bit register field of a Teique instruction (R390). -/
abbrev GReg := BitVec 5

/-- A chord, 0 to 19 (R39). -/
abbrev Chord := Fin 20

/-- A time-measurement lane, 0 to 21: the chords' own lanes, L20 and L21 (R224). -/
abbrev Lane := Fin 22

/-- A rod of the Abacus, 0 to 15 (R328). -/
abbrev Rod := Fin 16

/-- One bit as a word of width `n`. -/
def bit (n : Nat) (b : Bool) : BitVec n := if b then 1#n else 0#n

/-- The field of `len` bits of `v` that starts at bit `lo`. -/
def field {n : Nat} (v : BitVec n) (lo len : Nat) : BitVec len := v.extractLsb' lo len

/-- A field placed at bit `lo` of a word of width `n`. -/
def place {m : Nat} (n lo : Nat) (v : BitVec m) : BitVec n := v.setWidth n <<< lo

/-- A flag placed at bit `lo` of a word of width `n`. -/
def placeB (n lo : Nat) (b : Bool) : BitVec n := bit n b <<< lo

end Sys2Proof
end

