-- ==== Sys2Proof/Syntax.lean ====
section
/-! DEFINITION. The commands of the device, one constructor for each row of the table of operations and
events, with the operands that name what they act on and what the world outside the block supplies. -/
namespace Sys2Proof

/-- The engines of Table 14-1, K0 and K1 as one (R383). -/
inductive Eng where
  | s0 | s1 | k01 | k2 | k3
  deriving DecidableEq, Repr

/-- Who reads or writes a register: the host port, the system (I²C) port, or an engine through SYS (R621). -/
inductive Requester where
  | host | sysPort | eng (e : Eng)
  deriving DecidableEq, Repr

/-- The four die-to-die bridges (R39, R41). -/
inductive Bridge where
  | senseN | senseS | keep | drive
  deriving DecidableEq, Repr

/-- The dies (Table 23-8). -/
inductive Die where
  | drive | sense | core | keep
  deriving DecidableEq, Repr

/-- The clusters that carry a fence (Table 01-3, Table 23-8). -/
inductive Cluster where
  | chord (c : Chord)
  | spare | aux | clock | metrology | survey | service | customer | port | twin | memory
  | test | drive | panel | keep | backup | senseCtlN | senseCtlS | bridge
  deriving DecidableEq, Repr

/-- The auxiliary conversion islands: resistance and bridge (R360). -/
inductive AuxIsland where
  | res | pres
  deriving DecidableEq, Repr

/-- The oscillators that start and pass a monitor (R114). -/
inductive Osc where
  | xref | xhf | x32
  deriving DecidableEq, Repr

/-- The two glitch-free multiplexers: the PLL reference and the engine clock (R127). -/
inductive Mux where
  | pllRef | engSrc
  deriving DecidableEq, Repr

/-- The clocks that an edge-count monitor watches (Table 04-4). -/
inductive MonClock where
  | xref | xhf | x32 | ring
  deriving DecidableEq, Repr

/-- What the lane of one shot sees at a fire edge: its tap count, that of a comparing lane, and whether the first
burst cycle delivered less than the charge of R191. -/
structure Edge where
  tap : Byte
  shadowTap : Byte
  lowCharge : Bool
  deriving DecidableEq, Repr

/-- A command to the device: one constructor for each row of the table of operations and events. A Teique
instruction names the engine that executes it and its instruction fields. The commands without operands stand last. -/
inductive Instr where
  /-- REGISTER_WRITE (R14): A write to a register field that has no row of its own acts under its access code,
  including W1C clears and staged or boundary-held values. -/
  | registerWrite (req : Requester) (idx : BitVec 7) (v : BitVec 32)
  /-- BRIDGE_TRANSFER (R40): A 64-bit payload with its tag crosses a die-to-die bridge and is acknowledged. -/
  | bridgeTransfer (br : Bridge) (payload : BitVec 64) (tag : BitVec 8)
  /-- BRIDGE_PARITY_ERROR (R41): A receiving bridge end detects a parity error; the sender repeats the transfer
  once, and a second error refuses it and records BRIDGE_PARITY. -/
  | bridgeParityError (br : Bridge)
  /-- BRIDGE_LINK_DOWN (R41): A bridge is found link-down; pending transfers are refused, BRIDGE_DOWN is set and
  BRIDGE_LINK is recorded. -/
  | bridgeLinkDown (br : Bridge)
  /-- BRIDGE_LINK_UP (R41): Both bridge ends have left reset and exchanged the link handshake, so the bridge goes
  link-up. -/
  | bridgeLinkUp (br : Bridge)
  /-- PARITY_ERROR (R31): A parity error in a cluster's local memory raises that cluster's fence. -/
  | parityError (cl : Cluster) (inProgram : Bool)
  /-- WATCHDOG_EXPIRY (R406): An engine watchdog times out and raises its cluster's fence with cause WATCHDOG. -/
  | watchdogExpiry (e : Eng)
  /-- FIRE_COMMAND_ARRIVAL (R27): A Surveyor's shot command reaches a chord island, which accepts and latches it
  or marks the shot LATE. -/
  | fireCommandArrival (c : Chord) (vdrvOk : Bool)
  /-- FIRE_EDGE (R27): The chord island's coarse count reaches the target; the burst starts, the listening port
  listens and the lane takes its start edge. -/
  | fireEdge (c : Chord) (tap shadowTap : Byte) (lowCharge : Bool)
  /-- MUTE_END (R195): 1.0 µs after the fire edge, the receive mute of the shot ends. -/
  | muteEnd (c : Chord)
  /-- BURST_END (R182): The last burst cycle ends and the firing port enters ANTI, CLAMP or RELEASED. -/
  | burstEnd (c : Chord)
  /-- ANTI_PHASE_END (R182): The anti-phase cycles end and the firing port enters CLAMP or RELEASED. -/
  | antiPhaseEnd (c : Chord)
  /-- CLAMP_END (R182): The clamp time expires, the firing port is released, and a release inside the window
  blanks the receiver. -/
  | clampEnd (c : Chord)
  /-- DRIVE_REACH_FAIL (R190): The reach check fails in two consecutive half-cycles; the port parks and the shot
  is marked DRIVE_FAULT. -/
  | driveReachFail (c : Chord)
  /-- STOP_WINDOW_OPEN (R244): At the gate edge the lane and the first-wave detector arm, and a grid capture
  starts. -/
  | stopWindowOpen (c : Chord) (delay : BitVec 24) (tap shadowTap : Byte)
  /-- FIRST_WAVE_TRIP (R209): The magnitude at the amplifier output reaches the threshold and the detector trips. -/
  | firstWaveTrip (c : Chord)
  /-- ZERO_CROSSING (R210): The comparator registers a zero crossing of the received wave, which is counted toward
  the stop edge. -/
  | zeroCrossing (c : Chord) (falling : Bool) (tap shadowTap : Byte)
  /-- AMPLIFIER_CLIP (R219): The amplifier output reaches full scale or the limiter acts inside the window, and
  the shot is marked CLIPPED. -/
  | amplifierClip (c : Chord)
  /-- CLAMP_CONDUCT (R380): An armed over-voltage clamp conducts, which sets its CLAMP_STAT bit and marks affected
  shots or conversions. Clamps 0 to 6 are those of the auxiliary inputs by their CLAMP_STAT bit; 7 + 2c and 8 + 2c are
  those of ports A and B of chord c. -/
  | clampConduct (clamp : Fin 47)
  /-- CAPTURE_END (R213): A grid capture ends after LEN samples or at window close, and its descriptor is written. -/
  | captureEnd (c : Chord) (samples : List (Int × Bool))
  /-- CORRELATION_COMPLETE (R272): The correlator slice finishes, writes its result words and queues the result
  entry. -/
  | correlationComplete (c : Chord)
  /-- STOP_WINDOW_CLOSE (R166): The shot's window closes; both ports park and the shot's result entry is formed
  with its marks. -/
  | stopWindowClose (c : Chord) (vmax : Nat)
  /-- RESULT_ENTRY_DELIVERY (R47): A result entry leaves the Sense result queue for the Surveyor that issued the
  shot, and a held result may enter the queue. -/
  | resultEntryDelivery (south : Bool)
  /-- DIE_TEMPERATURE_SAMPLE (R184): The Sense die sensor is sampled every 10 ms and the drive band is updated
  with hysteresis. -/
  | dieTemperatureSample (t : Int)
  /-- PANEL_TEMPERATURE_SAMPLE (R537): The Drive die sensor is sampled every 10 ms for the panel band, and
  BAND_SHIFT is set during a command. -/
  | panelTemperatureSample (t : Int)
  /-- OT_CLEAR (R81): A write to PWR_MODE.OT_CLEAR clears the over-temperature latch, or sets OT_REFUSED if
  conditions fail. -/
  | otClear (req : Requester) (below130 : Bool)
  /-- SURVEY_RUN_WRITE (R285): A write of SURVEY_CTRL.RUN from 0 to 1 raises the first boundary, and a write to 0
  stops boundaries. -/
  | surveyRunWrite (req : Requester) (run : Bool)
  /-- CALIBRATION_COMPLETE (R237): A lane reaches its hit count, runs the sanity check and either writes its
  graticule or goes out of service. -/
  | calibrationComplete (l : Lane) (hits : List Nat)
  /-- DEFERRED_SHOT_FIRE (R375): A deferred queue entry fires at its computed time, marked DEFERRED, or is skipped
  with BLANK_SKIP. -/
  | deferredShotFire (edges : List Edge)
  /-- SETTLE_SPAN_END (R371): The settle span that follows an excitation switch ends. -/
  | settleSpanEnd (isl : AuxIsland)
  /-- AUX_CONVERSION_START (R371): A queued auxiliary conversion starts once its settle span has ended or the
  island is free. -/
  | auxConversionStart (isl : AuxIsland)
  /-- AUX_PHASE_END (R361): A discharge phase ends at the comparator crossing and L21 stamps its time. -/
  | auxPhaseEnd (start stop : BitVec 40)
  /-- RESISTANCE_CONVERSION_COMPLETE (R365): A resistance conversion completes; its ratio is formed with its
  partner and its entry is written. -/
  | resistanceConversionComplete (openWire : Bool)
  /-- BRIDGE_CONVERSION_COMPLETE (R369): The ΣΔ filter output for a bridge conversion is ready and its entry is
  written. -/
  | bridgeConversionComplete (code : BitVec 24) (exFault : Bool)
  /-- SELF_TEST_START (R381): Writing 1 to AUX_CTRL.SELF_TEST in SERVICE arms the clamps and runs the front-end
  self-test. -/
  | selfTestStart (req : Requester)
  /-- SELF_TEST_COMPLETE (R381): The self-test ends, writes ST_FAIL and clears SELF_TEST. -/
  | selfTestComplete (fail : BitVec 6)
  /-- SUPPLY_MONITOR_CHANGE (R82): VIN_OK, VBAT_OK, VBK_OK or VBAT_LOW changes, and the power path reselects its
  source. -/
  | supplyMonitorChange (vinOk vbatOk vbkOk vbatLow : Bool)
  /-- SUPPLY_CURRENT_LIMIT (R86): The VIN or VBAT current limit starts or stops acting. -/
  | supplyCurrentLimit (vin vbat : Bool)
  /-- VIO_LOW (R67): VIO crosses its threshold; DIO outputs float, inputs read inactive, and VIO_LOW changes. -/
  | vioLow (low : Bool)
  /-- DIE_POWER_ON_RESET (R144): A die's own power-on reset trips without a brown-out and acts as a brown-out of
  the whole device. -/
  | diePowerOnReset (die : Die)
  /-- ISLAND_VOLT_WRITE (R90): A write to ISLAND_VOLT changes the regulator mode or VSET, or is refused against
  the running clocks. -/
  | islandVoltWrite (req : Requester) (v : BitVec 32)
  /-- PWR_DOMAIN_EN_WRITE (R93): A write to PWR_DOMAIN_EN requests domain disables and enables, with their
  dependents and prerequisites. -/
  | pwrDomainEnWrite (req : Requester) (v : BitVec 32)
  /-- DOMAIN_DRAIN_COMPLETE (R94): The drain ends; fences rise, isolation closes and the supply switch opens, and
  the next queued change starts. -/
  | domainDrainComplete (pd : Fin 8)
  /-- DOMAIN_READY (R94): A powered-up domain reaches its rail with RWT fields restored; isolation opens and
  fences fall. -/
  | domainReady (pd : Fin 8)
  /-- DEV_STATE_REQUEST (R164): A write of DEV_STATE.REQ requests LINE, VIGIL or SERVICE and is accepted or
  refused. -/
  | devStateRequest (req : Requester) (code : BitVec 3)
  /-- WAIT (R104): An engine executes WAIT and halts in DOZE, and the last engine to do so starts device-level
  entry. -/
  | wait (e : Eng)
  /-- OSCILLATOR_START (R114): XREF, XHF or X32 starts and passes its monitor, and its RUN bit sets. -/
  | oscillatorStart (src : Osc)
  /-- CLK_SRC_WRITE (R127): A write to CLK_SRC enables sources or starts a multiplexer switch, or is refused. -/
  | clkSrcWrite (req : Requester) (v : BitVec 32)
  /-- PLL_CFG_WRITE (R120): A write to PLL_CFG changes the enable or the dividers, or is refused against the
  voltage limits. -/
  | pllCfgWrite (req : Requester) (v : BitVec 32)
  /-- CLOCK_SWITCH_COMPLETE (R127): A multiplexer releases its output on the new clock, or after 16 periods if the
  old clock is dead. -/
  | clockSwitchComplete (mux : Mux) (oldDead : Bool)
  /-- CLOCK_SWITCH_ABANDON (R129): The new clock shows no edge within 1 ms; the switch is abandoned, or RING is
  forced. -/
  | clockSwitchAbandon (mux : Mux)
  /-- OVNRDY_CHANGE (R122): The deglitched OVNRDY changes level; the oven counts as cold or its warm qualification
  begins. -/
  | ovnrdyChange (high : Bool)
  /-- XHF_DEV_MEASURE (R126): A 2³⁰-period count of XHF against the PLL completes and XHF_DEV is written. -/
  | xhfDevMeasure (count : Nat)
  /-- MISSING_EDGE_TRIP (R132): An asynchronous missing-edge detector on the reference or PLL output trips, which
  is a measurement failure. -/
  | missingEdgeTrip (onOutput : Bool)
  /-- CLOCK_MONITOR_WINDOW (R132): An edge-count monitor window ends and its verdict sets a fail flag or starts
  the safe state. -/
  | clockMonitorWindow (src : MonClock) (edges : Nat)
  /-- HOLD_RELEASE_WRITE (R138): A write of CLK_FAIL_CFG.RELEASE ends HOLD if its conditions hold, and is refused
  otherwise. -/
  | holdReleaseWrite (req : Requester)
  /-- CLK_GATE_WRITE (R141): A write to CLK_GATE opens or closes block gates, waiting for a closing block's
  handshake. -/
  | clkGateWrite (req : Requester) (v : BitVec 32)
  /-- GATE_FORCE_CLOSE (R143): 32 block clocks pass with an access pending; the gate closes and GATE_FORCED sets. -/
  | gateForceClose (bit : Fin 14)
  /-- FAULT_CAUSE_ACK (R150): Writing FAULT_CAUSE.ACK clears every field of the fault latch. -/
  | faultCauseAck (req : Requester)
  /-- RESET_N_RELEASE (R145): The filtered rising edge of RESET_N starts BOOT. -/
  | resetNRelease (ftest : Bool)
  /-- DEV_RESET (R146): Writing HOST_CTRL.DEV_RESET resets the device through the commit sequence, and BOOT
  follows. -/
  | devReset (req : Requester)
  /-- POSTED_STORE_ACKNOWLEDGED (R397): An engine's earlier stores are acknowledged, which releases a held SEND,
  SIG or FENCE. -/
  | postedStoreAcknowledged (e : Eng)
  /-- ALU_ADD (R417): ADD writes g[a] + g[b] modulo 2⁶⁴ and sets Z, N, C and V. -/
  | aluAdd (e : Eng) (d a b : GReg)
  /-- ALU_SUB (R417): SUB writes g[a] − g[b] modulo 2⁶⁴ and sets Z, N, C and V. -/
  | aluSub (e : Eng) (d a b : GReg)
  /-- ALU_AND (R417): AND writes the bitwise AND of g[a] and g[b]. -/
  | aluAnd (e : Eng) (d a b : GReg)
  /-- ALU_OR (R417): OR writes the bitwise OR of g[a] and g[b]. -/
  | aluOr (e : Eng) (d a b : GReg)
  /-- ALU_XOR (R417): XOR writes the bitwise XOR of g[a] and g[b]. -/
  | aluXor (e : Eng) (d a b : GReg)
  /-- ALU_SHL (R417): SHL shifts g[a] left by g[b][5:0]. -/
  | aluShl (e : Eng) (d a b : GReg)
  /-- ALU_SHR (R417): SHR shifts g[a] right with zero fill. -/
  | aluShr (e : Eng) (d a b : GReg)
  /-- ALU_SAR (R417): SAR shifts g[a] right with sign fill. -/
  | aluSar (e : Eng) (d a b : GReg)
  /-- ALU_MIN (R417): MIN writes the signed minimum of g[a] and g[b]. -/
  | aluMin (e : Eng) (d a b : GReg)
  /-- ALU_MAX (R417): MAX writes the signed maximum of g[a] and g[b]. -/
  | aluMax (e : Eng) (d a b : GReg)
  /-- ALU_SLT (R417): SLT writes 1 if g[a] < g[b] as signed values, else 0. -/
  | aluSlt (e : Eng) (d a b : GReg)
  /-- ALU_SLTU (R417): SLTU writes 1 if g[a] < g[b] as unsigned values, else 0. -/
  | aluSltu (e : Eng) (d a b : GReg)
  /-- ALU_ADDS (R417): ADDS writes the saturated signed sum and sets Q when it saturates. -/
  | aluAdds (e : Eng) (d a b : GReg)
  /-- ALU_SUBS (R417): SUBS writes the saturated signed difference and sets Q when it saturates. -/
  | aluSubs (e : Eng) (d a b : GReg)
  /-- ADDI (R418): ADDI adds the sign-extended immediate to g[a]. -/
  | addi (e : Eng) (d a : GReg) (imm : BitVec 16)
  /-- MOVI (R418): MOVI loads the sign-extended immediate. -/
  | movi (e : Eng) (d : GReg) (imm : BitVec 16)
  /-- SHI (R418): SHI shifts g[d] left by 16 and ORs in the immediate. -/
  | shi (e : Eng) (d : GReg) (imm : BitVec 16)
  /-- MUL_LOW (R419): MUL fn 0 writes the low 64 bits of the product. -/
  | mulLow (e : Eng) (d a b : GReg)
  /-- MUL_HIGH_SIGNED (R419): MUL fn 1 writes the high 64 bits of the signed product. -/
  | mulHighSigned (e : Eng) (d a b : GReg)
  /-- MUL_HIGH_UNSIGNED (R419): MUL fn 2 writes the high 64 bits of the unsigned product. -/
  | mulHighUnsigned (e : Eng) (d a b : GReg)
  /-- DIV (R420): DIV writes the signed quotient truncated toward zero, and traps on a zero divisor. -/
  | div (e : Eng) (d a b : GReg)
  /-- DIVU (R420): DIVU writes the unsigned quotient. -/
  | divu (e : Eng) (d a b : GReg)
  /-- REM (R420): REM writes the signed remainder, which takes the sign of g[a]. -/
  | rem (e : Eng) (d a b : GReg)
  /-- REMU (R420): REMU writes the unsigned remainder. -/
  | remu (e : Eng) (d a b : GReg)
  /-- QMUL (R421): QMUL multiplies fixed-point values with q fraction bits, with saturation. -/
  | qmul (e : Eng) (d a b : GReg) (q : BitVec 11)
  /-- QDIV (R422): QDIV divides g[a] × 2^q by g[b], truncated and saturated. -/
  | qdiv (e : Eng) (d a b : GReg) (q : BitVec 11)
  /-- MAC (R423): MAC adds the signed product of g[a] and g[b] to acc. -/
  | mac (e : Eng) (a b : GReg)
  /-- MSU (R423): MSU subtracts the signed product of g[a] and g[b] from acc. -/
  | msu (e : Eng) (a b : GReg)
  /-- ACLR (R423): ACLR clears acc and Q. -/
  | aclr (e : Eng)
  /-- AREAD (R386): AREAD reads the low or high half of acc, or the flags, as selected by b. -/
  | aread (e : Eng) (d : GReg) (sel : BitVec 5)
  /-- FUNC_SQRT (R424): SQRT writes the Q32.32 square root, rounded down. -/
  | funcSqrt (e : Eng) (d a : GReg)
  /-- FUNC_LOG2 (R424): LOG2 writes log₂ x in Q31.32. -/
  | funcLog2 (e : Eng) (d a : GReg)
  /-- FUNC_EXP2 (R424): EXP2 writes 2^x in Q32.32. -/
  | funcExp2 (e : Eng) (d a : GReg)
  /-- FUNC_RECIP (R424): RECIP writes 1 / x in Q31.32, truncated toward zero. -/
  | funcRecip (e : Eng) (d a : GReg)
  /-- FUNC_CLZ (R424): CLZ writes the count of leading zeros of g[a]. -/
  | funcClz (e : Eng) (d a : GReg)
  /-- LD64 (R425): LD64 loads eight bytes at g[a] + imm. -/
  | ld64 (e : Eng) (d a : GReg) (imm : BitVec 16)
  /-- LD32 (R425): LD32 loads four bytes at g[a] + imm, zero-extended. -/
  | ld32 (e : Eng) (d a : GReg) (imm : BitVec 16)
  /-- ST64 (R425): ST64 stores g[d] at g[a] + imm. -/
  | st64 (e : Eng) (d a : GReg) (imm : BitVec 16)
  /-- ST32 (R425): ST32 stores g[d][31:0] at g[a] + imm. -/
  | st32 (e : Eng) (d a : GReg) (imm : BitVec 16)
  /-- BEQ (R426): BEQ branches if g[d] equals g[a]. -/
  | beq (e : Eng) (d a : GReg) (imm : BitVec 16)
  /-- BNE (R426): BNE branches if g[d] differs from g[a]. -/
  | bne (e : Eng) (d a : GReg) (imm : BitVec 16)
  /-- BLT (R426): BLT branches if g[d] < g[a] as signed values. -/
  | blt (e : Eng) (d a : GReg) (imm : BitVec 16)
  /-- BGE (R426): BGE branches if g[d] ≥ g[a] as signed values. -/
  | bge (e : Eng) (d a : GReg) (imm : BitVec 16)
  /-- JMP (R427): JMP jumps to pc + 4 × off26. -/
  | jmp (e : Eng) (off : BitVec 26)
  /-- CALL (R427): CALL writes pc + 4 to g31 and jumps. -/
  | call (e : Eng) (off : BitVec 26)
  /-- RET (R428): RET fn 0 continues at g31. -/
  | ret (e : Eng)
  /-- RET_TRAP (R428): RET fn 1 restores pc and flags from the trap frame and clears IN_TRAP. -/
  | retTrap (e : Eng)
  /-- LOOP (R388): LOOP sets up a hardware loop level with its count and body length. -/
  | loop (e : Eng) (d : GReg) (imm : BitVec 16)
  /-- TRAP (R430): TRAP raises a trap with cause SOFT and tval = fn. -/
  | trap (e : Eng) (fn : BitVec 11)
  /-- BRK (R402): BRK halts the engine in debug mode, or traps with cause BREAK otherwise. -/
  | brk (e : Eng)
  /-- FIRE (R432): FIRE issues one shot or a code-division group with a target fire time. -/
  | fire (e : Eng) (d a : GReg) (slot mod : BitVec 8)
  /-- ARM (R434): ARM issues a listen-only shot on one chord. -/
  | arm (e : Eng) (d a : GReg) (slot mod : BitVec 8)
  /-- STAMP (R435): STAMP removes and writes the oldest lane result entry, waiting where none exists. -/
  | stamp (e : Eng) (d a : GReg) (slot mod : BitVec 8)
  /-- CORR (R435): CORR removes and writes the oldest correlator result entry, waiting where none exists. -/
  | corr (e : Eng) (d a : GReg) (slot mod : BitVec 8)
  /-- CAPT (R437): CAPT copies a chord's capture memory and reports whether the copy is consistent. -/
  | capt (e : Eng) (d a : GReg) (slot mod : BitVec 8)
  /-- STAT_START (R438): STAT START discards a chord's statistics set and starts a new one of N pairs. -/
  | statStart (e : Eng) (d a : GReg) (slot : BitVec 8)
  /-- STAT_FEED (R439): STAT FEED adds one pair to the chord's set, and the block is written when the N-th pair
  arrives. -/
  | statFeed (e : Eng) (d a : GReg) (slot : BitVec 8)
  /-- STAT_READ (R438): STAT READ writes the current statistics block. -/
  | statRead (e : Eng) (a : GReg) (slot : BitVec 8)
  /-- AUX (R440): AUX queues a NORMAL or FORCED conversion request for an auxiliary channel. -/
  | aux (e : Eng) (d : GReg) (slot mod : BitVec 8)
  /-- AT (R441): AT waits for a traverse time or the next boundary, then returns tc. -/
  | atTime (e : Eng) (d a : GReg) (imm : BitVec 16)
  /-- PACE (R442): PACE sets TRAV_PERIOD from the next boundary. -/
  | pace (e : Eng) (a : GReg) (imm : BitVec 16)
  /-- LANE_READG (R443): LANE READG writes a lane's graticule and status. -/
  | laneReadg (e : Eng) (d a : GReg) (slot : BitVec 8)
  /-- LANE_SNAP (R235): LANE SNAP writes a graticule snapshot to store Q3. -/
  | laneSnap (e : Eng) (d : GReg) (slot : BitVec 8)
  /-- LANE_CALALL (R239): LANE CALALL calibrates every powered lane in parallel and waits for all of them. -/
  | laneCalall (e : Eng) (d : GReg) (slot : BitVec 8)
  /-- LANE_ASSIGN (R443): LANE ASSIGN assigns L20 to a chord from the next boundary. -/
  | laneAssign (e : Eng) (d : GReg) (slot : BitVec 8)
  /-- LANE_FREE (R443): LANE FREE releases L20 at the next boundary. -/
  | laneFree (e : Eng) (d : GReg) (slot : BitVec 8)
  /-- TALLY (R328): TALLY adds a scaled increment to the open value of a rod, or refuses it. -/
  | tally (e : Eng) (rod : BitVec 5) (a b : GReg)
  /-- TALLY_TEST (R333): TALLY fn 1 adds the increment to the rod's test shadow. -/
  | tallyTest (e : Eng) (rod : BitVec 5) (a b : GReg)
  /-- ROD_READ_BINARY (R445): ROD fn 0 reads one binary element of a rod. -/
  | rodReadBinary (e : Eng) (d a : GReg)
  /-- ROD_READ_DECIMAL (R445): ROD fn 1 reads rod digits in BCD. -/
  | rodReadDecimal (e : Eng) (d a : GReg)
  /-- ROD_SNAPSHOT (R332): ROD fn 2 copies the closed values of all rods to the snapshot buffer. -/
  | rodSnapshot (e : Eng)
  /-- ROD_COMMIT (R331): ROD fn 3 closes the engine's tally group and waits for its journal entry. -/
  | rodCommit (e : Eng)
  /-- PSAVE (R446): PSAVE writes one copy of a record, or the interval log, and returns its status. -/
  | psave (e : Eng) (d a b : GReg)
  /-- PLOAD (R447): PLOAD loads the copy that the load rule selects, with its status and length. -/
  | pload (e : Eng) (d a b : GReg)
  /-- SIG (R449): SIG raises an event to an engine or sets a FW_EVENT bit for the host. -/
  | sig (e : Eng) (dst : BitVec 5) (fn : BitVec 11)
  /-- HSK_SEND (R408): SEND appends a payload to an engine's inbound queue, stalling while it is full. -/
  | hskSend (e : Eng) (a : GReg) (dst : BitVec 5)
  /-- HSK_TRYSEND (R408): TRYSEND appends a payload if there is room and reports whether it did. -/
  | hskTrysend (e : Eng) (d a : GReg) (dst : BitVec 5)
  /-- HSK_RECV (R408): RECV removes the oldest entry of the engine's own queue, waiting while it is empty. -/
  | hskRecv (e : Eng) (d : GReg)
  /-- HSK_PEEK (R408): PEEK returns the oldest entry without removing it. -/
  | hskPeek (e : Eng) (d : GReg)
  /-- HSK_FENCE (R408): FENCE waits until every earlier store has been acknowledged. -/
  | hskFence (e : Eng)
  /-- HSK_KICK (R406): KICK restarts the engine's watchdog. -/
  | hskKick (e : Eng)
  /-- SYS_READ (R451): SYS READ reads a control register by its index. -/
  | sysRead (e : Eng) (d : GReg) (idx : BitVec 7)
  /-- SYS_WRITE (R451): SYS WRITE writes a control register by its index under its access code. -/
  | sysWrite (e : Eng) (a : GReg) (idx : BitVec 7)
  /-- SYS_RESET (R146): The SYS reset operation resets the device through the commit sequence. -/
  | sysReset (e : Eng)
  /-- SYS_FENCE_RAISE (R451): SYS raises the fence of a chord, spare-lane or auxiliary cluster. -/
  | sysFenceRaise (e : Eng) (a : GReg)
  /-- SYS_FENCE_LOWER (R451): SYS lowers a fence that it raised, unless another cause still holds it. -/
  | sysFenceLower (e : Eng) (a : GReg)
  /-- HINIT (R452): HINIT resets the issuer's SHA-512 context. -/
  | hinit (e : Eng)
  /-- HUPD (R452): HUPD adds bytes to the hash context. -/
  | hupd (e : Eng) (a b : GReg)
  /-- HFIN (R452): HFIN writes the 64-byte digest and resets the context. -/
  | hfin (e : Eng) (a : GReg)
  /-- CRYPT_VERIFY (R453): CRYPT VERIFY starts an asynchronous signature verification. -/
  | cryptVerify (e : Eng) (d a : GReg)
  /-- QSIGN (R505): QSIGN takes a rod snapshot and starts signing a QUOTE, raising the regulator if needed. -/
  | qsign (e : Eng) (d a : GReg)
  /-- MODEXP (R452): MODEXP starts an asynchronous modular exponentiation. -/
  | modexp (e : Eng) (d a : GReg)
  /-- PROG_DATA_WRITE (R400): A host write to PROG_DATA stores a program word into a halted engine, or is refused. -/
  | progDataWrite (v : BitVec 32)
  /-- ENGINE_HALT (R401): A write of ENGINE_CTRL.HALT halts or starts engines, as the seal state permits. -/
  | engineHalt (req : Requester) (halt : BitVec 5)
  /-- ENGINE_STEP (R402): ENGINE_CTRL.STEP runs a halted engine for one instruction. -/
  | engineStep (e : Eng)
  /-- MAILBOX_IN_WRITE (R410): A host write to MAILBOX_IN appends an entry to K2's queue, or is dropped with
  MBI_OVF. -/
  | mailboxInWrite (v : BitVec 32)
  /-- LOG_STAGE_LOW (R625): STORE_CTRL OP 1 stages DATA[15:0] of an event-log entry. -/
  | logStageLow (req : Requester) (arg : BitVec 16)
  /-- LOG_STAGE_HIGH (R625): STORE_CTRL OP 2 stages DATA[31:16] of an event-log entry. -/
  | logStageHigh (req : Requester) (arg : BitVec 16)
  /-- LOG_SUBMIT (R625): STORE_CTRL OP 3 hands a firmware event-log entry with its CODE to the Keep event island. -/
  | logSubmit (req : Requester) (code : BitVec 12)
  /-- CLR_LOST (R473): STORE_CTRL.CLR_LOST clears LOG_LOST. -/
  | clrLost (req : Requester)
  /-- STORE_PROTECT_WRITE (R468): A write of STORE_PROTECT.BP changes block protection, writing the rod record
  first for 11, or is refused. -/
  | storeProtectWrite (req : Requester) (bp : BitVec 2)
  /-- STORE_DATA_READ (R469): A read of STORE_DATA returns four bytes and advances the address. -/
  | storeDataRead (req : Requester)
  /-- STORE_DATA_WRITE (R469): A write of STORE_DATA writes four bytes as one page in permitted areas, or is
  refused. -/
  | storeDataWrite (req : Requester) (v : BitVec 32)
  /-- SAVE_SETTINGS (R155): HOST_CTRL.SAVE_SETTINGS writes a settings record from the live RWT fields. -/
  | saveSettings (req : Requester)
  /-- HOST_SNAPSHOT (R332): HOST_CTRL.SNAPSHOT takes a rod snapshot into the status summary. -/
  | hostSnapshot (req : Requester)
  /-- UPD_OPEN (R490): OPEN starts or resumes an update session for the requesting port. -/
  | updOpen (req : Requester) (kind : BitVec 2) (resume : Bool) (port : BitVec 2)
  /-- UPD_BLOCK (R494): BLOCK checks a 4 KiB block and starts erasing and programming its sector. -/
  | updBlock (req : Requester) (block : BitVec 10) (port : BitVec 2)
  /-- UPD_BLOCK_COMPLETE (R494): The sector erase, program and read-back end, and NEXT_BLOCK advances. -/
  | updBlockComplete (readBackOk : Bool)
  /-- UPD_VERIFY (R495): VERIFY starts checking the downloaded image or configuration set. -/
  | updVerify (req : Requester) (port : BitVec 2)
  /-- UPD_ACTIVATE (R496): ACTIVATE commits the boot pointer to the new image in trial and performs the activation
  reset. -/
  | updActivate (req : Requester) (port : BitVec 2)
  /-- UPD_APPLY (R502): APPLY carries out a verified configuration set with its commit. -/
  | updApply (req : Requester) (port : BitVec 2)
  /-- UPD_CLOSE (R489): CLOSE releases the session lock, suspending an image session. -/
  | updClose (req : Requester) (port : BitVec 2)
  /-- UPD_ABORT (R489): ABORT releases the lock and returns the session to IDLE. -/
  | updAbort (req : Requester) (port : BitVec 2)
  /-- UPD_CONFIRM (R501): CONFIRM ends the trial, confirms the slot and raises MIN_VERSION. -/
  | updConfirm (req : Requester) (port : BitVec 2)
  /-- QREQ (R506): Writing ATTEST_CTRL.QREQ sets QBUSY and signals K2 to make a QUOTE. -/
  | qreq (req : Requester)
  /-- QREADY (R506): K2 sets QREADY, which clears QBUSY. -/
  | qready (req : Requester)
  /-- RTC_TIME_READ (R514): A read of RTC_TIME latches the requester's shadow of the date and sub-seconds. -/
  | rtcTimeRead (req : Requester)
  /-- RTC_COMMIT (R517): Writing RTC_CTRL.COMMIT requests that the staged time be loaded at the next X32 edge. -/
  | rtcCommit (req : Requester)
  /-- BKP_WRITE (R523): A write of RTC_CTRL with BKP_WE writes one backup-register halfword. -/
  | bkpWrite (req : Requester) (sel : BitVec 5) (data : BitVec 16)
  /-- PWRON_ASSERT (R526): Writing PWRON_CTRL.ASSERT pulls PWRON low. -/
  | pwronAssert (req : Requester)
  /-- PWRON_RELEASE (R526): Writing PWRON_CTRL.RELEASE releases PWRON, unless an enabled event coincides. -/
  | pwronRelease (req : Requester) (coincide : Bool)
  /-- PANEL_UPDATE (R541): UPDATE latches the image and band and runs the three passes. -/
  | panelUpdate (req : Requester)
  /-- CLEAR_REDRAW (R541): CLEAR_REDRAW clears every segment, then draws the image and the mark. -/
  | clearRedraw (req : Requester)
  /-- BALANCE (R542): BALANCE drives frames that reduce the DC accounts without changing the optical state. -/
  | balance (req : Requester)
  /-- HOST_WRITE_FRAME (R553): A complete SPI write frame is checked by its CRC and its words act in order. -/
  | hostWriteFrame (bytes : List Byte)
  /-- HOST_READ_FRAME (R550): A complete SPI read frame returns STATUS and data words. -/
  | hostReadFrame (bytes : List Byte)
  /-- I2C_ADDRESS_MATCH (R561): The clockless matcher sees its address and acknowledges, stretches or refuses, and
  may wake the device. -/
  | i2cAddressMatch (addr : BitVec 7) (read : Bool)
  /-- I2C_WRITE_TRANSACTION (R559): An I²C write with a correct PEC sets the pointer and writes permitted words. -/
  | i2cWriteTransaction (bytes : List Byte)
  /-- OPTICAL_CHAR_RECEIVED (R565): A received character enters the receive ring, or is counted as overrun. -/
  | opticalCharReceived (ch : Byte) (parity framing : Bool)
  /-- PULSE_START (R571): With pulses pending, a pulse starts at an output time-base tick and PENDk falls. -/
  | pulseStart (k : Fin 4)
  /-- PULSE_END (R571): WIDTH expires and the pulse output returns inactive. -/
  | pulseEnd (k : Fin 4)
  /-- DELIVERY_ARM (R575): ARM checks the delivery configuration and enters ARMED. -/
  | deliveryArm (req : Requester)
  /-- DELIVERY_START (R575): START latches the bases, energises V2 and enters RUNNING. -/
  | deliveryStart (req : Requester)
  /-- DELIVERY_STOP (R579): STOP aborts a running delivery or disarms an armed one. -/
  | deliveryStop (req : Requester)
  /-- DELIVERY_RESET (R575): RESET returns the controller to IDLE. -/
  | deliveryReset (req : Requester)
  /-- VALVE_OVERCURRENT (R574): A valve stage exceeds 0.6 A for 50 µs, switches off and aborts the delivery. -/
  | valveOvercurrent (v1 : Bool)
  /-- INC_POP (R578): A read of INC_POP removes and returns the oldest queued increment. -/
  | incPop (e : Eng)
  /-- HELLO_FRAME (R589): A HELLO frame from the peer is taken for pairing. -/
  | helloFrame (bytes : List Byte)
  /-- CERT_FRAME (R589): A CERT fragment is taken and the peer certificate is assembled and verified. -/
  | certFrame (bytes : List Byte)
  /-- PROOF_FRAME (R591): A PROOF frame is verified and the pairing conditions are checked. -/
  | proofFrame (bytes : List Byte)
  /-- STATUS_FRAME (R594): A STATUS frame updates the mark and the comparison window. -/
  | statusFrame (bytes : List Byte)
  /-- HANDOVER_FRAME (R597): A HANDOVER frame serves as the mark and removes the takeover holdoff. -/
  | handoverFrame (bytes : List Byte)
  /-- DETACH_FRAME (R596): A DETACH frame detaches the pair. -/
  | detachFrame (bytes : List Byte)
  /-- SERVICE_FRAME (R588): A SERVICE frame's payload enters K2's receive ring. -/
  | serviceFrame (bytes : List Byte)
  /-- ACK_FRAME (R586): An ACK ends the repeats of the frame that it acknowledges. -/
  | ackFrame (bytes : List Byte)
  /-- TWIN_PAIR (R591): TWIN_CTRL.CMD PAIR starts pairing. -/
  | twinPair (req : Requester)
  /-- TWIN_DETACH (R596): TWIN_CTRL.CMD DETACH sends DETACH and detaches. -/
  | twinDetach (req : Requester)
  /-- TWIN_RELEASE (R597): RELEASE closes the group, sends HANDOVER, stops SYNC and releases ROLE. -/
  | twinRelease (req : Requester)
  /-- ROLE_LINE_CHANGE (R597): The deglitched ROLE line changes level, which starts or cancels the takeover
  holdoff. -/
  | roleLineChange (low : Bool)
  /-- PERTURB_KEY_WRITE (R606): A host write to PERTURB_KEY advances the unlock sequence, unlocks or locks. -/
  | perturbKeyWrite (req : Requester) (key : BitVec 32)
  /-- PERTURB_TIMING_WRITE (R609): A PERTURB_TIMING write sets the handshake delay of one target. -/
  | perturbTimingWrite (req : Requester) (v : BitVec 32)
  /-- PERTURB_CLEAR (R610): PERTURB_FLOW CLEAR removes the settings of a unit or of all units. -/
  | perturbClear (req : Requester) (unit : BitVec 5) (value : BitVec 24)
  /-- STOP_OFFSET (R611): STOP_OFFSET sets an offset that is added to a lane's stop stamps. -/
  | stopOffset (req : Requester) (unit : BitVec 5) (value : BitVec 24)
  /-- DROP (R612): DROP keeps selected shots' firing ports in PARK. -/
  | drop (req : Requester) (unit : BitVec 5) (value : BitVec 24)
  /-- STALL (R613): STALL holds a result or engine queue as full. -/
  | stall (req : Requester) (unit : BitVec 5) (value : BitVec 24)
  /-- STALL_EXPIRY (R613): The stall time passes and the queue is released. -/
  | stallExpiry (q : Fin 7)
  /-- SYNTH_DT (R614): SYNTH_DT sets a synthetic Δt that is applied to a chord's result entries. -/
  | synthDt (req : Requester) (unit : BitVec 5) (value : BitVec 24)
  /-- TRAVERSE_TIME_TARGET (R441): The traverse time base reaches the target of a waiting AT, which ends the wait
  and returns tc. -/
  | traverseTimeTarget (e : Eng)
  /-- LOCKSTEP_MISMATCH (R405): The comparator finds that K1's outputs differ from K0's; the metrology fence rises
  with cause LOCKSTEP. -/
  | lockstepMismatch
  /-- METROLOGY_FENCE_RESET (R147): 20 µs after a metrology or bridge-parity fence rises, PD1 to PD7 are reset and
  BOOT follows. -/
  | metrologyFenceReset
  /-- BOOST_QUIET_LIMIT (R172): 2 ms after the boost stopped for quiet, it resumes and shots still open are marked
  RAIL_NOISE. -/
  | boostQuietLimit
  /-- DRIVE_OVERTEMP (R81): The Drive die comparator trips above 140 °C; ports park, the valves and boost stop,
  and the latch sets. -/
  | driveOvertemp
  /-- TRAVERSE_WAKE (R108): The traverse timer raises its wake WAKE_LEAD X32 periods ahead of the boundary. -/
  | traverseWake
  /-- TRAVERSE_BOUNDARY (R284): The traverse timer raises a boundary; tc increments, chord time bases restart and
  boundary-held settings apply. `ring` is the number of RING periods in the interval that ends (R340). -/
  | traverseBoundary (ring : W64)
  /-- ROTATION_STEP_DUE (R245): The rotation timer makes the next lane's calibration step due, or repeats a failed
  lane. -/
  | rotationStepDue
  /-- BLANK_ASSERT (R374): An accepted assertion of BLANK begins an episode that defers shots and holds
  conversions. -/
  | blankAssert
  /-- BLANK_DEASSERT (R374): An accepted deassertion of BLANK ends the episode, and the deferred queue begins to
  drain. -/
  | blankDeassert
  /-- BLANK_MAX_HOLD (R377): An episode reaches MAX_HOLD, ends, and sets BLANK_STUCK. -/
  | blankMaxHold
  /-- BLANK_COUNT_RESTART (R378): While RUN = 0, the episode count restarts every second on X32. -/
  | blankCountRestart
  /-- DISCHARGE_TIMEOUT (R366): A discharge with no crossing within 150 µs ends and marks the conversion
  OVER_RANGE. -/
  | dischargeTimeout
  /-- BACKUP_POWER_ON_RESET (R144): The backup rail falls below its reset threshold, which resets PD0 and every
  other domain. -/
  | backupPowerOnReset
  /-- BROWN_OUT (R91): The island rail stays low for 1 µs; PD1 to PD7 are reset and restart through BOOT. -/
  | brownOut
  /-- PFAIL_ASSERT (R96): PFAIL passes its deglitch; flags are set, the store and engines are warned, and rods are
  committed. -/
  | pfailAssert
  /-- PFAIL_DEASSERT (R458): The deglitched PFAIL deasserts, and held store writes resume. -/
  | pfailDeassert
  /-- VIN_RETURN (R100): VIN_OK has held for 20 ms after a fall, which sets VIN_RETURN flags and wakes and acts on
  PWRON. -/
  | vinReturn
  /-- ISLAND_VOLT_SETTLED (R89): A mode change or rail ramp completes and SETTLED returns to 1. -/
  | islandVoltSettled
  /-- SLEEP_ENTRY_COMPLETE (R110): Entry completes, and exit starts at once if a wake cause is latched. -/
  | sleepEntryComplete
  /-- SLEEP_EXIT_COMPLETE (R106): Exit completes: domains are restored, the rail and PLL return, and the engines
  resume after WAIT. -/
  | sleepExitComplete
  /-- PLL_LOCK (R118): The PLL reaches lock on a running reference. -/
  | pllLock
  /-- OVEN_WARM_QUALIFIED (R122): OVNRDY and XREF have held for WARM_QUAL and OVEN_WARM sets. -/
  | ovenWarmQualified
  /-- XHF_DEV_AGE_ADVANCE (R126): Each 86,400 s of the elapsed counter advances XHF_DEV_AGE. -/
  | xhfDevAgeAdvance
  /-- PLL_LOCK_LOSS (R132): The phase detector reports an unplanned loss of lock, which starts the safe state. -/
  | pllLockLoss
  /-- RELOCK_TIMEOUT (R131): The PLL has not relocked within 100 µs of a change or NAP exit, which is an unplanned
  loss. -/
  | relockTimeout
  /-- RETURN_QUAL_MET (R138): The reference has passed its monitors for RETURN_QUAL, so HOLD may be released. -/
  | returnQualMet
  /-- AUTO_FALLBACK (R139): FALLBACK_DELAY passes with no action, and the device selects XHF, or RING, as the PLL
  reference. -/
  | autoFallback
  /-- RESET_N_ASSERT (R145): An accepted low on RESET_N finishes the store page, commits the rods and resets PD1
  to PD7. -/
  | resetNAssert
  /-- SETTINGS_RESTORE_COMPLETE (R154): The store controller finishes restoring every RWT field, and the Core die
  may leave reset. -/
  | settingsRestoreComplete
  /-- IMAGE_VERIFY_COMPLETE (R160): The boot ROM finishes streaming and verifying an image, counts the trial,
  loads the rods and releases the engines. -/
  | imageVerifyComplete
  /-- ROD_RECORD_PERIODIC (R334): Every 1.000 s on the elapsed counter, the Abacus writes the rod record. -/
  | rodRecordPeriodic
  /-- STORE_PAGE_COMPLETE (R456): A persistent-store page write finishes, and the controller starts the next
  waiting page in priority order. -/
  | storePageComplete
  /-- CRYPT_COMPLETE (R453): An asynchronous crypto operation ends, writes its STATUS and signals the issuer. -/
  | cryptComplete
  /-- MAILBOX_OUT_READ (R410): A host read of MAILBOX_OUT removes the oldest outbound entry. -/
  | mailboxOutRead
  /-- UPD_VERIFY_COMPLETE (R495): Image verification ends and the session becomes VERIFIED or is refused. -/
  | updVerifyComplete
  /-- UPD_IDLE_TIMEOUT (R491): A session receives no command for IDLE_TIMEOUT and ends with TIMEOUT. -/
  | updIdleTimeout
  /-- TRIAL_DEADLINE (R499): The 86,400 s trial deadline passes while the trial image runs; the controller falls
  back and resets. -/
  | trialDeadline
  /-- CERT_READ (R480): CERT_READ copies the identity certificate to K2's port window. -/
  | certRead
  /-- RTC_SECOND (R507): At a second boundary the calendar advances and armed alarms are evaluated. -/
  | rtcSecond
  /-- RTC_COMMIT_EDGE (R517): At the commit edge, the staging set is checked and loaded, or refused. -/
  | rtcCommitEdge
  /-- X32_STOP_DETECT (R511): The clockless stop detector sees no X32 edge for 100 to 300 µs and sets SUSPECT. -/
  | x32StopDetect
  /-- PUMP_OK (R532): The charge pump reaches ±15 V and the first frame starts at the next X32 edge. -/
  | pumpOk
  /-- PANEL_FRAME_END (R531): A 655-period frame ends, updating the DC accounts and advancing the pass. -/
  | panelFrameEnd
  /-- PANEL_DISCHARGE_END (R543): The discharge ends; outputs float, the pump stops and a completed image becomes
  SHOWN. -/
  | panelDischargeEnd
  /-- SHOWN_CRC_CHECK (R546): Every 60 s, the CRC of SHOWN is checked against SHOWN_CRC. -/
  | shownCrcCheck
  /-- HOST_REPLAY_FRAME (R556): A REPLAY frame repeats the response of the last read. -/
  | hostReplayFrame
  /-- I2C_STRETCH_RELEASE (R562): The system port becomes ready and the matcher releases SCL. -/
  | i2cStretchRelease
  /-- I2C_STRETCH_TIMEOUT (R562): SCL has been held for 4 ms; it is released and the transaction is ignored. -/
  | i2cStretchTimeout
  /-- I2C_READ_WORD (R559): An I²C read returns a word with its CRC and advances the pointer. -/
  | i2cReadWord
  /-- OPTICAL_CHAR_SENT (R565): A character from the transmit ring completes on OPT_TX. -/
  | opticalCharSent
  /-- OPTICAL_WAKE_EDGE (R566): An OPT_RX edge wakes the device, and its character is discarded and counted. -/
  | opticalWakeEdge
  /-- V1_SOFT_START (R575): SOFT_T after START, V1 is energised. -/
  | v1SoftStart
  /-- RUNOUT_TIMEOUT (R577): CLOSE_T passes after closure and the run-out ends with RUNOUT_TIMEOUT. -/
  | runoutTimeout
  /-- DELIVERY_MAX_TIME (R579): MAX_TIME passes since START, and the delivery aborts with TIMEOUT. -/
  | deliveryMaxTime
  /-- LINK_UP (R585): 64 valid characters have been received, the Meridian link is UP and pairing may start. -/
  | linkUp
  /-- MERIDIAN_REQUEST (R587): K28.5 activity from the peer wakes a twin from DOZE or NAP. -/
  | meridianRequest
  /-- MERIDIAN_RETRY (R586): No ACK within 20 µs, so the frame is repeated, or dropped after 4 repeats. -/
  | meridianRetry
  /-- LINK_LOST (R588): No valid frame for 500 ms, so a paired link becomes LOST. -/
  | linkLost
  /-- PAIRING_RETRY (R591): Every 10 s while pairing fails, pairing starts again. -/
  | pairingRetry
  /-- PAIRING_SIGNATURE_COMPLETE (R591): The pairing sequencer finishes its signature and sends PROOF. -/
  | pairingSignatureComplete
  /-- PAIRING_TIMEOUT (R591): Pairing is not complete within 5 s and fails with TIMEOUT. -/
  | pairingTimeout
  /-- HANDOVER_ACK_TIMEOUT (R597): 1 ms passes without the HANDOVER ACK, and the principal releases ROLE anyway. -/
  | handoverAckTimeout
  /-- ROLE_TAKEOVER (R597): A fit check twin, after its holdoff, asserts ROLE and becomes principal. -/
  | roleTakeover
  /-- SYNC_EDGE (R593): A rising SYNC edge sets the check twin's boundary half a period later, or is ignored out
  of place. -/
  | syncEdge
  /-- BACKUP_RESET_RELEASE (R84): The backup rail rises above its release threshold; the power-on reset of PD0 is
  released and X32, the RTC and the matcher start from their reset values. -/
  | backupResetRelease
  /-- TRIM_CYCLE (R512): At the end of each free-running 2,097,152-edge trim cycle, a newly written TRIM takes
  effect. -/
  | trimCycle
  /-- REJOIN_WAIT_PASSED (R584): TWIN_CFG.REJOIN_WAIT elapses after boot without pairing, so a check twin becomes
  fit and may take ROLE that has long been released. -/
  | rejoinWaitPassed
  deriving DecidableEq, Repr

end Sys2Proof
end

