-- ==== Sys2Proof/Decode.lean ====
section
/-! DEFINITION. The Teique instruction word (ch. 14 and 15): the word of each instruction, which a trap frame shows, and
the instruction that an engine reads from a word; and the command that a word of the table of commands spells. -/
namespace Sys2Proof

/-! ## Formats (Table 14-4) -/

def formA (op : BitVec 6) (d a b : GReg) (fn : BitVec 11) : W32 := op ++ d ++ a ++ b ++ fn

def formI (op : BitVec 6) (d a : GReg) (imm : BitVec 16) : W32 := op ++ d ++ a ++ imm

def formM (op : BitVec 6) (d a : GReg) (slot mod : BitVec 8) : W32 := op ++ d ++ a ++ slot ++ mod

/-- The word of a Teique instruction (Table 14-5 and the entries of ch. 15), `none` for every other command. -/
def teiqueWord (i : Instr) : Option W32 :=
  match i with
  | .aluAdd _ d a b => some (formA 1#6 d a b 0#11)
  | .aluSub _ d a b => some (formA 1#6 d a b 1#11)
  | .aluAnd _ d a b => some (formA 1#6 d a b 2#11)
  | .aluOr _ d a b => some (formA 1#6 d a b 3#11)
  | .aluXor _ d a b => some (formA 1#6 d a b 4#11)
  | .aluShl _ d a b => some (formA 1#6 d a b 5#11)
  | .aluShr _ d a b => some (formA 1#6 d a b 6#11)
  | .aluSar _ d a b => some (formA 1#6 d a b 7#11)
  | .aluMin _ d a b => some (formA 1#6 d a b 8#11)
  | .aluMax _ d a b => some (formA 1#6 d a b 9#11)
  | .aluSlt _ d a b => some (formA 1#6 d a b 10#11)
  | .aluSltu _ d a b => some (formA 1#6 d a b 11#11)
  | .aluAdds _ d a b => some (formA 1#6 d a b 12#11)
  | .aluSubs _ d a b => some (formA 1#6 d a b 13#11)
  | .mulLow _ d a b => some (formA 5#6 d a b 0#11)
  | .mulHighSigned _ d a b => some (formA 5#6 d a b 1#11)
  | .mulHighUnsigned _ d a b => some (formA 5#6 d a b 2#11)
  | .div _ d a b => some (formA 6#6 d a b 0#11)
  | .divu _ d a b => some (formA 6#6 d a b 1#11)
  | .rem _ d a b => some (formA 6#6 d a b 2#11)
  | .remu _ d a b => some (formA 6#6 d a b 3#11)
  | .qmul _ d a b q => some (formA 7#6 d a b q)
  | .qdiv _ d a b q => some (formA 8#6 d a b q)
  | .mac _ a b => some (formA 9#6 0#5 a b 0#11)
  | .msu _ a b => some (formA 9#6 0#5 a b 1#11)
  | .aclr _ => some (formA 9#6 0#5 0#5 0#5 2#11)
  | .aread _ d sel => some (formA 9#6 d 0#5 sel 3#11)
  | .funcSqrt _ d a => some (formA 10#6 d a 0#5 0#11)
  | .funcLog2 _ d a => some (formA 10#6 d a 0#5 1#11)
  | .funcExp2 _ d a => some (formA 10#6 d a 0#5 2#11)
  | .funcRecip _ d a => some (formA 10#6 d a 0#5 3#11)
  | .funcClz _ d a => some (formA 10#6 d a 0#5 4#11)
  | .ret _ => some (formA 26#6 0#5 0#5 0#5 0#11)
  | .retTrap _ => some (formA 26#6 0#5 0#5 0#5 1#11)
  | .trap _ fn => some (formA 60#6 0#5 0#5 0#5 fn)
  | .brk _ => some (formA 63#6 0#5 0#5 0#5 0#11)
  | .tally _ rod a b => some (formA 48#6 rod a b 0#11)
  | .tallyTest _ rod a b => some (formA 48#6 rod a b 1#11)
  | .rodReadBinary _ d a => some (formA 49#6 d a 0#5 0#11)
  | .rodReadDecimal _ d a => some (formA 49#6 d a 0#5 1#11)
  | .rodSnapshot _ => some (formA 49#6 0#5 0#5 0#5 2#11)
  | .rodCommit _ => some (formA 49#6 0#5 0#5 0#5 3#11)
  | .psave _ d a b => some (formA 50#6 d a b 0#11)
  | .pload _ d a b => some (formA 51#6 d a b 0#11)
  | .wait _ => some (formA 56#6 0#5 0#5 0#5 0#11)
  | .sig _ dst fn => some (formA 57#6 dst 0#5 0#5 fn)
  | .hskSend _ a dst => some (formA 58#6 0#5 a dst 0#11)
  | .hskTrysend _ d a dst => some (formA 58#6 d a dst 1#11)
  | .hskRecv _ d => some (formA 58#6 d 0#5 0#5 2#11)
  | .hskPeek _ d => some (formA 58#6 d 0#5 0#5 3#11)
  | .hskFence _ => some (formA 58#6 0#5 0#5 0#5 4#11)
  | .hskKick _ => some (formA 58#6 0#5 0#5 0#5 5#11)
  | .sysRead _ d idx => some (formA 59#6 d 0#5 0#5 (0#4 ++ idx))
  | .sysWrite _ a idx => some (formA 59#6 0#5 a 0#5 (2#4 ++ idx))
  | .sysReset _ => some (formA 59#6 0#5 0#5 0#5 512#11)
  | .sysFenceRaise _ a => some (formA 59#6 0#5 a 0#5 513#11)
  | .sysFenceLower _ a => some (formA 59#6 0#5 a 0#5 514#11)
  | .hinit _ => some (formA 61#6 0#5 0#5 0#5 0#11)
  | .hupd _ a b => some (formA 61#6 0#5 a b 1#11)
  | .hfin _ a => some (formA 61#6 0#5 a 0#5 2#11)
  | .cryptVerify _ d a => some (formA 61#6 d a 0#5 3#11)
  | .qsign _ d a => some (formA 61#6 d a 0#5 4#11)
  | .modexp _ d a => some (formA 61#6 d a 0#5 5#11)
  | .addi _ d a imm => some (formI 2#6 d a imm)
  | .movi _ d imm => some (formI 3#6 d 0#5 imm)
  | .shi _ d imm => some (formI 4#6 d 0#5 imm)
  | .ld64 _ d a imm => some (formI 16#6 d a imm)
  | .ld32 _ d a imm => some (formI 17#6 d a imm)
  | .st64 _ d a imm => some (formI 18#6 d a imm)
  | .st32 _ d a imm => some (formI 19#6 d a imm)
  | .beq _ d a imm => some (formI 20#6 d a imm)
  | .bne _ d a imm => some (formI 21#6 d a imm)
  | .blt _ d a imm => some (formI 22#6 d a imm)
  | .bge _ d a imm => some (formI 23#6 d a imm)
  | .loop _ d imm => some (formI 27#6 d 0#5 imm)
  | .atTime _ d a imm => some (formI 39#6 d a imm)
  | .pace _ a imm => some (formI 40#6 0#5 a imm)
  | .jmp _ off => some (24#6 ++ off)
  | .call _ off => some (25#6 ++ off)
  | .fire _ d a slot mod => some (formM 32#6 d a slot mod)
  | .arm _ d a slot mod => some (formM 33#6 d a slot mod)
  | .stamp _ d a slot mod => some (formM 34#6 d a slot mod)
  | .capt _ d a slot mod => some (formM 35#6 d a slot mod)
  | .corr _ d a slot mod => some (formM 36#6 d a slot mod)
  | .statStart _ d a slot => some (formM 37#6 d a slot 0#8)
  | .statFeed _ d a slot => some (formM 37#6 d a slot 1#8)
  | .statRead _ a slot => some (formM 37#6 0#5 a slot 2#8)
  | .aux _ d slot mod => some (formM 38#6 d 0#5 slot mod)
  | .laneReadg _ d a slot => some (formM 41#6 d a slot 0#8)
  | .laneSnap _ d slot => some (formM 41#6 d 0#5 slot 1#8)
  | .laneCalall _ d slot => some (formM 41#6 d 0#5 slot 2#8)
  | .laneAssign _ d slot => some (formM 41#6 d 0#5 slot 3#8)
  | .laneFree _ d slot => some (formM 41#6 d 0#5 slot 4#8)
  | .registerWrite _ _ _ => none
  | .bridgeTransfer _ _ _ => none
  | .bridgeParityError _ => none
  | .bridgeLinkDown _ => none
  | .bridgeLinkUp _ => none
  | .parityError _ _ => none
  | .lockstepMismatch => none
  | .metrologyFenceReset => none
  | .watchdogExpiry _ => none
  | .fireCommandArrival _ _ => none
  | .fireEdge _ _ _ _ => none
  | .muteEnd _ => none
  | .burstEnd _ => none
  | .antiPhaseEnd _ => none
  | .clampEnd _ => none
  | .driveReachFail _ => none
  | .stopWindowOpen _ _ _ _ => none
  | .firstWaveTrip _ => none
  | .zeroCrossing _ _ _ _ => none
  | .amplifierClip _ => none
  | .clampConduct _ => none
  | .captureEnd _ _ => none
  | .correlationComplete _ => none
  | .stopWindowClose _ _ => none
  | .boostQuietLimit => none
  | .resultEntryDelivery _ => none
  | .dieTemperatureSample _ => none
  | .panelTemperatureSample _ => none
  | .driveOvertemp => none
  | .otClear _ _ => none
  | .traverseBoundary _ => none
  | .surveyRunWrite _ _ => none
  | .traverseWake => none
  | .rotationStepDue => none
  | .calibrationComplete _ _ => none
  | .blankAssert => none
  | .blankDeassert => none
  | .deferredShotFire _ => none
  | .blankMaxHold => none
  | .blankCountRestart => none
  | .settleSpanEnd _ => none
  | .auxConversionStart _ => none
  | .auxPhaseEnd _ _ => none
  | .dischargeTimeout => none
  | .resistanceConversionComplete _ => none
  | .bridgeConversionComplete _ _ => none
  | .selfTestStart _ => none
  | .selfTestComplete _ => none
  | .supplyMonitorChange _ _ _ _ => none
  | .supplyCurrentLimit _ _ => none
  | .vioLow _ => none
  | .backupPowerOnReset => none
  | .brownOut => none
  | .diePowerOnReset _ => none
  | .pfailAssert => none
  | .pfailDeassert => none
  | .vinReturn => none
  | .islandVoltWrite _ _ => none
  | .islandVoltSettled => none
  | .pwrDomainEnWrite _ _ => none
  | .domainDrainComplete _ => none
  | .domainReady _ => none
  | .devStateRequest _ _ => none
  | .sleepEntryComplete => none
  | .sleepExitComplete => none
  | .oscillatorStart _ => none
  | .pllLock => none
  | .clkSrcWrite _ _ => none
  | .pllCfgWrite _ _ => none
  | .clockSwitchComplete _ _ => none
  | .clockSwitchAbandon _ => none
  | .ovnrdyChange _ => none
  | .ovenWarmQualified => none
  | .xhfDevMeasure _ => none
  | .xhfDevAgeAdvance => none
  | .missingEdgeTrip _ => none
  | .pllLockLoss => none
  | .clockMonitorWindow _ _ => none
  | .relockTimeout => none
  | .returnQualMet => none
  | .holdReleaseWrite _ => none
  | .autoFallback => none
  | .clkGateWrite _ _ => none
  | .gateForceClose _ => none
  | .faultCauseAck _ => none
  | .resetNAssert => none
  | .resetNRelease _ => none
  | .devReset _ => none
  | .settingsRestoreComplete => none
  | .imageVerifyComplete => none
  | .rodRecordPeriodic => none
  | .storePageComplete => none
  | .postedStoreAcknowledged _ => none
  | .cryptComplete => none
  | .progDataWrite _ => none
  | .engineHalt _ _ => none
  | .engineStep _ => none
  | .mailboxInWrite _ => none
  | .mailboxOutRead => none
  | .logStageLow _ _ => none
  | .logStageHigh _ _ => none
  | .logSubmit _ _ => none
  | .clrLost _ => none
  | .storeProtectWrite _ _ => none
  | .storeDataRead _ => none
  | .storeDataWrite _ _ => none
  | .saveSettings _ => none
  | .hostSnapshot _ => none
  | .updOpen _ _ _ _ => none
  | .updBlock _ _ _ => none
  | .updBlockComplete _ => none
  | .updVerify _ _ => none
  | .updVerifyComplete => none
  | .updActivate _ _ => none
  | .updApply _ _ => none
  | .updClose _ _ => none
  | .updAbort _ _ => none
  | .updConfirm _ _ => none
  | .updIdleTimeout => none
  | .trialDeadline => none
  | .qreq _ => none
  | .qready _ => none
  | .certRead => none
  | .rtcSecond => none
  | .rtcTimeRead _ => none
  | .rtcCommit _ => none
  | .rtcCommitEdge => none
  | .x32StopDetect => none
  | .bkpWrite _ _ _ => none
  | .pwronAssert _ => none
  | .pwronRelease _ _ => none
  | .panelUpdate _ => none
  | .clearRedraw _ => none
  | .balance _ => none
  | .pumpOk => none
  | .panelFrameEnd => none
  | .panelDischargeEnd => none
  | .shownCrcCheck => none
  | .hostWriteFrame _ => none
  | .hostReadFrame _ => none
  | .hostReplayFrame => none
  | .i2cAddressMatch _ _ => none
  | .i2cStretchRelease => none
  | .i2cStretchTimeout => none
  | .i2cWriteTransaction _ => none
  | .i2cReadWord => none
  | .opticalCharReceived _ _ _ => none
  | .opticalCharSent => none
  | .opticalWakeEdge => none
  | .pulseStart _ => none
  | .pulseEnd _ => none
  | .deliveryArm _ => none
  | .deliveryStart _ => none
  | .deliveryStop _ => none
  | .deliveryReset _ => none
  | .v1SoftStart => none
  | .runoutTimeout => none
  | .deliveryMaxTime => none
  | .valveOvercurrent _ => none
  | .incPop _ => none
  | .linkUp => none
  | .meridianRequest => none
  | .helloFrame _ => none
  | .certFrame _ => none
  | .proofFrame _ => none
  | .statusFrame _ => none
  | .handoverFrame _ => none
  | .detachFrame _ => none
  | .serviceFrame _ => none
  | .ackFrame _ => none
  | .meridianRetry => none
  | .linkLost => none
  | .pairingRetry => none
  | .pairingSignatureComplete => none
  | .pairingTimeout => none
  | .twinPair _ => none
  | .twinDetach _ => none
  | .twinRelease _ => none
  | .handoverAckTimeout => none
  | .roleLineChange _ => none
  | .roleTakeover => none
  | .syncEdge => none
  | .perturbKeyWrite _ _ => none
  | .perturbTimingWrite _ _ => none
  | .perturbClear _ _ _ => none
  | .stopOffset _ _ _ => none
  | .drop _ _ _ => none
  | .stall _ _ _ => none
  | .stallExpiry _ => none
  | .synthDt _ _ _ => none
  | .backupResetRelease => none
  | .traverseTimeTarget _ => none
  | .trimCycle => none
  | .rejoinWaitPassed => none

/-- The instruction that an engine reads from a word, `none` where the word traps ILLEGAL (R390). -/
def decodeTeique (e : Eng) (w : W32) : Option Instr :=
  let d : GReg := field w 21 5
  let a : GReg := field w 16 5
  let b : GReg := field w 11 5
  let fn : BitVec 11 := field w 0 11
  let imm : BitVec 16 := field w 0 16
  let off : BitVec 26 := field w 0 26
  let slot : BitVec 8 := field w 8 8
  let mod : BitVec 8 := field w 0 8
  match (field w 26 6).toNat with
  | 0x1 =>
    if fn = 0#11 then some (.aluAdd e d a b)
    else if fn = 1#11 then some (.aluSub e d a b)
    else if fn = 2#11 then some (.aluAnd e d a b)
    else if fn = 3#11 then some (.aluOr e d a b)
    else if fn = 4#11 then some (.aluXor e d a b)
    else if fn = 5#11 then some (.aluShl e d a b)
    else if fn = 6#11 then some (.aluShr e d a b)
    else if fn = 7#11 then some (.aluSar e d a b)
    else if fn = 8#11 then some (.aluMin e d a b)
    else if fn = 9#11 then some (.aluMax e d a b)
    else if fn = 10#11 then some (.aluSlt e d a b)
    else if fn = 11#11 then some (.aluSltu e d a b)
    else if fn = 12#11 then some (.aluAdds e d a b)
    else if fn = 13#11 then some (.aluSubs e d a b)
    else none
  | 0x2 =>
    some (.addi e d a imm)
  | 0x3 =>
    if a = 0#5 then some (.movi e d imm)
    else none
  | 0x4 =>
    if a = 0#5 then some (.shi e d imm)
    else none
  | 0x5 =>
    if fn = 0#11 then some (.mulLow e d a b)
    else if fn = 1#11 then some (.mulHighSigned e d a b)
    else if fn = 2#11 then some (.mulHighUnsigned e d a b)
    else none
  | 0x6 =>
    if fn = 0#11 then some (.div e d a b)
    else if fn = 1#11 then some (.divu e d a b)
    else if fn = 2#11 then some (.rem e d a b)
    else if fn = 3#11 then some (.remu e d a b)
    else none
  | 0x7 =>
    some (.qmul e d a b fn)
  | 0x8 =>
    some (.qdiv e d a b fn)
  | 0x9 =>
    if d = 0#5 ∧ fn = 0#11 then some (.mac e a b)
    else if d = 0#5 ∧ fn = 1#11 then some (.msu e a b)
    else if d = 0#5 ∧ a = 0#5 ∧ b = 0#5 ∧ fn = 2#11 then some (.aclr e)
    else if a = 0#5 ∧ fn = 3#11 then some (.aread e d b)
    else none
  | 0xa =>
    if b = 0#5 ∧ fn = 0#11 then some (.funcSqrt e d a)
    else if b = 0#5 ∧ fn = 1#11 then some (.funcLog2 e d a)
    else if b = 0#5 ∧ fn = 2#11 then some (.funcExp2 e d a)
    else if b = 0#5 ∧ fn = 3#11 then some (.funcRecip e d a)
    else if b = 0#5 ∧ fn = 4#11 then some (.funcClz e d a)
    else none
  | 0x10 =>
    some (.ld64 e d a imm)
  | 0x11 =>
    some (.ld32 e d a imm)
  | 0x12 =>
    some (.st64 e d a imm)
  | 0x13 =>
    some (.st32 e d a imm)
  | 0x14 =>
    some (.beq e d a imm)
  | 0x15 =>
    some (.bne e d a imm)
  | 0x16 =>
    some (.blt e d a imm)
  | 0x17 =>
    some (.bge e d a imm)
  | 0x18 =>
    some (.jmp e off)
  | 0x19 =>
    some (.call e off)
  | 0x1a =>
    if d = 0#5 ∧ a = 0#5 ∧ b = 0#5 ∧ fn = 0#11 then some (.ret e)
    else if d = 0#5 ∧ a = 0#5 ∧ b = 0#5 ∧ fn = 1#11 then some (.retTrap e)
    else none
  | 0x1b =>
    if a = 0#5 then some (.loop e d imm)
    else none
  | 0x20 =>
    some (.fire e d a slot mod)
  | 0x21 =>
    some (.arm e d a slot mod)
  | 0x22 =>
    some (.stamp e d a slot mod)
  | 0x23 =>
    some (.capt e d a slot mod)
  | 0x24 =>
    some (.corr e d a slot mod)
  | 0x25 =>
    if mod = 0#8 then some (.statStart e d a slot)
    else if mod = 1#8 then some (.statFeed e d a slot)
    else if d = 0#5 ∧ mod = 2#8 then some (.statRead e a slot)
    else none
  | 0x26 =>
    if a = 0#5 then some (.aux e d slot mod)
    else none
  | 0x27 =>
    some (.atTime e d a imm)
  | 0x28 =>
    if d = 0#5 then some (.pace e a imm)
    else none
  | 0x29 =>
    if mod = 0#8 then some (.laneReadg e d a slot)
    else if a = 0#5 ∧ mod = 1#8 then some (.laneSnap e d slot)
    else if a = 0#5 ∧ mod = 2#8 then some (.laneCalall e d slot)
    else if a = 0#5 ∧ mod = 3#8 then some (.laneAssign e d slot)
    else if a = 0#5 ∧ mod = 4#8 then some (.laneFree e d slot)
    else none
  | 0x30 =>
    if fn = 0#11 then some (.tally e d a b)
    else if fn = 1#11 then some (.tallyTest e d a b)
    else none
  | 0x31 =>
    if b = 0#5 ∧ fn = 0#11 then some (.rodReadBinary e d a)
    else if b = 0#5 ∧ fn = 1#11 then some (.rodReadDecimal e d a)
    else if d = 0#5 ∧ a = 0#5 ∧ b = 0#5 ∧ fn = 2#11 then some (.rodSnapshot e)
    else if d = 0#5 ∧ a = 0#5 ∧ b = 0#5 ∧ fn = 3#11 then some (.rodCommit e)
    else none
  | 0x32 =>
    if fn = 0#11 then some (.psave e d a b)
    else none
  | 0x33 =>
    if fn = 0#11 then some (.pload e d a b)
    else none
  | 0x38 =>
    if d = 0#5 ∧ a = 0#5 ∧ b = 0#5 ∧ fn = 0#11 then some (.wait e)
    else none
  | 0x39 =>
    if a = 0#5 ∧ b = 0#5 then some (.sig e d fn)
    else none
  | 0x3a =>
    if d = 0#5 ∧ fn = 0#11 then some (.hskSend e a b)
    else if fn = 1#11 then some (.hskTrysend e d a b)
    else if a = 0#5 ∧ b = 0#5 ∧ fn = 2#11 then some (.hskRecv e d)
    else if a = 0#5 ∧ b = 0#5 ∧ fn = 3#11 then some (.hskPeek e d)
    else if d = 0#5 ∧ a = 0#5 ∧ b = 0#5 ∧ fn = 4#11 then some (.hskFence e)
    else if d = 0#5 ∧ a = 0#5 ∧ b = 0#5 ∧ fn = 5#11 then some (.hskKick e)
    else none
  | 0x3b =>
    if a = 0#5 ∧ b = 0#5 ∧ field fn 7 4 = 0#4 then some (.sysRead e d (field fn 0 7))
    else if d = 0#5 ∧ b = 0#5 ∧ field fn 7 4 = 2#4 then some (.sysWrite e a (field fn 0 7))
    else if d = 0#5 ∧ a = 0#5 ∧ b = 0#5 ∧ fn = 512#11 then some (.sysReset e)
    else if d = 0#5 ∧ b = 0#5 ∧ fn = 513#11 then some (.sysFenceRaise e a)
    else if d = 0#5 ∧ b = 0#5 ∧ fn = 514#11 then some (.sysFenceLower e a)
    else none
  | 0x3c =>
    if d = 0#5 ∧ a = 0#5 ∧ b = 0#5 then some (.trap e fn)
    else none
  | 0x3d =>
    if d = 0#5 ∧ a = 0#5 ∧ b = 0#5 ∧ fn = 0#11 then some (.hinit e)
    else if d = 0#5 ∧ fn = 1#11 then some (.hupd e a b)
    else if d = 0#5 ∧ b = 0#5 ∧ fn = 2#11 then some (.hfin e a)
    else if b = 0#5 ∧ fn = 3#11 then some (.cryptVerify e d a)
    else if b = 0#5 ∧ fn = 4#11 then some (.qsign e d a)
    else if b = 0#5 ∧ fn = 5#11 then some (.modexp e d a)
    else none
  | 0x3f =>
    if d = 0#5 ∧ a = 0#5 ∧ b = 0#5 ∧ fn = 0#11 then some (.brk e)
    else none
  | _ => none

/-- The table of commands gives no row any bits: a word spells no command. -/
def decodeTableWord (_nbits _w : Nat) : Option Instr := none

end Sys2Proof
end

