-- ==== Sys2Proof/Config.lean ====
section
/-! DEFINITION. What an implementation fixes and the spec leaves open: constants without a body, so that no proof
can see their values, and the factory defaults. -/
namespace Sys2Proof.Config

/-- A fresh 64-bit value for a number that the spec leaves open; the argument is the step counter of State. -/
opaque freeBits : Nat → W64

/-- The direction in which a result is rounded where the spec states no rounding: up, or down. -/
opaque roundUp : Nat → Bool

/-- The humid-air model of R352, whose tables the spec does not give: the second and third virial coefficients of the
mixture in m³/mol and m⁶/mol² by temperature and water mole fraction, the enhancement factor by pressure and
temperature, and the molar mass of the mixture in kg/mol. Temperature in 2⁻³² K, pressure in 2⁻³² Pa; the fraction and
every result at the scale 2¹⁶⁰. -/
opaque airB : Int → Int → Int
opaque airC : Int → Int → Int
opaque airEnhancement : Int → Int → Int
opaque airMass : Int → Int

/-- The identity private operation of the part: the signature it makes over a message (R480, R505). -/
opaque identitySign : List Byte → List Byte

/-- The certificate of the part's identity key, 0x100 + 512 bytes as ch. 17 lays it out (R480). -/
opaque identityCert : List Byte

/-- The public moduli of the two certificate authorities in the crypto engine's ROM (R591, Table 00-1). -/
opaque productionCa : Nat
opaque testCa : Nat

/-- The public modulus of the part's identity key. -/
opaque identityModulus : Nat

/-- DEV_REV: the die revisions and the sample bit of the part (Table 23-3). -/
opaque devRev : W32

/-- The serial number of the part. -/
opaque serial : W64

/-- The vendor's and owner's public moduli as provisioned at manufacture. -/
opaque vendorModulus : Fin 2 → Nat
opaque ownerModulus : Nat

end Sys2Proof.Config
end

