-- ==== Sys2Proof/Machine/State.lean ====
section
/-! DEFINITION. Everything the spec gives the device to remember, as plain data, the reasons a step can stop, and
the state right after reset. -/
namespace Sys2Proof.Machine

/-! ## The reasons a step can stop -/

/-- No command of this device stops the model with a fault: every row of the table has an effect the spec gives. -/
inductive Fault where
  deriving DecidableEq, Repr

/-- Why a command is refused. -/
inductive Refusal where
  /-- Raised by the dispatch alone, for a command that has no meaning yet. Safe: nothing is said of it. -/
  | notModelled (mnemonic : String)
  deriving DecidableEq, Repr

/-! ## Memories -/

/-- A sparse byte memory: addresses strictly rising, no entry equal to what an unlisted address reads as. -/
abbrev Mem := List Host.Cell

/-! ## Engines (R383 to R389, R403, R406, R408, R414, R415) -/

/-- Where a posted store goes (R414): the engine's data space, or a control register through SYS (R451). -/
inductive StoreTarget where
  | word64 (addr : Nat) (v : W64)
  | word32 (addr : Nat) (v : W32)
  | reg (idx : BitVec 7) (v : W32)
  deriving DecidableEq, Repr

/-- What a waiting or held instruction of an engine waits for (R104, R397, R408, R415, R435, R441, R443 to R447). -/
inductive Wait where
  /-- WAIT: the engine stands in DOZE (R104). -/
  | doze
  /-- HSK RECV on an empty queue (R408). -/
  | recv (d : GReg)
  /-- HSK SEND held until the earlier stores are acknowledged (R397). -/
  | sendHeld (payload : W64) (dst : BitVec 5)
  /-- HSK TRYSEND held until the earlier stores are acknowledged (R397). -/
  | tryHeld (d : GReg) (payload : W64) (dst : BitVec 5)
  /-- HSK SEND stalled on a full queue (R408). -/
  | sendFull (payload : W64) (dst : BitVec 5)
  /-- SIG held until the earlier stores are acknowledged (R397, R411). -/
  | sigHeld (dst : BitVec 5) (fn : BitVec 11)
  /-- HSK FENCE (R408). -/
  | fence
  /-- STAMP (`grid = false`) or CORR (`grid = true`) with no matching entry (R435). -/
  | entry (grid : Bool) (d : GReg) (addr : Nat) (slot : BitVec 8)
  /-- AT waiting for the time base to reach a target, or for the next boundary alone (R441). -/
  | atTarget (d : GReg) (target : W64)
  | atBoundary (d : GReg)
  /-- LANE CALALL (R443). -/
  | calAll (d : GReg)
  /-- LANE SNAP, until its record is written (R443). -/
  | snapWrite (d : GReg)
  /-- PSAVE until its page is written, and PLOAD until the store controller has served it (R446, R447). -/
  | psave (d : GReg)
  /-- ROD commit, until the journal entry, and where a SCALE is bound the rod record, is written (R331, R445). -/
  | commit (binds : Bool)
  deriving DecidableEq, Repr

/-- Why an engine was halted (Table 23-37). -/
inductive HaltCause where
  | none | host | brk | doubleTrap | step
  deriving DecidableEq, Repr

/-- One engine (Table 14-3, and what the traps, waits, stores and queues of ch. 14 and 15 give each engine). -/
structure Engine where
  /-- g0 to g31; g0 is held zero, every write to it discarded (R385). -/
  g : Vector W64 32
  pc : W32
  z : Bool
  n : Bool
  c : Bool
  v : Bool
  q : Bool
  acc : BitVec 128
  /-- Loop state of two levels (R388): inner in [63:0], outer in [127:64]. -/
  lc : BitVec 128
  /-- Program memory (R392), byte offsets. -/
  prog : Mem
  /-- Data memory (R393), byte offsets. -/
  data : Mem
  /-- ENGINE_CTRL.HALT of the engine (R400, R401). -/
  halt : Bool
  /-- Halted in debug mode by BRK (R402). -/
  brkHalt : Bool
  /-- Halted by a double trap (R404). -/
  dblHalt : Bool
  /-- ENGINE_STAT.IN_TRAP (R403). -/
  inTrap : Bool
  /-- ENGINE_STAT.LOADED (R400). -/
  loaded : Bool
  /-- ENGINE_CTRL.WD_EN, and the X32 periods counted since the last KICK (R406). -/
  wdEn : Bool
  wdCount : Nat
  /-- The system-event latch (R415). -/
  sysEvent : Bool
  /-- An event latched by a SIG addressed to the engine (R411). -/
  sigEvent : Bool
  /-- The instruction in progress that waits. -/
  wait : Option Wait
  /-- The posted stores not yet acknowledged, oldest first (R414, R397). -/
  stores : List StoreTarget
  /-- The inbound queue of eight entries, oldest first (R408). -/
  inbox : List W64
  deriving DecidableEq, Repr

/-- The five engines, K0 and K1 as one (R383). -/
structure Engines where
  s0 : Engine
  s1 : Engine
  k01 : Engine
  k2 : Engine
  k3 : Engine
  deriving DecidableEq, Repr

/-- ENGINE_CTRL, ENGINE_STAT, the program loader and the host's mailbox (Tables 23-36 to 23-38, R400 to R410). -/
structure EngineRegs where
  wdPeriod : BitVec 4
  debugEn : Bool
  haltCause : HaltCause
  haltEng : BitVec 3
  refused : Bool
  mbiOvf : Bool
  mboEmpty : Bool
  progAddr : BitVec 17
  progEng : BitVec 3
  /-- MAILBOX_OUT, a queue of four entries (R410). -/
  mailboxOut : List W32
  /-- Steps requested by a write of ENGINE_CTRL.STEP and not yet run (R402). -/
  stepReq : BitVec 5
  deriving DecidableEq, Repr

/-! ## Bridges and fences (R30 to R41) -/

/-- One die-to-die bridge (R40, R41). -/
structure BridgeSt where
  up : Bool
  /-- The transfer in progress has been repeated after one parity error (R41). -/
  repeated : Bool
  /-- The last transfer acknowledged, payload and tag (R40). -/
  last : Option (W64 × Byte)
  /-- Transfers requested while the clocks of the far island are stopped, held without acknowledgement, oldest first
  (R28). -/
  held : List (W64 × Byte)
  deriving DecidableEq, Repr

structure Bridges where
  senseN : BridgeSt
  senseS : BridgeSt
  keep : BridgeSt
  drive : BridgeSt
  deriving DecidableEq, Repr

/-- The causes that hold one cluster's fence up (R31). -/
structure Fence where
  parity : Bool
  lockstep : Bool
  watchdog : Bool
  clock : Bool
  down : Bool
  sys : Bool
  deriving DecidableEq, Repr

/-! ## Identity, events and the fault latch (Tables 23-2 to 23-10, R150) -/

/-- DEV_STATE (Table 23-4). -/
inductive DevState where
  | off | backup | boot | vigil | line | service | hold
  deriving DecidableEq, Repr

/-- The fault latch, bytes 56 to 58 of the backup registers (R150). -/
structure FaultLatch where
  code : Byte
  unit : Byte
  vinIlim : Bool
  vbatIlim : Bool
  reset : Bool
  more : Bool
  deriving DecidableEq, Repr

/-- The registers of the event and interrupt hub and DEV_STATE. -/
structure SysRegs where
  state : DevState
  refused : Bool
  left : DevState
  /-- A request made during HOLD has written LEFT, so that the release takes the set of Table 03-7 (R164). -/
  leftReq : Bool
  eventFlags : BitVec 24
  eventMask : BitVec 23
  scratch : W32
  deriving DecidableEq, Repr

/-! ## Power (R82 to R113, Tables 23-11 to 23-17) -/

/-- The input of the main regulator (R82). -/
inductive Source where
  | vin | vbat | none
  deriving DecidableEq, Repr

/-- A change of one domain's supply, up or down (R94). -/
structure DomainChange where
  pd : Fin 8
  up : Bool
  deriving DecidableEq, Repr

/-- A device-level sleep in progress (R104 to R113). -/
inductive SleepPhase where
  | awake
  /-- Entry started by the last WAIT; `slumber` or NAP. -/
  | entering (slumber : Bool)
  | asleep (slumber : Bool)
  | exiting (slumber : Bool)
  deriving DecidableEq, Repr

/-- The architectural state that SLUMBER saves of one engine (R106, R385). -/
structure SavedEngine where
  g : Vector W64 32
  pc : W32
  z : Bool
  n : Bool
  c : Bool
  v : Bool
  q : Bool
  acc : BitVec 128
  lc : BitVec 128
  tc : W64
  /-- The engine stood in WAIT, to resume after it. -/
  inWait : Bool
  deriving DecidableEq, Repr

structure Power where
  sleepLevel : BitVec 2
  demoted : Bool
  lastLevel : BitVec 2
  /-- PATH_SEL: `true` is BAT. -/
  pathBat : Bool
  wakeLead : Byte
  driveOt : Bool
  otRefused : Bool
  /-- The Drive die's sensor stood at or above 130 °C when the device last learnt its reading (R81). -/
  driveHot : Bool
  /-- PWR_DOMAIN_EN, PWR_DOMAIN_STAT.ON and READY, bit k for PDk. -/
  en : Byte
  on : Byte
  ready : Byte
  /-- The domain change in progress and those queued behind it (R94). -/
  change : Option DomainChange
  changes : List DomainChange
  vset : BitVec 5
  regHP : Bool
  settled : Bool
  voltRefused : Bool
  vinOk : Bool
  vbatOk : Bool
  vbkOk : Bool
  vbatLow : Bool
  pfail : Bool
  source : Source
  vinIlim : Bool
  vbatIlim : Bool
  vioLow : Bool
  vbatLowTh : BitVec 4
  wakeEn : BitVec 7
  wakeCause : Byte
  /-- VIN_OK has fallen while PD0 was powered and has not since returned (R100). -/
  vinFell : Bool
  sleep : SleepPhase
  /-- The slumber save area, engines in the order of their numbers; empty where invalid (R106, R113). -/
  saveArea : List SavedEngine
  deriving DecidableEq, Repr

/-! ## Reset and boot (R144 to R164) -/

/-- Which image an attempt of the boot ROM streams (R160, R161). -/
inductive ImageSource where
  | slotA | slotB | recovery
  deriving DecidableEq, Repr

structure Boot where
  /-- The power-on reset of PD0 acts (R144, R84). -/
  backupReset : Bool
  /-- RESET_N is accepted low (R145). -/
  pinLow : Bool
  /-- The level of the FTEST ball, as RESET_N_RELEASE last brought it (R62). -/
  ftest : Bool
  /-- Each die is held in reset (R39, R157). -/
  keepReset : Bool
  senseReset : Bool
  driveReset : Bool
  coreReset : Bool
  /-- The restore of R154 has completed since PD1 became ready. -/
  restored : Bool
  /-- The Abacus has loaded the rods (R160, R106). -/
  rodsLoaded : Bool
  /-- The boot ROM is mapped into K2 (R392). -/
  romMapped : Bool
  /-- The image attempt in progress, and those already failed (R160, R161). -/
  attempt : Option ImageSource
  failed : List ImageSource
  /-- The image that runs, once verified. -/
  running : Option ImageSource
  /-- A metrology or bridge-parity fence has risen and its reset is 20 µs away (R147, R35). -/
  fenceReset : Bool
  /-- The ROM has selected XHF and enabled the PLL (R159). -/
  romXhf : Bool
  /-- No image has verified: K2 accepts only update sessions (R161). -/
  noImage : Bool
  /-- STORE_STAT.DEFAULTS_USED of the last restore (R154). -/
  defaultsUsed : Bool
  deriving DecidableEq, Repr

/-! ## Clocks (R114 to R143, Tables 23-18 to 23-23) -/

/-- The PLL reference (CLK_SRC.PLL_REF). -/
inductive PllRef where
  | xref | xhf | ring
  deriving DecidableEq, Repr

structure Clock where
  xrefEn : Bool
  xhfEn : Bool
  xhfLp : Bool
  /-- CLK_SRC.PLL_REF as it reads, and the reference the multiplexer passes. -/
  refSel : PllRef
  refUse : PllRef
  /-- CLK_SRC.ENG_SRC = PLL, as it reads, and as the multiplexer passes. -/
  engPll : Bool
  engUse : Bool
  /-- A reference change held until the next boundary (R131). -/
  refHeld : Bool
  /-- A switch of each multiplexer is in progress (R127). -/
  refBusy : Bool
  engBusy : Bool
  xrefRun : Bool
  xhfRun : Bool
  x32Run : Bool
  pllEn : Bool
  kdiv : BitVec 7
  sdiv : BitVec 7
  pllLock : Bool
  /-- The PLL output has shown no edge (Table 04-4): the VCO stands still until the PLL locks again. -/
  pllStopped : Bool
  /-- The PLL is relocking after a planned loss (R121, R131). -/
  relocking : Bool
  ovnrdy : Bool
  ovenWarm : Bool
  oldDead : Bool
  switchFail : Bool
  ringForced : Bool
  cfgRefused : Bool
  gateForced : Bool
  xrefFail : Bool
  xhfFail : Bool
  x32Fail : Bool
  ringFail : Bool
  /-- CLK_GATE as written, and the gates that are open (R141, R143). -/
  gateReg : BitVec 14
  gateOpen : BitVec 14
  ovenFitted : Bool
  autoSwitch : Bool
  /-- OVEN_WARM has changed since AUTO_SWITCH last acted at a boundary (R125). -/
  warmMoved : Bool
  warmQual : Byte
  xhfDev : BitVec 16
  xhfDevAge : BitVec 6
  returnQual : BitVec 10
  fallbackDelay : Byte
  autoFallback : Bool
  autoRelease : Bool
  /-- The damp-force line (R42, R136). -/
  damp : Bool
  /-- The reference has passed its monitors for RETURN_QUAL (R138). -/
  qualMet : Bool
  /-- A fallback switch has started since the failure (R139). -/
  fellBack : Bool
  /-- A clock failure was detected during a sleep entry, so that the exit leads to HOLD (R140). -/
  holdOnExit : Bool
  deriving DecidableEq, Repr

/-! ## Chords and shots (ch. 06, 07, 09, 10) -/

/-- A sparse map from word offsets to 64-bit words; offsets strictly rising, no entry zero. -/
abbrev WMap := List (Nat × W64)

/-- The state of a port (Table 06-1). -/
inductive PortState where
  | park | drive | anti | clamp | released | listen
  deriving DecidableEq, Repr

/-- CHORD_STAT.STATE (Table 10-4). -/
inductive ChordState where
  | off | active | held | failed | probation
  deriving DecidableEq, Repr

/-- CHORD_STAT.PROB_FROM (R308). -/
inductive ProbFrom where
  | off | held | failed
  deriving DecidableEq, Repr

/-- The time-base grade (R123), in the coding of Table 08-9. -/
inductive Grade where
  | ovenWarm | crystal | ovenCold | ring
  deriving DecidableEq, Repr

/-- A shot command on its way from a Surveyor to a chord island (R27, R432 to R434). -/
structure ShotCmd where
  chord : Chord
  up : Bool
  listen : Bool
  /-- The chord mask of the code-division group; `none` for a shot fired alone. -/
  group : Option (BitVec 20)
  /-- Target fire time in lane periods from the traverse boundary. -/
  target : Nat
  /-- Issued by S1, otherwise by S0. -/
  fromS1 : Bool
  /-- The traverse in which it was issued (R286). -/
  tc : W64
  /-- Marks that the FIRE itself has decided (R433). -/
  marks : BitVec 38
  deriving DecidableEq, Repr

/-- A geometry record (Table 11-1): L, PHI and W in 2⁻³², τ and Δτ in ticks. -/
structure GeoRec where
  len : Int
  phi : Int
  weight : Int
  tau : Nat
  dtau : Int
  groups : BitVec 6
  lpf : BitVec 3
  deriving DecidableEq, Repr

/-- The meter record (Table 11-2): AREA, V_SUB_MIN and Q_CUTOFF in 2⁻³². -/
structure MeterRec where
  area : Int
  minChords : Nat
  gapLimit : Nat
  vSubMin : Int
  qCutoff : Int
  deriving DecidableEq, Repr

/-- FLUID (Table 12-1). -/
inductive FluidKind where
  | none | water | steam | air
  deriving DecidableEq, Repr

/-- ENERGY_MODE (Table 12-1). -/
inductive EnergyMode where
  | none | absolute | difference
  deriving DecidableEq, Repr

/-- SAT_MODE (Table 12-1). -/
inductive SatMode where
  | measured | fromP | fromT
  deriving DecidableEq, Repr

/-- The fluid record (Table 12-1), real-valued fields in 2⁻³². -/
structure FluidRec where
  fluid : FluidKind
  baseEn : Bool
  energy : EnergyMode
  satMode : SatMode
  tChan : Fin 4
  t2Chan : Fin 4
  pChanB : Bool
  gauge : Bool
  satBand : Nat
  diWc : Nat
  diShift : Nat
  tBase : Int
  pBase : Int
  rhBase : Int
  pAtm : Int
  hRef : Int
  dcFull : Int
  saFull : Int
  fsHold : Nat
  diAlarm : Nat
  a0 : Vector Int 20
  deriving DecidableEq, Repr

/-- How far a capture of a shot has come (R213, R217). -/
inductive CapPhase where
  | none | open | done
  deriving DecidableEq, Repr

/-- A shot that a chord island has accepted, with everything latched for it (R186, R201, R241, R260). -/
structure Shot where
  cmd : ShotCmd
  grid : Bool
  cdiv : Bool
  drive : W64
  rx : W64
  range : BitVec 3
  lane : Lane
  wOpen : BitVec 40
  wClose : BitVec 40
  corrcfg : W64
  pred : W64
  templates : WMap
  marks : BitVec 38
  grade : Grade
  /-- tc[7:0] at the fire edge. -/
  trav : Byte
  /-- The fire edge has come. -/
  fired : Bool
  ts : BitVec 40
  /-- The coarse count of the lane clock at the fire edge (R176, R182). -/
  edgeAt : BitVec 24
  /-- The firing port was released with its high side on: the transducer discharges through the 10 kΩ (R182). -/
  discharges : Bool
  muted : Bool
  winOpen : Bool
  /-- The coarse count at which the first-wave detector tripped (R209, R212). -/
  tripAt : Option (BitVec 24)
  /-- The coarse counts of the crossings counted since the trip, oldest first (R210). -/
  counted : List (BitVec 24)
  /-- The stop stamp (crossing timing) or the grid stamp (grid timing), with and without a test offset (R611). -/
  tp : Option (BitVec 40)
  tpRaw : Option (BitVec 40)
  /-- Start and stop stamps by the other lane of a comparison (R246). -/
  shadowTs : Option (BitVec 40)
  shadowTp : Option (BitVec 40)
  /-- Coarse count at a release inside the window, whose blanking still runs (R220). -/
  relAt : Option (BitVec 24)
  cap : CapPhase
  /-- The traverse time base at the end of the capture, as far as known (R216). -/
  capEnd : Int
  /-- Correlator result words, once correlation has ended before the window closed. -/
  res : Option (W64 × W64)
  peak : BitVec 6
  /-- Cut short under R192 or R136. -/
  cut : Bool
  deriving DecidableEq, Repr

/-- A result entry (Table 15-5). -/
structure Entry where
  chord : Chord
  grid : Bool
  toS1 : Bool
  /-- The traverse in which its shot was issued (R286). -/
  tc : W64
  w0 : W64
  w1 : W64
  w2 : W64
  w3 : W64
  deriving DecidableEq, Repr

/-- What the survey program knows of one chord for one traverse, fixed at its boundary (R186, R297, R317). -/
structure ChordCfg where
  enabled : Bool
  /-- HALF of the profile of the band in force, and SNR_MIN of the correlator word. -/
  half : Nat
  snrMin : Nat
  /-- The geometry record in force, `none` where it is absent or invalid, and whether its LPF is that of both receive
  entries (R317). -/
  geo : Option GeoRec
  lpfOk : Bool
  deriving DecidableEq, Repr

/-- The entries of one chord's pair that the owner has collected (R286, R295). -/
structure Pair where
  down : Option Entry
  up : Option Entry
  deriving DecidableEq, Repr

/-- How long an interval lasted, in 1/12,800,000,000 s: a lane period is 32 of them, an X32 period 390,625; and the
elapsed counter at the boundary that ended it. `lane` says that it was counted in lane periods, `x32Bad` that X32_FAIL
was set in it (R339, R340). -/
structure Span where
  units : Nat
  lane : Bool
  x32Bad : Bool
  endAt : BitVec 48
  deriving DecidableEq, Repr

/-- A traverse that has not closed (R284 to R289). -/
structure Traverse where
  tc : W64
  /-- The elapsed counter at its boundary (R303, R304). -/
  startedAt : BitVec 48
  /-- Its interval, once the boundary that ends it has come (R324); `void` where RUN was cleared in it, so that it does not
  accrue (R326). -/
  ended : Option Span
  void : Bool
  /-- The method and the firing in force (R290). -/
  grid : Bool
  cdiv : Bool
  /-- LATE_START at its boundary, and the test mark (R288, R608). -/
  late : Bool
  test : Bool
  abandoned : Bool
  /-- The owner has fired in it (R289); the shots in the order in which they were fired, `true` for up (R311). -/
  fired : Bool
  order : List (Chord × Bool)
  /-- Shots scheduled in it whose entries are not yet collected (R287). -/
  owed : Nat
  pairs : Vector Pair 20
  cfg : Vector ChordCfg 20
  meter : Option MeterRec
  fluid : FluidRec
  deriving DecidableEq, Repr

/-- A chord's ledger entry, as firmware has saved it to the survey ledger record (R283, Table 16-4). -/
structure Ledger where
  state : ChordState
  probFrom : ProbFrom
  probCount : BitVec 4
  lastAccept : Option (BitVec 48)
  seedAt : Option (BitVec 48)
  dtRef : Option Int
  sos : Option Int
  times : Option (Int × Int)
  seedTimes : Option (Int × Int)
  reacqCount : BitVec 3
  reacqDt : Option Int
  deriving DecidableEq, Repr

/-- One chord: its island, its ports and what the survey knows of it. -/
structure ChordSt where
  /-- The RW words of the chord window in force, by byte offset, and the writes held to a boundary (R394, R395). -/
  live : WMap
  heldW : WMap
  /-- The capture area, by word (Table 07-6), and the correlator area (Table 09-2). -/
  cap : WMap
  corr0 : W64
  corr1 : W64
  corr2 : W64
  corr3 : W64
  /-- Prediction writes applied since the last boundary, down and up (R261). -/
  predFreshD : Bool
  predFreshU : Bool
  portA : PortState
  portB : PortState
  /-- The port of a DRIVE_FAULT stays parked; `faultB` says that it is XB (R190). -/
  shorted : Bool
  faultB : Bool
  range : BitVec 3
  lastRange : BitVec 3
  peakDn : BitVec 6
  peakUp : BitVec 6
  /-- Largest peak of the traverse, a clip step in it, and a write of RXG since the last boundary (R205, R206). -/
  travPeak : Option (BitVec 6)
  clipStep : Bool
  rxgWritten : Bool
  /-- GAIN_LIMIT marks both shots of the traverse (R205). -/
  gainLimit : Bool
  /-- Shots accepted and waiting for their fire edge, the shot in flight, and shots being correlated. -/
  waiting : List Shot
  cur : Option Shot
  correlating : List Shot
  /-- Result entries that have not entered the Sense result queue, oldest first (R48). -/
  unsent : List Entry
  state : ChordState
  probFrom : ProbFrom
  probCount : BitVec 4
  /-- The elapsed counter at the boundaries of the last accepted pair before probation, and of the last accepted pair
  within it (R304, R308); `none` where there is none, or where the ledger has been emptied. -/
  lastAccept : Option (BitVec 48)
  seedAt : Option (BitVec 48)
  /-- The rest of the ledger entry (R283, R303): Δt_ref in ticks, c̄ in 2⁻³² m/s, the delay-corrected times of the last
  accepted pair before probation and of the last one within it, the re-acquisition count and the Δt counted last. -/
  dtRef : Option Int
  sos : Option Int
  times : Option (Int × Int)
  seedTimes : Option (Int × Int)
  reacqCount : BitVec 3
  reacqDt : Option Int
  /-- The entry in the survey ledger record, while no traverse has closed since it was saved (R283). -/
  saved : Option Ledger
  /-- The entry as it was when a boundary turned the chord OFF, for traverses in which it was fired and that have not closed
  (R310). -/
  last : Option Ledger
  /-- The chord has carried a perturbation mark since the unlock (R616). -/
  perturbed : Bool
  deriving DecidableEq, Repr

/-! ## Lanes (ch. 08) -/

structure LaneSt where
  coarse : BitVec 24
  /-- The graticule, 256 widths in ticks; empty before any calibration. -/
  grat : List Nat
  valid : Bool
  /-- LANE_MAP.OUT of the lane, and out of service for good (R248). -/
  out : Bool
  dead : Bool
  calibrating : Bool
  /-- log2 of the hit count of the calibration in progress, and of the one that wrote the graticule. -/
  logH : Nat
  gratH : Nat
  /-- Consecutive failures (R248). -/
  fails : Nat
  /-- The hit histogram: 256 counters of 25 bits, empty while all are zero (R223, R237). The noise oscillator runs
  while the lane calibrates. -/
  hist : List Nat
  deriving DecidableEq, Repr

/-- The phase of a rotation step (R246, R247): due, takeover while a shot is still in flight on the lane, calibration,
sanity check passed, shadow phase, comparison passed. -/
inductive StepPhase where
  | due | takeover | calibrating | passed | shadow | returning
  deriving DecidableEq, Repr

structure RotStep where
  lane : Lane
  phase : StepPhase
  /-- The differences of the counting shots so far (R246). -/
  diffs : List Int
  /-- With HOLD_CAL, the chord is uncovered during the step (R249). -/
  uncovered : Bool
  deriving DecidableEq, Repr

structure LaneRegs where
  spareFor : BitVec 5
  /-- L20 holds its chord by an ASSIGN, or for a failed lane (R225, R248). -/
  assigned : Bool
  /-- The chord is held by an ASSIGN (R443). -/
  byAssign : Bool
  /-- Assignment changes requested by LANE for the next boundary (R443). -/
  assignNext : Option Chord
  freeNext : Bool
  step : Option RotStep
  /-- A step that came due while another was running (R245). -/
  stepWaiting : Bool
  /-- The safe state has ended a step: L20 keeps its chord until the release of HOLD (Table 08-7). -/
  returnHeld : Bool
  /-- The lane last visited by the rotation. -/
  lastVisited : Option Lane
  /-- The lane whose step is repeated at the next step time (R248, R250). -/
  repeatLane : Option Lane
  /-- The engine whose LANE CALALL runs (R239). -/
  calAll : Bool
  rotEn : Bool
  rotPeriod : BitVec 10
  vrotPeriod : Byte
  hits : BitVec 4
  vhits : BitVec 4
  retry : BitVec 2
  holdCal : Bool
  deriving DecidableEq, Repr

/-! ## Survey (ch. 10, Tables 23-24 to 23-31) -/

structure Survey where
  run : Bool
  /-- TIMING (grid), FIRING (CDIV), AGC_HOLD, BOOST_EN and VDRV_SET as written and as in force (R255, R290, R208, R173). -/
  timingReg : Bool
  grid : Bool
  firingReg : Bool
  cdiv : Bool
  agcHoldReg : Bool
  agcHold : Bool
  boostEnReg : Bool
  boostEn : Bool
  vdrvSetReg : Byte
  vdrvSet : Byte
  boostQuiet : Bool
  bandForce : Bool
  bandSel : BitVec 3
  /-- The last reading of the Sense die's sensor in 1/128 °C, its band with hysteresis (R184), and the band in force
  (R185). -/
  senseTemp : Int
  sensorBand : BitVec 3
  band : BitVec 3
  /-- VDRV_OK as the last FIRE command that was accepted sampled it (R170). -/
  vdrvOk : Bool
  /-- The boost has stopped for quiet (R172). -/
  boostStopped : Bool
  lateStart : Bool
  overrun : Bool
  portFault : Bool
  ownerS1 : Bool
  chordEnReg : BitVec 20
  chordEn : BitVec 20
  /-- HOLD_CFG. -/
  holdTime : BitVec 10
  dtAbs : Byte
  dtRel : Byte
  sosShift : BitVec 3
  reacq : BitVec 3
  resultSeq : W32
  /-- The traverse counter of both Surveyors (R389) and the traverse time base in lane periods (R27, R284). -/
  tc : W64
  timeBase : Nat
  /-- TRAV_PERIOD in force, in µs, and a value waiting for the boundary (R284). -/
  travPeriod : Nat
  travNext : Option Nat
  /-- Boundaries counted by the timer during SLUMBER (R389). -/
  sleepCount : Nat
  /-- The elapsed counter at the boundary of the traverse in progress (R303, R304). -/
  boundaryAt : BitVec 48
  /-- The traverses that have not closed, oldest first (R287). -/
  traverses : List Traverse
  /-- No traverse has fired since the power-fail warning (R289). -/
  afterWarning : Bool
  /-- Shot commands on their way to the chord islands. -/
  inTransit : List ShotCmd
  /-- The Sense result queues (R48) and their stalls (R613). -/
  queueN : List Entry
  queueS : List Entry
  /-- Entries delivered to S0 and S1 and not collected (R435, R436). -/
  resS0 : List Entry
  resS1 : List Entry
  /-- CHORD_STAT.SEL of each requester: S0, S1, K0–K1, K2, K3, host ports (R624). -/
  sel : Vector (BitVec 5) 6
  deriving DecidableEq, Repr

/-! ## Statistics (R251, R252, R438, R439) -/

/-- The running figures of one quantity. -/
structure Moments where
  s1 : Int
  s2 : Int
  min : Int
  max : Int
  deriving DecidableEq, Repr

structure StatSet where
  n : Nat
  count : Nat
  starterS1 : Bool
  addr : Nat
  dn : Moments
  up : Moments
  dt : Moments
  firstLane : BitVec 5
  switched : Bool
  grade : BitVec 2
  done : Bool
  deriving DecidableEq, Repr

/-! ## Auxiliary front end (ch. 13, Tables 23-32 to 23-35) -/

/-- A request for a conversion (R360, R440): channels 0 to 3 are RTD0 to RTD3, 4 and 5 are PB0 and PB1. -/
structure AuxReq where
  ch : Fin 6
  forced : Bool
  notify : Bool
  fromS1 : Bool
  /-- The conversion was held or restarted by BLANK (R376). -/
  deferred : Bool
  deriving DecidableEq, Repr

/-- The phases of a resistance conversion (Table 13-3). -/
inductive AuxPhase where
  | zero | ref | elem | lead
  deriving DecidableEq, Repr

/-- A conversion in progress: the phases still to run, the current one first, and the sums of the times so far. -/
structure AuxConv where
  req : AuxReq
  phases : List AuxPhase
  zeroT : Nat
  refT : Nat
  elemT : Nat
  leadT : Nat
  /-- Marks gathered, in the order of Table 13-6. -/
  marks : BitVec 10
  deriving DecidableEq, Repr

/-- What a resistance channel keeps of its last conversion for pairing (R365): averaged phase times, each as a sum
over 2^REP runs, the polarity, the word, the completion time and the marks. -/
structure AuxPartner where
  zeroT : Nat
  refT : Nat
  elemT : Nat
  leadT : Nat
  pol : Bool
  cfg : W64
  tDone : BitVec 48
  marks : BitVec 10
  deriving DecidableEq, Repr

/-- An auxiliary entry of the result page (Table 23-71). -/
structure AuxEntry where
  raw : W64
  value : W64
  tDone : BitVec 48
  seq : Byte
  pol : Bool
  marks : BitVec 10
  deriving DecidableEq, Repr

structure AuxIsl where
  queue : List AuxReq
  cur : Option AuxConv
  /-- The channel whose settle span runs (R371). -/
  settling : Option (Fin 6)
  /-- The channel that the multiplexer and the excitation last served. -/
  lastCh : Option (Fin 6)
  deriving DecidableEq, Repr

/-- An entry of the deferred queue of the blank controller (R375). -/
structure Deferred where
  target : Nat
  members : List Chord
  deriving DecidableEq, Repr

structure Aux where
  rtdEn : BitVec 4
  pbEn : BitVec 2
  clampHold : Bool
  /-- The clamps stand armed from the reset of the Sense die until the device next enters LINE or VIGIL (Table 02-8,
  R163). -/
  clampReset : Bool
  selfTest : Bool
  /-- RH_SET as written and as in force (R343). -/
  rhSet : BitVec 10
  rhInForce : BitVec 10
  queueFull : Bool
  blankStuck : Bool
  blankChatter : Bool
  stFail : BitVec 6
  /-- RCFG0 to RCFG3, PCFG0 and PCFG1: in force, and written during a conversion of the channel (R359, R395). -/
  cfg : Vector W64 6
  cfgHeld : Vector (Option W64) 6
  res : AuxIsl
  pres : AuxIsl
  /-- The polarity of the next conversion of each resistance channel: `true` is s = −1 (R364). -/
  pol : Vector Bool 4
  partner : Vector (Option AuxPartner) 4
  entry : Vector AuxEntry 6
  clamp : BitVec 27
  blankEn : Bool
  blankAux : Bool
  blankResume : Byte
  blankMaxHold : BitVec 16
  /-- An episode is in progress; the accepted level of BLANK; BLANK is ignored until its deassertion (R377). -/
  blankActive : Bool
  blankLevel : Bool
  blankIgnored : Bool
  blankCount : Nat
  /-- The chatter limit has acted in this count (R378). -/
  chattered : Bool
  deferred : List Deferred
  deriving DecidableEq, Repr

/-! ## Test perturbation (ch. 22, Tables 23-64 and 23-65) -/

/-- A flow perturbation written and not yet latched (R610). -/
inductive FlowSet where
  | clear (unit : BitVec 5)
  | stopOffset (l : Lane) (v : BitVec 24)
  | drop (c : Chord) (dirs : BitVec 2) (traverses : Byte)
  | synth (c : Chord) (v : BitVec 24)
  deriving DecidableEq, Repr

/-- DROP of one chord (R612): the directions, and the traverses left (`none`: until cleared). -/
structure DropSet where
  dirs : BitVec 2
  left : Option Nat
  deriving DecidableEq, Repr

structure Perturb where
  unlocked : Bool
  /-- PERTURB_STAT bit 1: KEY_HALF while locked, PT_REFUSED while unlocked (R627). -/
  bit1 : Bool
  delayed : BitVec 6
  offset : BitVec 6
  drops : BitVec 6
  stalls : BitVec 6
  synths : BitVec 6
  target : BitVec 5
  delay : Vector Byte 32
  stopOffset : Vector (BitVec 24) 22
  drop : Vector DropSet 20
  synth : Vector (BitVec 24) 20
  /-- Queues held as full: Sense-N, Sense-S, then engines 0 to 4 (R613). -/
  stalled : Vector Bool 7
  /-- Stalls that end by themselves, VALUE being other than 0 (Table 22-5). -/
  stallTimed : Vector Bool 7
  /-- Settings written since the last boundary, oldest first (R610). -/
  flow : List FlowSet
  /-- A lock has come, so that the flow settings cease at the next boundary (R607, R616). -/
  lockPending : Bool
  /-- The traverse in progress has shown unlocked at some moment (R605). -/
  travTest : Bool
  deriving DecidableEq, Repr

/-! ## Event log staging and the calendar (R473, ch. 18) -/

/-- An event-log entry staged in the Keep event island (R473). -/
structure LogEntry where
  data : W32
  secs : BitVec 34
  subsec : BitVec 15
  code : BitVec 12
  source : BitVec 3
  deriving DecidableEq, Repr

structure EventLog where
  /-- Staged entries, oldest first; the stage holds 16 (R473). -/
  staged : List LogEntry
  lost : Byte
  /-- Entries have been lost since the last one written (R473). -/
  lossNew : Bool
  /-- DATA staged by each requester: S0, S1, K0–K1, K2, K3 (R625). -/
  stagedData : Vector W32 5
  deriving DecidableEq, Repr

/-- A calendar time: year 0 to 199 from 2000, month and day from 1 (R509). -/
structure CalTime where
  sec : BitVec 6
  min : BitVec 6
  hour : BitVec 5
  day : BitVec 5
  month : BitVec 4
  year : Byte
  deriving DecidableEq, Repr

/-- One alarm (R519 to R522): its match set, its masks from SEC upwards, and its flags. -/
structure Alarm where
  sec : BitVec 6
  min : BitVec 6
  hour : BitVec 5
  day : BitVec 5
  month : BitVec 4
  wday : BitVec 3
  mask : BitVec 6
  arm : Bool
  fired : Bool
  skipped : Bool
  refused : Bool
  deriving DecidableEq, Repr

/-- One requester's shadow of RTC_DATE and SUBSEC (R514, R515). -/
structure RtcShadow where
  day : BitVec 5
  month : BitVec 4
  year : Byte
  subsec : BitVec 15
  stale : Bool
  deriving DecidableEq, Repr

/-- The backup island: calendar, alarms, elapsed counter, backup registers and PWRON (ch. 18). -/
structure Rtc where
  cal : CalTime
  subsec : BitVec 15
  /-- The elapsed counter (R338). -/
  elapsed : BitVec 48
  /-- The part of an X32 period that has passed, in units of 2⁻⁵ / 25,000,000 s (R508; the model's own time base). -/
  phase : Nat
  /-- The staging set (R516). -/
  staged : CalTime
  commit : Bool
  cmtRefused : Bool
  wrapped : Bool
  suspect : Bool
  /-- X32 has run since the backup power-on reset, so that the stop detector is armed (R511). -/
  x32Seen : Bool
  /-- RTC_SUBSEC.TRIM as written, and as in force since the last trim cycle began (R512). -/
  trim : BitVec 11
  trimNow : BitVec 11
  /-- The shadows of S0, S1, K0–K1, K2, K3 and the host ports (R515). -/
  shadow : Vector RtcShadow 6
  alarm0 : Alarm
  alarm1 : Alarm
  /-- Backup bytes 0 to 55 (R523). -/
  bkp : Mem
  /-- Backup bytes 59 to 62 (Table 18-2); SUSPECT is `suspect`. -/
  panelInt : Bool
  bootCount : BitVec 16
  timeSet : Bool
  /-- PWRON_CTRL.SRC and the output (R526, R527). -/
  pwronSrc : BitVec 4
  pwron : Bool
  deriving DecidableEq, Repr

/-! ## Panel (ch. 19) -/

/-- The commands of PANEL_CTRL.CMD (R539). -/
inductive PanelCmd where
  | update | clearRedraw | balance
  deriving DecidableEq, Repr

/-- Where a panel command stands (R532, R541, R543): the pump starts, frames are driven, the discharge runs. -/
inductive PanelPhase where
  | pumping | driving | discharging
  deriving DecidableEq, Repr

/-- A command in progress, with what it latched (R539). -/
structure PanelRun where
  cmd : PanelCmd
  image : BitVec 96
  /-- The frame entries of the latched band, LEN of them. -/
  wave : List (BitVec 16)
  phase : PanelPhase
  /-- Pass 1 to 3 in progress, 0 outside a pass. -/
  pass : Nat
  /-- Frames of the pass, or of BALANCE, already driven; and the frames of a BALANCE. -/
  frame : Nat
  frames : Nat
  /-- The panel fence cut the command short (Table 19-6). -/
  cut : Bool
  deriving DecidableEq, Repr

/-- The panel's registers and retention block in port-guard north (R530, R536), and the command in progress. -/
structure Panel where
  /-- NEXT, 0x000 and 0x008 of the panel area. -/
  next : BitVec 128
  shown : BitVec 96
  /-- LEN at 0x020 and the waveform entries from 0x400 on, by byte offset; and writes held until BUSY falls (R535). -/
  wave : WMap
  waveHeld : WMap
  /-- DC accounts of segments 0 to 95 and of COM (R544). -/
  acct : Vector (BitVec 16) 97
  crc : BitVec 16
  shownCrc : BitVec 16
  bandForce : Bool
  bandSel : BitVec 3
  balFrames : BitVec 7
  dcMax : Byte
  pumpOk : Bool
  /-- The latched band. -/
  band : BitVec 3
  bandShift : Bool
  tempRange : Bool
  reason : BitVec 3
  shownValid : Bool
  shownFail : Bool
  interrupted : Bool
  markSuppressed : Bool
  dcWarn : Bool
  /-- The band of the sensor with its hysteresis, and its last reading in 1/128 °C (R537, R538). -/
  sensorBand : BitVec 3
  reading : Int
  run : Option PanelRun
  /-- A check of SHOWN fell due during a command (R546). -/
  checkDue : Bool
  deriving DecidableEq, Repr

/-! ## The Abacus (ch. 11) -/

/-- The value of a rod (Table 11-4): COUNT is kept as an exact integer, RESIDUE in 2⁻⁶⁴ quanta. -/
structure RodValue where
  count : Int
  residue : W64
  rollover : Byte
  sat : Bool
  deriving DecidableEq, Repr

structure RodSt where
  val : RodValue
  /-- Quanta per base unit, Q32.32; 0 while unbound. -/
  scale : W64
  deriving DecidableEq, Repr

/-- What the Abacus keeps of the last traverse that was not a gap (R334 to R336): the rates q, q_b, q_m and q_e, the
destination, the carried remainders and the interval end, where known. -/
structure Figures where
  rates : Vector W64 4
  dest : BitVec 2
  tc : W64
  rems : Vector W64 4
  intervalEnd : Option (BitVec 48)
  deriving DecidableEq, Repr

/-- A copy of the rod record (R334). No rule lays out its payload, so that it is held as what it says. -/
structure RodRecord where
  seq : W32
  rods : Vector RodSt 16
  jseq : Nat
  fig : Figures
  elapsed : BitVec 48
  secs : BitVec 34
  subsec : BitVec 15
  /-- The ACTIVATION mark (R496, R497). -/
  activation : Bool
  deriving DecidableEq, Repr

/-- A journal entry (R335): K0–K1's entries carry figures. It does not carry SCALE (R329). -/
structure JEntry where
  jseq : Nat
  byK3 : Bool
  changes : List (Rod × RodValue)
  fig : Option Figures
  deriving DecidableEq, Repr

structure Abacus where
  closed : Vector RodSt 16
  /-- Open values, of the group of the engine that tallies the rod (R330, R331). -/
  opened : Vector RodSt 16
  /-- The rods that the open groups of K0–K1 and of K3 have changed, and those whose SCALE they bind. -/
  touched : BitVec 16
  bound : BitVec 16
  shadow : Vector RodSt 16
  snap : Vector RodSt 16
  snapSeq : W32
  jseq : Nat
  /-- Journal entries since the last rod record (R334). -/
  sinceRecord : Nat
  fig : Figures
  /-- Frozen at the last closed group by a metrology fence (R34). -/
  frozen : Bool
  /-- The elapsed counter when a traverse that was not a gap last closed (R493). -/
  lastClose : Option (BitVec 48)
  /-- The restored record carried the ACTIVATION mark (R497). -/
  activation : Bool
  deriving DecidableEq, Repr

/-! ## Persistent store and code store (ch. 16) -/

/-- Who asked for a record write: an engine by PSAVE, the host, or the metrology firmware of K0–K1 by itself (R320). -/
inductive SaveBy where
  | engine (e : Eng) | host | metrology
  deriving DecidableEq, Repr

/-- The requests of the store controller (R459). -/
inductive StoreKind where
  | rodRecord (activation : Bool)
  | journal (en : JEntry)
  | logEntry
  | record (id : BitVec 16) (by_ : SaveBy)
  | pload (e : Eng) (d : GReg) (addr : Nat) (id : BitVec 16)
  | raw
  | interval (e : Eng)
  | snapshot (e : Eng) (l : Lane)
  deriving DecidableEq, Repr

/-- A request with the pages still to write, address and bytes; `none` before the controller has laid it out. -/
structure StoreReq where
  kind : StoreKind
  payload : List Byte
  pages : Option (List (Nat × List Byte))
  /-- Asked for before the power-fail warning, so that R458 lets it be served. -/
  early : Bool
  deriving DecidableEq, Repr

structure Store where
  /-- The ferroelectric array apart from the rod record and the journal, whose layouts no rule gives. -/
  array : Mem
  rodA : Option RodRecord
  rodB : Option RodRecord
  /-- The valid entries of the journal ring, at most one per slot (R335). -/
  journal : List JEntry
  /-- The code store; an unlisted byte reads 0xFF, erased (R477). -/
  code : Mem
  /-- The request whose first page is being written, and those that wait, in arrival order. -/
  flight : Option StoreReq
  waiting : List StoreReq
  pfw : Bool
  recordConflict : Bool
  /-- A settings save of the host, or a raw write, is in progress (STORE_STAT.BUSY). -/
  hostSave : Bool
  rawBusy : Bool
  saveStatus : BitVec 3
  rawRefused : Bool
  protectRefused : Bool
  logRefused : Bool
  bp : BitVec 2
  /-- A write of BP = 11 waits for its rod record (R468). -/
  bpWait : Bool
  addr : BitVec 23
  codeSpace : Bool
  /-- Newest event-log SEQ and LINK (R471). -/
  logSeq : W32
  logHead : BitVec 128
  deriving DecidableEq, Repr

/-! ## Keys, update sessions and the crypto engine (ch. 17, R452, R453) -/

inductive KeyState where
  | empty | valid | retired
  deriving DecidableEq, Repr

/-- A public modulus: the one provisioned at manufacture, or one that a set has brought. -/
inductive KeyRef where
  | factory | loaded (modulus : Nat)
  deriving DecidableEq, Repr

structure KeySlot where
  state : KeyState
  key : KeyRef
  deriving DecidableEq, Repr

/-- The key store (Table 17-1). The identity key pair is fixed at manufacture and stands in Config. -/
structure Keys where
  v0 : KeySlot
  v1 : KeySlot
  /-- The owner slot; the device is SEALED exactly while it holds a key (R482). -/
  owner : Option Nat
  updLock : Bool
  deriving DecidableEq, Repr

/-- UPD_STAT.STATE (Table 17-6, R492). -/
inductive UpdState where
  | idle | opened | downloading | downloaded | verifying | verified | activating | suspended | applying
  deriving DecidableEq, Repr

/-- The commands that take time (R494, R495). -/
inductive UpdJob where
  | block | verify
  deriving DecidableEq, Repr

structure Update where
  /-- UPD_CTRL as written. -/
  kindReg : BitVec 2
  resumeReg : Bool
  portReg : BitVec 2
  blockReg : BitVec 10
  state : UpdState
  code : BitVec 5
  owner : BitVec 2
  job : Option UpdJob
  /-- The session: kind, slot (2: recovery), L once known, next block; and its state when suspended. -/
  kind : BitVec 2
  slot : BitVec 2
  len : Option Nat
  nextBlock : Nat
  stored : UpdState
  /-- The block buffer of 4096 bytes and the check word (R488). -/
  buffer : Mem
  check : W32
  flowLimit : BitVec 20
  idleTimeout : Byte
  noCell : Bool
  qBusy : Bool
  qReady : Bool
  certRead : Bool
  deriving DecidableEq, Repr

/-- The asynchronous crypto operations (Table 15-12). -/
inductive CryptOp where
  | verify | qsign | modexp
  deriving DecidableEq, Repr

/-- An operation in progress: the issuer, its descriptor, the destination, and the result that it will write at its
end, with its STATUS. -/
structure CryptJob where
  op : CryptOp
  eng : Eng
  desc : Nat
  dest : Nat
  status : W64
  result : List Byte
  /-- REG_MODE and VSET to return to, where QSIGN has raised them (R505). -/
  raised : Option (Bool × BitVec 5)
  deriving DecidableEq, Repr

structure Crypt where
  /-- The messages hashed so far in the contexts of K0–K1 and K2 (R452). -/
  ctxK01 : List Byte
  ctxK2 : List Byte
  job : Option CryptJob
  deriving DecidableEq, Repr

/-! ## Ports, outputs and delivery (ch. 20) -/

/-- How far an I²C transaction has come (R559, R561, R562). -/
inductive I2cPhase where
  | idle | write | read | stretching (read : Bool) | ignoring
  deriving DecidableEq, Repr

structure Ports where
  i2cWr : Bool
  i2cStretch : Bool
  optFmt : Bool
  optBaud : BitVec 3
  optTxInv : Bool
  optRxInv : Bool
  /-- STATUS of the last host frame, WSEQ, and what REPLAY returns: N, STATUS and the data bytes (R552, R556). -/
  status : Byte
  wseq : BitVec 4
  lastRead : Option (Nat × Byte × List Byte)
  i2c : I2cPhase
  i2cPtr : BitVec 16
  /-- Answer of the last I²C byte or word: acknowledged, and the bytes returned. -/
  i2cAck : Bool
  i2cOut : List Byte
  /-- Free-running pointers of the receive and transmit rings, modulo 512 and so that full and empty differ, and the
  counters of discarded characters (R565, R566). -/
  rxWr : BitVec 12
  rxRd : BitVec 12
  txWr : BitVec 12
  txRd : BitVec 12
  overrun : BitVec 16
  wakeLost : W64
  /-- The rest of K2's port window, by offset (R393, R553, R588). -/
  win : Mem
  deriving DecidableEq, Repr

/-- One pulse output (Table 20-6): its word, its counters and the level of a pulse in progress. -/
structure PulseOut where
  cfg : W64
  acc : W64
  pend : W32
  active : Bool
  deriving DecidableEq, Repr

structure Outputs where
  own : BitVec 5
  legal : BitVec 5
  po : Vector PulseOut 4
  aoCfg : W64
  aoVal : BitVec 16
  /-- The last code before AO took its fail level, where AOVAL has been stored since (R573). -/
  aoHeld : Option (BitVec 16)
  /-- The latest traverse that was not a gap had q < 0 (Table 20-7). -/
  reverse : Bool
  deriving DecidableEq, Repr

/-- DELIVERY_STAT.STATE (Table 23-60). -/
inductive DelivState where
  | idle | armed | running | trim | closing | done | aborted
  deriving DecidableEq, Repr

structure Delivery where
  cfg : W64
  preset : BitVec 40
  trimAt : BitVec 40
  ovr : BitVec 40
  ovrMax : BitVec 40
  qStop : W64
  state : DelivState
  reason : BitVec 4
  final : Bool
  cmdRefused : Bool
  cfgLocked : Bool
  valveFault : Bool
  trimSkipped : Bool
  runoutTimeout : Bool
  learned : Bool
  mismatch : Bool
  v1 : Bool
  v2 : Bool
  /-- Values of the source rod and of rod 10 at START, in 2⁻⁶⁴ quanta with roll-overs counted (R575). -/
  base : Int
  base10 : Int
  /-- DELIVERED and D at closure, in 2⁻⁶⁴ quanta (R576). -/
  delivered : Int
  dClose : Int
  /-- Consecutive closed traverses with |q| ≤ Q_STOP in the run-out, and whether learning is still allowed (R577). -/
  quiet : Nat
  learnOk : Bool
  /-- The comparison with rod 10 is due (R578). -/
  compareDue : Bool
  incs : List W64
  incLost : Byte
  deriving DecidableEq, Repr

/-! ## Twin (ch. 21) -/

/-- TWIN_STAT.ROLE (R581). -/
inductive Role where
  | solo | principal | check
  deriving DecidableEq, Repr

/-- TWIN_STAT.LINK. -/
inductive Link where
  | down | up | paired | lost
  deriving DecidableEq, Repr

/-- A frame on its way to the peer (R586): TYPE, SEQ and payload, and the repeats made so far. -/
structure MerFrame where
  typ : Byte
  seq : Byte
  payload : List Byte
  repeats : Nat
  deriving DecidableEq, Repr

/-- Pairing in progress (R591). -/
structure Pairing where
  hello : List Byte
  peerHello : Option (List Byte)
  /-- The peer's certificate as far as assembled, its TOTAL, and its modulus once it has verified. -/
  certPart : List Byte
  certTotal : Option Nat
  peerKey : Option Nat
  /-- A signature runs; ours has been sent; the peer's has verified. -/
  signing : Bool
  proofSent : Bool
  proofOk : Bool
  /-- REG_MODE and VSET to return to, where the signature has raised the regulator (R505, R591). -/
  raised : Option (Bool × BitVec 5)
  deriving DecidableEq, Repr

/-- A STATUS or HANDOVER payload (Table 21-3). -/
structure StatusRec where
  tc : W64
  dest : Byte
  grade : Byte
  role : Byte
  probation : Bool
  dev : W32
  rods : Vector RodValue 8
  deriving DecidableEq, Repr

/-- The check twin's mark (R594). -/
structure TwinMark where
  status : StatusRec
  own : Vector RodSt 8
  rates : Vector W64 4
  dest : BitVec 2
  /-- The own part has been taken, at the group of the paired traverse. -/
  taken : Bool
  deriving DecidableEq, Repr

/-- A comparison window in progress (R595): own volume in 2⁻⁶⁴ quanta. -/
structure TwinWindow where
  count : Nat
  startP : Int
  lastP : Int
  vc : Int
  ok : Bool
  lastTc : W64
  deriving DecidableEq, Repr

structure Twin where
  en : Bool
  seat : Bool
  role : Role
  /-- The device holds ROLE low; the line, deglitched, reads low. -/
  holds : Bool
  lineLow : Bool
  link : Link
  pairFail : BitVec 4
  linkErr : Byte
  /-- SEQ of the next frame sent, and of the last frame delivered. -/
  sendSeq : Byte
  lastSeq : Option Byte
  out : List MerFrame
  pairing : Option Pairing
  /-- Detached by command: pairing waits for CMD = PAIR (R591). -/
  detached : Bool
  /-- Since the last boot the link has been PAIRED, or REJOIN_WAIT has passed (R584). -/
  rejoin : Bool
  /-- HANDOVER has been received; a RELEASE waits for the acknowledgement of its own (R597). -/
  handover : Bool
  releasing : Bool
  syncDrive : Bool
  syncFault : Bool
  /-- A SYNC edge has come in place since the last boundary; the first one after pairing is yet to come. -/
  edgeSeen : Bool
  firstEdge : Bool
  probation : Bool
  probCount : BitVec 5
  /-- STATUS frames of the traverse in progress: received and sent. -/
  statusIn : Bool
  noMark : Bool
  staleMark : Bool
  winSkip : Bool
  dev : BitVec 24
  devValid : Bool
  devAlarm : Bool
  wseq : BitVec 6
  mark : Option TwinMark
  /-- Own boundaries since the mark's frame arrived. -/
  markAge : Nat
  window : Option TwinWindow
  /-- The own volume of the group in progress: TALLY increments to rod 0 minus those to rod 1 (R595). -/
  ownVolume : Int
  /-- An adoption is due at the next group closure (R598, R599). -/
  adopt : Bool
  /-- The adoption of R599 waits for the first STATUS after pairing. -/
  adoptPaired : Bool
  deriving DecidableEq, Repr

/-! ## What K0–K1 compute (ch. 11, 12, R367, R370)

Breino metrology firmware, fixed in the image. Real values are whole numbers of 2⁻³² of their unit. -/

/-- The front-end record (Table 13-4): R_REF, and by channel R_nom, A, B, C and the bridge coefficients. -/
structure FrontRec where
  rRef : Int
  rNom : Vector Int 4
  a : Vector Int 4
  b : Vector Int 4
  c : Vector Int 4
  pa : Vector (Vector Int 4) 2
  deriving DecidableEq, Repr

/-- The sums of a block of qualifying traverses: Σ v_i and Σ v̄_G (R320). -/
structure SubBlock where
  v : Int
  g : Int
  deriving DecidableEq, Repr

/-- What is learnt of one chord (R320): the block in progress with its traverses, the complete blocks, newest first, and
the slot of the newest. -/
structure SubChord where
  count : Nat
  cur : SubBlock
  done : List SubBlock
  newest : Nat
  deriving DecidableEq, Repr

/-- DEST of a traverse (Tables 11-3, 23-69). -/
inductive Dest where
  | legal | error | gap | test
  deriving DecidableEq, Repr

/-- One chord of a traverse block, in the layout of a chord record without V and C (R311, Table 23-67). A time is absent
where the chord has neither accepted nor held times. -/
structure ChordRec where
  times : Option (BitVec 40 × BitVec 40)
  laneDn : Option (BitVec 5)
  laneUp : Option (BitVec 5)
  range : BitVec 3
  state : ChordState
  probFrom : ProbFrom
  probCount : BitVec 4
  grade : BitVec 2
  peakDn : BitVec 6
  peakUp : BitVec 6
  corrected : Bool
  rejected : Bool
  dtFail : Bool
  sumFail : Bool
  cycleFail : Bool
  reacquired : Bool
  held : Bool
  noGeom : Bool
  fenced : Bool
  marksDn : W64
  marksUp : W64
  /-- The pair of the traverse was accepted. -/
  accepted : Bool
  deriving DecidableEq, Repr

/-- A traverse block (R311). -/
structure TravBlock where
  tc : W64
  order : List (Chord × Bool)
  grade : BitVec 2
  abandoned : Bool
  late : Bool
  test : Bool
  validChords : Nat
  recs : Vector ChordRec 20
  deriving DecidableEq, Repr

/-- The rates of a traverse: q, and q_b, q_m and q_e where they are yielded (R323, R344). -/
structure Rates where
  q : Int
  qb : Option Int
  qm : Option Int
  qe : Option Int
  deriving DecidableEq, Repr

/-- What a closed traverse gives its interval (R322, R325): `rates` is absent where it has none of its own, `dev` is the
deviation of its lane periods in 10⁻⁷ (R312), and the limit of a run of gaps is that of its meter record. -/
structure TravFlow where
  tc : W64
  rates : Option Rates
  dest : Dest
  dev : Int
  gapLimit : Option Nat
  deriving DecidableEq, Repr

/-- The increment of one interval, as K0–K1 hand it to TALLY (R322 to R325): the rates used, the magnitudes, `none` where
the quantity is not tallied, the direction, the remainders carried on and the end of the interval. `dest` is where it
goes: for a gap the destination of the traverse whose rates it takes. -/
structure Increment where
  tc : W64
  rates : Option Rates
  dest : Dest
  isGap : Bool
  reverse : Bool
  line : Option Int
  base : Option Int
  mass : Option Int
  energy : Option Int
  rems : Vector Int 4
  intervalEnd : BitVec 48
  deriving DecidableEq, Repr

/-- FS_STAT (Table 12-5). -/
inductive FsStat where
  | ok | held | noInput | outOfDomain | wrongPhase | noFluid
  deriving DecidableEq, Repr

/-- The inputs of an evaluation in use (R347, Table 12-3): line temperature and absolute pressure, return temperature,
and the relative humidity in 0.1 %; `none` for one that the record does not require. -/
structure FsInputs where
  t : Option Int
  p : Option Int
  t2 : Option Int
  rh : BitVec 10
  deriving DecidableEq, Repr

/-- What an evaluation gives (R349 to R353): the status with current inputs, the quantities of R351, the base density
and the return enthalpy where they have a value, and the flags SAT_USED and BASE_DOMAIN. -/
structure FsEval where
  stat : FsStat
  rho : Int
  enth : Int
  w : Int
  t : Int
  p : Int
  rhoBase : Option Int
  h2 : Option Int
  satUsed : Bool
  baseDomain : Bool
  deriving DecidableEq, Repr

/-- The fluid state of K0–K1 (R347 to R357). -/
structure FluidSt where
  /-- The inputs and the record of the last evaluation, and what it gave (R348). -/
  inputs : Option FsInputs
  used : FluidRec
  eval : Option FsEval
  /-- The latest valid result of each auxiliary channel with its completion time, whether the latest is valid, and whether
  K0–K1 have still to take it (R347, R373). -/
  valid : Vector (Option (Int × BitVec 48)) 6
  latestOk : Vector Bool 6
  fresh : Vector Bool 6
  stat : FsStat
  /-- DI_s in 2⁻¹⁶, DI, and the dryness alarm given (R356, R357). -/
  diS : Int
  di : Nat
  diLow : Bool
  /-- When a change of FS_STAT was last logged, and the changes counted since (R355). -/
  loggedAt : Option (BitVec 48)
  changes : Nat
  deriving DecidableEq, Repr

/-- What K0–K1 hold of the flow computation (R311 to R327). -/
structure Flow where
  /-- The records in force (R317, R341, R367). -/
  geo : Vector (Option GeoRec) 20
  meter : Option MeterRec
  fluid : FluidRec
  front : Option FrontRec
  subs : Vector SubChord 20
  /-- The block of the last traverse that closed (R311). -/
  block : Option TravBlock
  /-- A closed traverse whose interval has not ended, and the last one that was not a gap (R324, R325). -/
  waiting : Option TravFlow
  prior : Option TravFlow
  /-- q of the traverse that closed last and was not a gap (R493, R569). -/
  lastQ : Int
  /-- The remainders of R324, in 2⁻³² of the unit times 1/12,800,000,000 s. -/
  rems : Vector Int 4
  /-- The length of the run of gaps, and of its part that is unmetered (R325). -/
  gapRun : Nat
  unmetered : Nat
  /-- The start of a span without traverses that the next boundary ends: HOLD, SLUMBER, or with `reset` a reset (R326,
  R337); and the moment since which RUN = 0 (R326). -/
  spanFrom : Option (Option (BitVec 48))
  spanReset : Bool
  stopped : Option (BitVec 48)
  /-- The interval in progress: its lane periods, the PLL has been in lock throughout, X32_FAIL has been set (R339,
  R340). -/
  ticks : Nat
  locked : Bool
  x32Bad : Bool
  /-- The increments issued and not yet committed, oldest first, and the one that the last group of K0–K1 accounted (R324,
  R331). -/
  incs : List Increment
  acct : Option Increment
  fs : FluidSt
  deriving DecidableEq, Repr

/-! ## The state -/

structure State where
  /-- Commands that are waiting, first in, first out. -/
  pending : List Instr
  /-- The model's own counter of free values. -/
  freeCtr : Nat
  /-- The word that the last register read with a row of its own returned: the model's own, where the reader finds
  it. -/
  readOut : W64
  eng : Engines
  er : EngineRegs
  br : Bridges
  /-- One fence per cluster, in the order of the UNIT codes from 0x20 (Table 23-8). -/
  fences : Vector Fence 38
  sys : SysRegs
  fault : FaultLatch
  pwr : Power
  boot : Boot
  clk : Clock
  chords : Vector ChordSt 20
  lanes : Vector LaneSt 22
  lr : LaneRegs
  sv : Survey
  fl : Flow
  stats : Vector (Option StatSet) 20
  aux : Aux
  pt : Perturb
  log : EventLog
  rtc : Rtc
  pn : Panel
  ab : Abacus
  st : Store
  keys : Keys
  upd : Update
  cr : Crypt
  prt : Ports
  out : Outputs
  dl : Delivery
  tw : Twin
  /-- Common SRAM, banks 0 to 3, by offset; and the areas of the result page that K0–K1 write (R393, R396). -/
  sram : Mem
  page : Mem
  /-- The straps ADDRSEL1 and ADDRSEL0, which the matcher samples at every START (R69, R558). -/
  addrSel : BitVec 2
  deriving DecidableEq, Repr

/-! ## The state right after reset (R619, ch. 23)

Registers take the Reset column of ch. 23, RWT fields their factory defaults; what the spec gives no reset value for is
zero or empty. -/

def W64.zero32 : Vector W64 32 := Vector.replicate 32 0#64

/-- An engine after a reset of its domain (Tables 23-36, 23-37); `halted` as ENGINE_CTRL.HALT resets it. -/
def Engine.reset (halted : Bool) (pc : W32) : Engine :=
  { g := W64.zero32, pc := pc, z := false, n := false, c := false, v := false, q := false, acc := 0#128, lc := 0#128,
    prog := [], data := [], halt := halted, brkHalt := false, dblHalt := false, inTrap := false, loaded := false,
    wdEn := false, wdCount := 0, sysEvent := false, sigEvent := false, wait := none, stores := [], inbox := [] }

/-- The first address of the boot ROM in K2's program space (R392); its entry point, which no rule gives. -/
def romBase : W32 := 0x00100000#32

def Engines.reset : Engines :=
  { s0 := Engine.reset true 0#32, s1 := Engine.reset true 0#32, k01 := Engine.reset true 0#32,
    k2 := Engine.reset false romBase, k3 := Engine.reset true 0#32 }

def EngineRegs.reset : EngineRegs :=
  { wdPeriod := 15#4, debugEn := false, haltCause := .none, haltEng := 0#3, refused := false, mbiOvf := false,
    mboEmpty := true, progAddr := 0#17, progEng := 0#3, mailboxOut := [], stepReq := 0#5 }

def BridgeSt.down : BridgeSt := { up := false, repeated := false, last := none, held := [] }

def Bridges.reset : Bridges := ⟨BridgeSt.down, BridgeSt.down, BridgeSt.down, BridgeSt.down⟩

def Fence.clear : Fence := ⟨false, false, false, false, false, false⟩

/-- A fence held up by an unpowered domain (R31, R38). -/
def Fence.unpowered : Fence := ⟨false, false, false, false, true, false⟩

def SysRegs.reset : SysRegs :=
  { state := .boot, refused := false, left := .off, leftReq := false, eventFlags := 0#24, eventMask := 0#23, scratch := 0#32 }

/-- The power registers after a reset that reaches PD1, the supplies present on VIN (Tables 23-11 to 23-17). -/
def Power.reset : Power :=
  { sleepLevel := 0#2, demoted := false, lastLevel := 0#2, pathBat := false, wakeLead := 4#8, driveOt := false,
    otRefused := false, driveHot := false, en := 0x5F#8, on := 0x01#8, ready := 0x01#8, change := none, changes := [], vset := 4#5,
    regHP := true, settled := false, voltRefused := false, vinOk := true, vbatOk := false, vbkOk := false,
    vbatLow := true, pfail := false, source := .vin, vinIlim := false, vbatIlim := false, vioLow := false,
    vbatLowTh := 4#4, wakeEn := 0#7, wakeCause := 0#8, vinFell := false, sleep := .awake, saveArea := [] }

def Boot.reset : Boot :=
  { backupReset := false, pinLow := false, ftest := false, keepReset := true, senseReset := true,
    driveReset := true, coreReset := true, restored := false, rodsLoaded := false, romMapped := true, attempt := none,
    failed := [], running := none, fenceReset := false, romXhf := false, noImage := false, defaultsUsed := false }

def Clock.reset : Clock :=
  { xrefEn := false, xhfEn := false, xhfLp := false, refSel := .ring, refUse := .ring, engPll := false, engUse := false,
    refHeld := false, refBusy := false, engBusy := false, xrefRun := false, xhfRun := false, x32Run := false,
    pllEn := false, kdiv := 80#7, sdiv := 80#7, pllLock := false, pllStopped := false, relocking := false, ovnrdy := false, ovenWarm := false,
    oldDead := false, switchFail := false, ringForced := false, cfgRefused := false, gateForced := false,
    xrefFail := false, xhfFail := false, x32Fail := false, ringFail := false, gateReg := 0x3FFF#14,
    gateOpen := 0x3FFF#14, ovenFitted := false, autoSwitch := false, warmMoved := false, warmQual := 30#8, xhfDev := 0#16, xhfDevAge := 0#6,
    returnQual := 100#10, fallbackDelay := 10#8, autoFallback := true, autoRelease := false, damp := false,
    qualMet := false, fellBack := false, holdOnExit := false }

def ChordSt.reset : ChordSt :=
  { live := [], heldW := [], cap := [], corr0 := 0#64, corr1 := 0#64, corr2 := 0#64, corr3 := 0#64, predFreshD := false,
    predFreshU := false, portA := .park, portB := .park, shorted := false, faultB := false, range := 0#3, lastRange := 0#3,
    peakDn := 0#6, peakUp := 0#6, travPeak := none, clipStep := false, rxgWritten := false, gainLimit := false,
    waiting := [], cur := none, correlating := [], unsent := [], state := .off, probFrom := .off, probCount := 0#4,
    lastAccept := none, seedAt := none, dtRef := none, sos := none, times := none, seedTimes := none,
    reacqCount := 0#3, reacqDt := none, saved := none, last := none, perturbed := false }

/-- A lane out of service, without a graticule (R236, Table 23-28). -/
def LaneSt.reset : LaneSt :=
  { coarse := 0#24, grat := [], valid := false, out := true, dead := false, calibrating := false, logH := 0, gratH := 0,
    fails := 0, hist := [] }

def LaneRegs.reset : LaneRegs :=
  { spareFor := 31#5, assigned := false, byAssign := false, assignNext := none, freeNext := false, step := none, stepWaiting := false, returnHeld := false,
    lastVisited := none, repeatLane := none, calAll := false, rotEn := true, rotPeriod := 60#10, vrotPeriod := 60#8,
    hits := 4#4, vhits := 2#4, retry := 3#2, holdCal := false }

def Survey.reset : Survey :=
  { run := false, timingReg := false, grid := false, firingReg := false, cdiv := false, agcHoldReg := false,
    agcHold := false, boostEnReg := false, boostEn := false, vdrvSetReg := 0#8, vdrvSet := 0#8, boostQuiet := true,
    bandForce := false, bandSel := 0#3, senseTemp := 0, sensorBand := 0#3, band := 0#3, vdrvOk := false,
    boostStopped := false, lateStart := false, overrun := false, portFault := false, ownerS1 := false,
    chordEnReg := 0#20, chordEn := 0#20, holdTime := 20#10, dtAbs := 100#8, dtRel := 64#8, sosShift := 3#3,
    reacq := 3#3, resultSeq := 0#32, tc := 0#64, timeBase := 0, travPeriod := 20000, travNext := none, sleepCount := 0,
    boundaryAt := 0#48,
    traverses := [], afterWarning := false, inTransit := [], queueN := [], queueS := [], resS0 := [],
    resS1 := [], sel := Vector.replicate 6 0#5 }

def AuxIsl.reset : AuxIsl := { queue := [], cur := none, settling := none, lastCh := none }

def AuxEntry.reset : AuxEntry :=
  { raw := 0#64, value := 0#64, tDone := 0#48, seq := 0#8, pol := false, marks := 0#10 }

def Aux.reset : Aux :=
  { rtdEn := 0#4, pbEn := 0#2, clampHold := false, clampReset := true, selfTest := false, rhSet := 650#10, rhInForce := 650#10,
    queueFull := false, blankStuck := false, blankChatter := false, stFail := 0#6, cfg := Vector.replicate 6 0#64,
    cfgHeld := Vector.replicate 6 none, res := AuxIsl.reset, pres := AuxIsl.reset, pol := Vector.replicate 4 false,
    partner := Vector.replicate 4 none, entry := Vector.replicate 6 AuxEntry.reset, clamp := 0#27, blankEn := false,
    blankAux := true, blankResume := 20#8, blankMaxHold := 500#16, blankActive := false, blankLevel := false,
    blankIgnored := false, blankCount := 0, chattered := false, deferred := [] }

def DropSet.none : DropSet := { dirs := 0#2, left := Option.none }

def Perturb.reset : Perturb :=
  { unlocked := false, bit1 := false, delayed := 0#6, offset := 0#6, drops := 0#6, stalls := 0#6, synths := 0#6,
    target := 0#5, delay := Vector.replicate 32 0#8, stopOffset := Vector.replicate 22 0#24,
    drop := Vector.replicate 20 DropSet.none, synth := Vector.replicate 20 0#24, stalled := Vector.replicate 7 false, stallTimed := Vector.replicate 7 false,
    flow := [], lockPending := false, travTest := false }

def EventLog.reset : EventLog := { staged := [], lost := 0#8, lossNew := false, stagedData := Vector.replicate 5 0#32 }

/-- 2000-01-01 00:00:00 (Tables 23-47, 23-48). -/
def CalTime.reset : CalTime := { sec := 0#6, min := 0#6, hour := 0#5, day := 1#5, month := 1#4, year := 0#8 }

def Alarm.reset : Alarm :=
  { sec := 0#6, min := 0#6, hour := 0#5, day := 1#5, month := 1#4, wday := 1#3, mask := 0#6, arm := false,
    fired := false, skipped := false, refused := false }

def RtcShadow.reset : RtcShadow := { day := 1#5, month := 1#4, year := 0#8, subsec := 0#15, stale := true }

def Rtc.reset : Rtc :=
  { cal := CalTime.reset, subsec := 0#15, elapsed := 0#48, phase := 0, staged := CalTime.reset, commit := false,
    cmtRefused := false, wrapped := false, suspect := false, x32Seen := false, trim := 0#11, trimNow := 0#11,
    shadow := Vector.replicate 6 RtcShadow.reset, alarm0 := Alarm.reset, alarm1 := Alarm.reset, bkp := [],
    panelInt := false, bootCount := 0#16, timeSet := false, pwronSrc := 0#4, pwron := false }

/-- The panel block after a reset of PD6 (R536, R544); DC_MAX, an RWT field, is restored from the settings. -/
def Panel.reset : Panel :=
  { next := 0#128, shown := 0#96, wave := [], waveHeld := [], acct := Vector.replicate 97 0#16, crc := 0#16,
    shownCrc := 0#16, bandForce := false, bandSel := 0#3, balFrames := 8#7, dcMax := 0#8, pumpOk := false, band := 0#3,
    bandShift := false, tempRange := false, reason := 0#3, shownValid := false, shownFail := false, interrupted := false,
    markSuppressed := false, dcWarn := false, sensorBand := 0#3, reading := 0, run := none, checkDue := false }

def RodValue.zero : RodValue := { count := 0, residue := 0#64, rollover := 0#8, sat := false }

def RodSt.zero : RodSt := { val := RodValue.zero, scale := 0#64 }

def zeroRods : Vector RodSt 16 := Vector.replicate 16 RodSt.zero

/-- The figures of an absent record: zero, and the interval end unknown (R336). -/
def Figures.zero : Figures :=
  { rates := Vector.replicate 4 0#64, dest := 0#2, tc := 0#64, rems := Vector.replicate 4 0#64, intervalEnd := none }

def Abacus.cleared : Abacus :=
  { closed := zeroRods, opened := zeroRods, touched := 0#16, bound := 0#16, shadow := zeroRods, snap := zeroRods,
    snapSeq := 0#32, jseq := 0, sinceRecord := 0, fig := Figures.zero, frozen := false, lastClose := none,
    activation := false }

/-- The rod record of manufacture: every rod zero, JSEQ 0 (R336). -/
def RodRecord.factory : RodRecord :=
  { seq := 1#32, rods := zeroRods, jseq := 0, fig := Figures.zero, elapsed := 0#48, secs := 0#34, subsec := 0#15,
    activation := false }

/-- Entry 1 of the event log (R474). -/
def factoryLog : Mem :=
    [(0x40020, 0x01#8), (0x40030, 0x1E#8), (0x40031, 0x2B#8), (0x40032, 0xA7#8), (0x40033, 0x81#8), (0x40034,
      0xC7#8), (0x40035, 0xE0#8), (0x40036, 0x3A#8), (0x40037, 0x61#8), (0x40038, 0xEB#8), (0x40039, 0x9D#8),
      (0x4003A, 0xC1#8), (0x4003B, 0x94#8), (0x4003C, 0xB3#8), (0x4003D, 0xF0#8), (0x4003E, 0x70#8), (0x4003F,
      0xCD#8)]

/-- The store as it leaves manufacture: the rod record, log entry 1, nothing else. -/
def Store.factory : Store :=
  { array := factoryLog, rodA := some RodRecord.factory, rodB := none, journal := [], code := [], flight := none,
    waiting := [], pfw := false, recordConflict := false, hostSave := false, rawBusy := false, saveStatus := 0#3,
    rawRefused := false, protectRefused := false, logRefused := false, bp := 0#2, bpWait := false, addr := 0#23,
    codeSpace := false, logSeq := 0#32, logHead := 0#128 }

/-- The key store as provisioned: vendor slot 0 and 1 as R480 has them at manufacture, no owner. -/
def Keys.factory : Keys :=
  { v0 := { state := .valid, key := .factory }, v1 := { state := .empty, key := .factory }, owner := none,
    updLock := false }

def Update.reset : Update :=
  { kindReg := 0#2, resumeReg := false, portReg := 0#2, blockReg := 0#10, state := .idle, code := 0#5, owner := 0#2,
    job := none, kind := 0#2, slot := 0#2, len := none, nextBlock := 0, stored := .idle,
    buffer := [], check := 0#32, flowLimit := 0#20, idleTimeout := 10#8, noCell := false, qBusy := false,
    qReady := false, certRead := false }

def Crypt.reset : Crypt := { ctxK01 := [], ctxK2 := [], job := none }

def Ports.reset : Ports :=
  { i2cWr := false, i2cStretch := true, optFmt := false, optBaud := 0#3, optTxInv := false, optRxInv := false,
    status := 0#8, wseq := 0#4, lastRead := none, i2c := .idle, i2cPtr := 0#16, i2cAck := false, i2cOut := [],
    rxWr := 0#12, rxRd := 0#12, txWr := 0#12, txRd := 0#12, overrun := 0#16, wakeLost := 0#64, win := [] }

def PulseOut.reset : PulseOut := { cfg := 0#64, acc := 0#64, pend := 0#32, active := false }

def Outputs.reset : Outputs :=
  { own := 0#5, legal := 0#5, po := Vector.replicate 4 PulseOut.reset, aoCfg := 0#64, aoVal := 0#16, aoHeld := none,
    reverse := false }

/-- The controller after a reset of PD3 (R148, R568). -/
def Delivery.reset : Delivery :=
  { cfg := 0#64, preset := 0#40, trimAt := 0#40, ovr := 0#40, ovrMax := 0#40, qStop := 0#64, state := .idle,
    reason := 0#4, final := false, cmdRefused := false, cfgLocked := false, valveFault := false, trimSkipped := false,
    runoutTimeout := false, learned := false, mismatch := false, v1 := false, v2 := false, base := 0, base10 := 0,
    delivered := 0, dClose := 0, quiet := 0, learnOk := false, compareDue := false, incs := [], incLost := 0#8 }

/-- The twin block after a reset of PD3: EN and SEAT come from the settings. -/
def Twin.reset : Twin :=
  { en := false, seat := false, role := .solo, holds := false, lineLow := false, link := .down, pairFail := 0#4,
    linkErr := 0#8, sendSeq := 0#8, lastSeq := none, out := [], pairing := none, detached := false, rejoin := false,
    handover := false, releasing := false, syncDrive := false, syncFault := false, edgeSeen := false, firstEdge := false,
    probation := false, probCount := 0#5, statusIn := false, noMark := false, staleMark := false, winSkip := false,
    dev := 0#24, devValid := false, devAlarm := false, wseq := 0#6, mark := none, markAge := 0, window := none,
    ownVolume := 0, adopt := false, adoptPaired := false }

/-- A backup power-on reset leaves CODE = POWER_ON (R150). -/
def FaultLatch.powerOn : FaultLatch :=
  { code := 1#8, unit := 0#8, vinIlim := false, vbatIlim := false, reset := false, more := false }

/-- The fluid record where it is absent: the factory defaults (R341). -/
def FluidRec.default : FluidRec :=
  { fluid := .none, baseEn := false, energy := .none, satMode := .measured, tChan := 0, t2Chan := 0, pChanB := false,
    gauge := false, satBand := 50, diWc := 8, diShift := 3, tBase := 29315 * 2 ^ 32 / 100, pBase := 100000 * 2 ^ 32,
    rhBase := 65 * 2 ^ 32 / 100, pAtm := 101325 * 2 ^ 32, hRef := 0, dcFull := 2 ^ 32 / 100, saFull := 15 * 2 ^ 32,
    fsHold := 100, diAlarm := 900, a0 := Vector.replicate 20 0 }

def SubChord.empty : SubChord := { count := 0, cur := ⟨0, 0⟩, done := [], newest := 9 }

/-- DI_s is 1000 at boot (R357). -/
def FluidSt.reset : FluidSt :=
  { inputs := none, used := FluidRec.default, eval := none, valid := Vector.replicate 6 none,
    latestOk := Vector.replicate 6 false, fresh := Vector.replicate 6 false, stat := .noFluid, diS := 1000 * 2 ^ 16, di := 1000, diLow := false,
    loggedAt := none, changes := 0 }

/-- K0–K1 after a reset of PD2. -/
def Flow.reset : Flow :=
  { geo := Vector.replicate 20 none, meter := none, fluid := FluidRec.default, front := none,
    subs := Vector.replicate 20 SubChord.empty, block := none, waiting := none, prior := none, lastQ := 0, rems := Vector.replicate 4 0,
    gapRun := 0, unmetered := 0, spanFrom := none, spanReset := false, stopped := none, ticks := 0, locked := false,
    x32Bad := false, incs := [], acct := none, fs := FluidSt.reset }

/-- The device right after the backup power-on reset is released with VIN present: PD0 alone is powered, BOOT begins and
PD1 is the first domain to come up (R84, R144, R157). Every fence but that of the backup cluster is up, its domain
being unpowered (R31). -/
def State.reset : State :=
  { pending := [], freeCtr := 0, readOut := 0#64, eng := Engines.reset, er := EngineRegs.reset, br := Bridges.reset,
    fences := (Vector.replicate 38 Fence.unpowered).set 34 Fence.clear, sys := SysRegs.reset,
    fault := FaultLatch.powerOn,
    pwr := { Power.reset with
      change := some ⟨1, true⟩, changes := [⟨3, true⟩, ⟨2, true⟩, ⟨4, true⟩, ⟨6, true⟩] },
    boot := Boot.reset, clk := Clock.reset, chords := Vector.replicate 20 ChordSt.reset,
    lanes := Vector.replicate 22 LaneSt.reset, lr := LaneRegs.reset, sv := Survey.reset, fl := Flow.reset,
    stats := Vector.replicate 20 none, aux := Aux.reset, pt := Perturb.reset, log := EventLog.reset, rtc := Rtc.reset,
    pn := Panel.reset, ab := Abacus.cleared, st := Store.factory, keys := Keys.factory, upd := Update.reset,
    cr := Crypt.reset, prt := Ports.reset, out := Outputs.reset, dl := Delivery.reset, tw := Twin.reset, sram := [],
    page := [], addrSel := 3#2 }

end Sys2Proof.Machine
end

