-- ==== Sys2Proof/Machine/Ops.lean ====
section
/-! DEFINITION. The named operations that every family of commands shares: memories, chords, lanes, engines, fences,
event flags, the fault latch and free values. -/
namespace Sys2Proof.Machine

/-! ## Sparse memories -/

/-- The byte at `a`; an unlisted address reads as `dflt`. -/
def Mem.get (dflt : Byte) : Mem → Nat → Byte
  | [], _ => dflt
  | (k, v) :: m, a => if k = a then v else Mem.get dflt m a

/-- The byte at `a` put before the first higher address; the default is not listed. -/
def Mem.insert (dflt : Byte) : Mem → Nat → Byte → Mem
  | [], a, v => if v = dflt then [] else [(a, v)]
  | (k, w) :: m, a, v =>
    if a < k then (if v = dflt then (k, w) :: m else (a, v) :: (k, w) :: m) else (k, w) :: Mem.insert dflt m a v

/-- The memory without its entries for `a`. -/
def Mem.erase : Mem → Nat → Mem
  | [], _ => []
  | (k, w) :: m, a => if k = a then Mem.erase m a else (k, w) :: Mem.erase m a

/-- The memory with the byte at `a` replaced, in canonical form. -/
def Mem.set (dflt : Byte) (m : Mem) (a : Nat) (v : Byte) : Mem := (m.erase a).insert dflt a v

/-- Addresses strictly rise from above `lo`, and no entry equals the default. -/
def Mem.wfFrom (dflt : Byte) : Nat → Mem → Bool
  | _, [] => true
  | lo, (k, v) :: m => lo ≤ k && v != dflt && Mem.wfFrom dflt (k + 1) m

/-- The canonical form of a memory whose unlisted bytes read as `dflt`. -/
def Mem.wf (dflt : Byte) (m : Mem) : Bool := Mem.wfFrom dflt 0 m

/-- `n` bytes from `a` upwards. -/
def Mem.bytes (dflt : Byte) (m : Mem) (a : Nat) : Nat → List Byte
  | 0 => []
  | n + 1 => m.get dflt a :: Mem.bytes dflt m (a + 1) n

/-- The memory with a list of bytes written from `a` upwards. -/
def Mem.write (dflt : Byte) (m : Mem) (a : Nat) : List Byte → Mem
  | [] => m
  | b :: bs => Mem.write dflt (m.set dflt a b) (a + 1) bs

/-- Little-endian value of a list of bytes (R12). -/
def leNat : List Byte → Nat
  | [] => 0
  | b :: bs => b.toNat + 256 * leNat bs

/-- `n` little-endian bytes of a number (R12). -/
def leBytes : Nat → Nat → List Byte
  | 0, _ => []
  | n + 1, v => BitVec.ofNat 8 v :: leBytes n (v / 256)

/-- The little-endian value of `n` bytes at `off`, unsigned and signed. -/
def leAt (bs : List Byte) (off n : Nat) : Nat := leNat ((bs.drop off).take n)

def leIntAt (bs : List Byte) (off n : Nat) : Int := (BitVec.ofNat (8 * n) (leAt bs off n)).toInt

/-- Big-endian value of a list of bytes. -/
def beNat (bs : List Byte) : Nat := leNat bs.reverse

/-- `n` big-endian bytes of a number. -/
def beBytes (n v : Nat) : List Byte := (leBytes n v).reverse

def Mem.word64 (dflt : Byte) (m : Mem) (a : Nat) : W64 := BitVec.ofNat 64 (leNat (m.bytes dflt a 8))

def Mem.setWord64 (dflt : Byte) (m : Mem) (a : Nat) (v : W64) : Mem := m.write dflt a (leBytes 8 v.toNat)

def Mem.setWord32 (dflt : Byte) (m : Mem) (a : Nat) (v : W32) : Mem := m.write dflt a (leBytes 4 v.toNat)

/-- The word at offset `a` of a sparse word map; an unlisted word is zero. -/
def WMap.get : WMap → Nat → W64
  | [], _ => 0#64
  | (k, v) :: m, a => if k = a then v else WMap.get m a

/-- Whether the map lists offset `a`. -/
def WMap.has : WMap → Nat → Bool
  | [], _ => false
  | (k, _) :: m, a => k == a || WMap.has m a

/-- The word at `a` put before the first higher offset. -/
def WMap.insert : WMap → Nat → W64 → WMap
  | [], a, v => [(a, v)]
  | (k, w) :: m, a, v => if a < k then (a, v) :: (k, w) :: m else (k, w) :: WMap.insert m a v

/-- The map without its entries for `a`. -/
def WMap.erase : WMap → Nat → WMap
  | [], _ => []
  | (k, w) :: m, a => if k = a then WMap.erase m a else (k, w) :: WMap.erase m a

/-- A map of held writes with the word at `a` replaced; a held zero stays listed. -/
def WMap.hold (m : WMap) (a : Nat) (v : W64) : WMap := (m.erase a).insert a v

/-- The map with the word at `a` replaced, zero words kept out. -/
def WMap.set (m : WMap) (a : Nat) (v : W64) : WMap := if v = 0#64 then m.erase a else m.hold a v

/-- The map `m` with every held write of `h` applied. -/
def WMap.apply (m h : WMap) : WMap := h.foldl (fun m kv => m.set kv.1 kv.2) m

/-! ## Free values -/

/-- The `i`-th free value of the present command. -/
def State.free (s : State) (i : Nat) : W64 := Config.freeBits (s.freeCtr + i)

/-- Move past the free values that the command has used. -/
def State.usedFree (s : State) (n : Nat) : State := { s with freeCtr := s.freeCtr + n }

/-- n / d where the spec states no rounding: either neighbour, by a free direction; exact values stay. -/
def State.roundFree (s : State) (i : Nat) (n d : Nat) : Nat :=
  if n % d = 0 then n / d else if Config.roundUp (s.freeCtr + i) then n / d + 1 else n / d

/-- The same for a number of either sign, over a positive divisor. -/
def State.roundFreeInt (s : State) (i : Nat) (n d : Int) : Int :=
  if n % d = 0 then n / d else if Config.roundUp (s.freeCtr + i) then n / d + 1 else n / d

/-- A computed quantity within 1/`d` of its exact value `x`, relative, by a free deviation (Table 12-7). -/
def State.deviate (s : State) (i : Nat) (x : Int) (d : Nat) : Int := x + x * (s.free i).toInt / (2 ^ 63 * d)

/-! ## Chords, lanes, engines -/

def State.chord (s : State) (c : Chord) : ChordSt := s.chords[c]

def State.setChord (s : State) (c : Chord) (x : ChordSt) : State := { s with chords := s.chords.set c x }

def State.modChord (s : State) (c : Chord) (f : ChordSt → ChordSt) : State := s.setChord c (f (s.chord c))

/-- Every chord changed by `f`, which may look at the chord's number. -/
def State.mapChords (s : State) (f : Chord → ChordSt → ChordSt) : State :=
  { s with chords := Vector.ofFn fun c => f c s.chords[c] }

def State.lane (s : State) (l : Lane) : LaneSt := s.lanes[l]

def State.modLane (s : State) (l : Lane) (f : LaneSt → LaneSt) : State :=
  { s with lanes := s.lanes.set l (f s.lanes[l]) }

def State.mapLanes (s : State) (f : Lane → LaneSt → LaneSt) : State :=
  { s with lanes := Vector.ofFn fun l => f l s.lanes[l] }

def allChords : List Chord := List.finRange 20

def allLanes : List Lane := List.finRange 22

/-- Lane of a chord (Table 08-1). -/
def laneOf (c : Chord) : Lane := ⟨c.val, by omega⟩

def L20 : Lane := 20

def L21 : Lane := 21

def Engines.get (es : Engines) : Eng → Engine
  | .s0 => es.s0
  | .s1 => es.s1
  | .k01 => es.k01
  | .k2 => es.k2
  | .k3 => es.k3

def Engines.set (es : Engines) (e : Eng) (x : Engine) : Engines :=
  match e with
  | .s0 => { es with s0 := x }
  | .s1 => { es with s1 := x }
  | .k01 => { es with k01 := x }
  | .k2 => { es with k2 := x }
  | .k3 => { es with k3 := x }

def State.engine (s : State) (e : Eng) : Engine := s.eng.get e

def State.modEngine (s : State) (e : Eng) (f : Engine → Engine) : State :=
  { s with eng := s.eng.set e (f (s.eng.get e)) }

def allEngines : List Eng := [.s0, .s1, .k01, .k2, .k3]

/-- Engine numbers (Table 14-1). -/
def engNum : Eng → Nat
  | .s0 => 0
  | .s1 => 1
  | .k01 => 2
  | .k2 => 3
  | .k3 => 4

/-- The engine of a number, 0 to 4. -/
def engOfNum : Nat → Option Eng
  | 0 => some .s0
  | 1 => some .s1
  | 2 => some .k01
  | 3 => some .k2
  | 4 => some .k3
  | _ => none

def isSurveyor : Eng → Bool
  | .s0 => true
  | .s1 => true
  | _ => false

/-- The end of an engine's program memory (Table 14-1). -/
def progEnd (e : Eng) : Nat := if isSurveyor e then 0x4000 else 0x20000

/-! ## Program flow and traps (R388, R403, R404) -/

/-- Body of a loop level: COUNT, START and LEN (R388). -/
def lvCount (l : W64) : Nat := (field l 0 32).toNat
def lvStart (l : W64) : Nat := (field l 32 16).toNat
def lvLen (l : W64) : Nat := (field l 48 16).toNat

def loopLevel (count start len : Nat) : W64 :=
  place 64 0 (BitVec.ofNat 32 count) ||| place 64 32 (BitVec.ofNat 16 start) ||| place 64 48 (BitVec.ofNat 16 len)

def Engine.inner (x : Engine) : W64 := field x.lc 0 64

def Engine.outer (x : Engine) : W64 := field x.lc 64 64

/-- The inner level ends: the outer level becomes the inner one (R388). -/
def Engine.endLevel (x : Engine) : Engine := { x with lc := (0#64 : W64) ++ x.outer }

/-- The word at `pc` has executed: the last word of a level's body counts that level down, and returns to START while
COUNT is not zero; `n` levels are looked at. -/
def Engine.loopBack : Nat → Engine → Engine
  | 0, x => { x with pc := x.pc + 4#32 }
  | n + 1, x =>
    let l := x.inner
    if lvLen l ≠ 0 ∧ x.pc.toNat / 4 + 1 = lvStart l + lvLen l then
      if 1 < lvCount l then
        { x with lc := x.outer ++ loopLevel (lvCount l - 1) (lvStart l) (lvLen l), pc := BitVec.ofNat 32 (4 * lvStart l) }
      else Engine.loopBack n x.endLevel
    else { x with pc := x.pc + 4#32 }

/-- The instruction at `pc` is complete and the next one follows (R388). -/
def Engine.retire (x : Engine) : Engine := Engine.loopBack 2 x

/-- A taken branch or a JMP to `t`: a target outside the inner body ends that level (R388). -/
def Engine.jump (x : Engine) (t : W32) : Engine :=
  let l := x.inner
  let inside := decide (lvStart l ≤ t.toNat / 4) && decide (t.toNat / 4 < lvStart l + lvLen l)
  let x := if lvLen l = 0 ∨ inside then x else x.endLevel
  { x with pc := t }

/-- The causes of Table 14-10. -/
inductive TrapCause where
  | illegal | priv | engine | align | access | loop | divZero | clock | voltage | gated | tally | soft | brk
  deriving DecidableEq, Repr

def trapCode : TrapCause → Nat
  | .illegal => 1
  | .priv => 2
  | .engine => 3
  | .align => 4
  | .access => 5
  | .loop => 6
  | .divZero => 7
  | .clock => 8
  | .voltage => 9
  | .gated => 10
  | .tally => 11
  | .soft => 12
  | .brk => 13

/-- Flags in the order of bits [4:0]: Z, N, C, V, Q (R386, R403). -/
def Engine.flagBits (x : Engine) : W64 :=
  placeB 64 0 x.z ||| placeB 64 1 x.n ||| placeB 64 2 x.c ||| placeB 64 3 x.v ||| placeB 64 4 x.q

/-- The address of the trap frame: the top 32 bytes of data memory (R403). -/
def frameAddr (e : Eng) : Nat := if isSurveyor e then 0x1FE0 else 0xFFE0

/-- The trap frame: epc, cause, tval and flags (R403). -/
def Engine.frame (x : Engine) (e : Eng) (c : TrapCause) (tval : W64) : Mem :=
  x.data.write 0#8 (frameAddr e)
    (leBytes 8 x.pc.toNat ++ leBytes 8 (trapCode c) ++ leBytes 8 tval.toNat ++ leBytes 8 x.flagBits.toNat)

/-! ## Clocks of the islands (R28, R115, Table 03-11) -/

/-- No sleep level has stopped the island clocks: handshakes are acknowledged (R28, Table 03-11). -/
def State.clocksRun (s : State) : Bool :=
  match s.pwr.sleep with
  | .awake => true
  | .entering _ => true
  | .asleep _ => false
  | .exiting _ => false

/-! ## Domains and fences -/

/-- Whether domain PDk is supplied and ready (R36, R37). -/
def State.powered (s : State) (k : Nat) : Bool := s.pwr.ready.getLsbD k

/-- The place of a cluster in the list of UNIT codes from 0x20 (Table 23-8). -/
def clusterIdx : Cluster → Fin 38
  | .chord c => ⟨c.val, by omega⟩
  | .spare => 20
  | .aux => 21
  | .clock => 22
  | .metrology => 23
  | .survey => 24
  | .service => 25
  | .customer => 26
  | .port => 27
  | .twin => 28
  | .memory => 29
  | .test => 30
  | .drive => 31
  | .panel => 32
  | .keep => 33
  | .backup => 34
  | .senseCtlN => 35
  | .senseCtlS => 36
  | .bridge => 37

/-- FAULT_CAUSE.UNIT of a cluster (Table 23-8). -/
def clusterUnit (cl : Cluster) : Byte := BitVec.ofNat 8 (0x20 + (clusterIdx cl).val)

/-- FAULT_CAUSE.UNIT of an engine (Table 23-8). -/
def engUnit (e : Eng) : Byte := BitVec.ofNat 8 (0x10 + engNum e)

/-- FAULT_CAUSE.UNIT of a die and of a bridge (Table 23-8). -/
def dieUnit : Die → Byte
  | .drive => 0x01#8
  | .sense => 0x02#8
  | .core => 0x03#8
  | .keep => 0x04#8

def bridgeUnit : Bridge → Byte
  | .senseN => 0x08#8
  | .senseS => 0x09#8
  | .keep => 0x0A#8
  | .drive => 0x0B#8

def Fence.isUp (f : Fence) : Bool := f.parity || f.lockstep || f.watchdog || f.clock || f.down || f.sys

def State.fence (s : State) (cl : Cluster) : Fence := s.fences[clusterIdx cl]

def State.modFence (s : State) (cl : Cluster) (f : Fence → Fence) : State :=
  { s with fences := s.fences.set (clusterIdx cl) (f s.fences[clusterIdx cl]) }

/-- The fence of the cluster is up (R32). -/
def State.fenced (s : State) (cl : Cluster) : Bool := (s.fence cl).isUp

/-- The domain that holds a cluster (Tables 01-2 and 01-3). -/
def clusterDomain : Cluster → Nat
  | .chord c => if c.val < 10 then 4 else 5
  | .spare => 4
  | .aux => 4
  | .clock => 4
  | .metrology => 2
  | .survey => 2
  | .service => 3
  | .customer => 3
  | .port => 3
  | .twin => 3
  | .memory => 3
  | .test => 3
  | .drive => 6
  | .panel => 7
  | .keep => 1
  | .backup => 0
  | .senseCtlN => 4
  | .senseCtlS => 5
  | .bridge => 3

/-- The cluster of an engine (Table 01-3). -/
def engCluster : Eng → Cluster
  | .s0 => .survey
  | .s1 => .survey
  | .k01 => .metrology
  | .k2 => .service
  | .k3 => .customer

/-- The Sense domain of a chord (Table 01-2). -/
def chordDomain (c : Chord) : Nat := if c.val < 10 then 4 else 5

/-! ## Event flags and the fault latch -/

/-- Set an EVENT_FLAGS bit (Table 23-5); the hub keeps it only while PD3 is powered (R620). -/
def State.event (s : State) (k : Nat) : State :=
  if s.powered 3 then { s with sys.eventFlags := s.sys.eventFlags ||| (1#24 <<< k) } else s

/-- A reset kind acts, or waits to act, and its cause stands in the latch: the power-on reset of PD0, a lost supply,
RESET_N held low, a fence reset 20 µs away (R145, R147, R149). -/
def State.resetActs (s : State) : Bool :=
  (s.fault.reset || s.fault.code == 1#8) &&
    (s.boot.backupReset || s.boot.pinLow || s.boot.fenceReset || s.pwr.source == Source.none)

/-- Write a cause to the fault latch (R150). Where a reset kind already acts, the cause that stands highest in Table
05-2 is the one recorded (R149), and a cause that leads to a reset is not lost before the boot that logs it (R151). -/
def State.latchFault (s : State) (code unit : Byte) (reset vin vbat : Bool) : State :=
  if s.resetActs && decide (s.fault.code ≤ code) then s
  else
    { s with fault := { code := code, unit := unit, vinIlim := vin, vbatIlim := vbat, reset := reset,
                        more := s.fault.code != 0#8 } }

/-- A trap is taken (R403): the frame, IN_TRAP and the handler at 0x10. A trap while IN_TRAP is set is a double trap:
the engine halts and EVENT_FLAGS.ENGINE is set (R404). The trapping instruction has no effect. -/
def State.trap (s : State) (e : Eng) (c : TrapCause) (tval : W64) : State :=
  if (s.engine e).inTrap then
    let s := s.modEngine e fun x => { x with dblHalt := true, wait := none }
    { s with er.haltCause := .doubleTrap, er.haltEng := BitVec.ofNat 3 (engNum e) }.event 6
  else
    s.modEngine e fun x => { x with data := x.frame e c tval, inTrap := true, pc := 0x10#32, wait := none }

/-! ## Calendar time and event-log entries (R470 to R473, R509, R623) -/

def isLeap (y : Nat) : Bool := (y % 4 == 0 && y % 100 != 0) || y % 400 == 0

/-- Days of month `m` (1 to 12) of year 2000 + `y`. -/
def daysInMonth (y m : Nat) : Nat :=
  if m = 2 then (if isLeap (2000 + y) then 29 else 28)
  else if m = 4 ∨ m = 6 ∨ m = 9 ∨ m = 11 then 30 else 31

/-- Days from 2000-01-01 to the first of January of year 2000 + `y`. -/
def daysToYear (y : Nat) : Nat :=
  ((List.range y).map fun k => if isLeap (2000 + k) then 366 else 365).sum

/-- Days from 2000-01-01 to a date. -/
def dayNumber (t : CalTime) : Nat :=
  daysToYear t.year.toNat + ((List.range (t.month.toNat - 1)).map fun k => daysInMonth t.year.toNat (k + 1)).sum +
    (t.day.toNat - 1)

/-- Seconds from 2000-01-01 00:00:00 to a calendar time (Table 16-8). -/
def secondsOf (t : CalTime) : Nat :=
  86400 * dayNumber t + 3600 * t.hour.toNat + 60 * t.min.toNat + t.sec.toNat

/-- An entry is lost: LOG_LOST saturates at 255 (R473). -/
def State.logLoss (s : State) : State :=
  { s with log.lost := if s.log.lost = 255#8 then 255#8 else s.log.lost + 1#8, log.lossNew := true }

/-- Stage an event-log entry; it is lost where the stage of 16 is full (R473) or where PD1, which holds the Keep
event island, is unpowered. -/
def State.logFrom (s : State) (source : Nat) (code : Nat) (data : W32) : State :=
  if !s.powered 1 then s
  else if 16 ≤ s.log.staged.length then
    s.logLoss
  else
    let en : LogEntry := { data := data, secs := BitVec.ofNat 34 (secondsOf s.rtc.cal), subsec := s.rtc.subsec,
                           code := BitVec.ofNat 12 code, source := BitVec.ofNat 3 source }
    { s with log.staged := s.log.staged ++ [en] }

/-- An entry by hardware, SOURCE 5 (Table 16-8). -/
def State.logHw (s : State) (code : Nat) (data : W32) : State := s.logFrom 5 code data

/-- Set EVENT_FLAGS bit `k` with its event-log entry, CODE 0x100 + k (R623). -/
def State.eventLogged (s : State) (k : Nat) (data : W32) : State := (s.event k).logHw (0x100 + k) data

/-- An entry that a rule requires with neither CODE nor DATA stated: both are free values. -/
def State.logOpen (s : State) : State :=
  (s.logHw ((s.free 0).setWidth 12).toNat ((s.free 1).setWidth 32)).usedFree 2

/-- EVENT_FLAGS bit `k` with its entry, whose DATA no rule states: a free value (R623). -/
def State.eventOpen (s : State) (k : Nat) : State := (s.eventLogged k ((s.free 0).setWidth 32)).usedFree 1

/-- FAULT_CAUSE bits [19:0] (Table 23-7). -/
def faultWord (f : FaultLatch) : W32 :=
  place 32 0 f.code ||| place 32 8 f.unit ||| placeB 32 16 f.vinIlim ||| placeB 32 17 f.vbatIlim |||
    placeB 32 18 f.reset ||| placeB 32 19 f.more

/-- A cause that does not reset: latched, and logged as it arises (R150, R152, Table 16-9). -/
def State.faultNoReset (s : State) (code unit : Byte) : State :=
  let s := s.latchFault code unit false false false
  s.logHw code.toNat (faultWord s.fault)

/-- A cause that leads to a reset: latched before it, and logged by the boot ROM of the boot that follows (R151, R152). -/
def State.faultReset (s : State) (code unit : Byte) : State := s.latchFault code unit true false false

/-! ## Handshake delays (R609) -/

/-- Transfers reach targets of Table 22's PERTURB_TIMING, in turn; each delayed one counts (R609, R615). -/
def State.hop (s : State) (targets : List (Fin 32)) : State :=
  targets.foldl
    (fun (s : State) t =>
      if s.pt.delay[t] = 0#8 ∨ s.pt.delayed = 63#6 then s else { s with pt.delayed := s.pt.delayed + 1#6 }) s

/-- The targets on the way to a chord island: the Core bridge port, the Sense control island, the island. -/
def chordHops (c : Chord) : List (Fin 32) := [25, if c.val < 10 then 23 else 24, ⟨c.val, by omega⟩]

/-! ## Requesters (R399, R515, R621, R624) -/

/-- The place of a requester among those that keep a shadow, a selection or staged data of their own: the engines in
the order of their numbers, then the two host ports together. -/
def reqIdx : Requester → Fin 6
  | .host => 5
  | .sysPort => 5
  | .eng .s0 => 0
  | .eng .s1 => 1
  | .eng .k01 => 2
  | .eng .k2 => 3
  | .eng .k3 => 4

/-! ## Wake sources (R104, R107, R109 to R112) -/

/-- Wake sources, in the order of their bits (Table 03-13). -/
inductive Wake where
  | alarm0 | alarm1 | i2c | meridian | vinReturn | optical | traverse | pfail
  deriving DecidableEq, Repr

def wakeBit : Wake → Nat
  | .alarm0 => 0
  | .alarm1 => 1
  | .i2c => 2
  | .meridian => 3
  | .vinReturn => 4
  | .optical => 5
  | .traverse => 6
  | .pfail => 7

/-- The instruction in progress of an engine is complete: its wait ends and the next instruction follows. -/
def Engine.done (x : Engine) : Engine := ({ x with wait := none }).retire

/-- An engine that stands in DOZE resumes after its WAIT (R104, R107). -/
def State.resume (s : State) (e : Eng) : State :=
  s.modEngine e fun x => if x.wait = some .doze then x.done else x

/-- Every engine that stands in DOZE resumes. -/
def State.resumeAll (s : State) : State := allEngines.foldl (fun s e => s.resume e) s

/-- A latched cause acts: at a level that sleeps the exit begins, awake the waiting engines resume; during an entry
or an exit it only stays latched (R110, R112). -/
def State.wakeNow (s : State) : State :=
  match s.pwr.sleep with
  | .awake => s.resumeAll
  | .asleep sl => { s with pwr.sleep := .exiting sl }
  | .entering _ => s
  | .exiting _ => s

/-- A wake source's event: latched where the source is enabled at that moment, PFAIL always (R109); the power-fail
warning is only recorded in SLUMBER (Table 03-13). -/
def State.wakeEvent (s : State) (w : Wake) : State :=
  if w = .pfail ∨ s.pwr.wakeEn.getLsbD (wakeBit w) then
    let s := { s with pwr.wakeCause := s.pwr.wakeCause ||| (1#8 <<< wakeBit w) }
    if w = .pfail ∧ s.pwr.sleep = .asleep true then s else s.wakeNow
  else s

/-- PWRON asserts on an event of a source enabled in SRC: 0 and 1 the alarms, 2 I²C, 3 VIN return (R527). -/
def State.pwronEvent (s : State) (k : Nat) : State :=
  if s.rtc.pwronSrc.getLsbD k then { s with rtc.pwron := true } else s

/-! ## Time-base grade (R123) -/

def State.gradeNow (s : State) : Grade :=
  if !s.clk.pllEn || !s.clk.pllLock then .ring
  else match s.clk.refUse with
    | .ring => .ring
    | .xhf => .crystal
    | .xref => if s.clk.ovenWarm && s.clk.ovenFitted then .ovenWarm else .ovenCold

def Grade.code : Grade → Nat
  | .ovenWarm => 0
  | .crystal => 1
  | .ovenCold => 2
  | .ring => 3

/-- The lower of two grades (R123, R124). -/
def Grade.lower (a b : Grade) : Grade := if a.code < b.code then b else a

end Sys2Proof.Machine
end

