-- ==== Sys2Proof/Machine/Access.lean ====
section
/-! DEFINITION. How a register access, a posted store or a transfer reaches its island: bridges that refuse, clock gates
that wait, clusters that do not answer, and the registers that a requester may write. -/
namespace Sys2Proof.Machine

/-! ## Bridges (R32, R40, R41, Table 01-4) -/

def Bridges.get (b : Bridges) : Bridge → BridgeSt
  | .senseN => b.senseN
  | .senseS => b.senseS
  | .keep => b.keep
  | .drive => b.drive

def Bridges.set (b : Bridges) (k : Bridge) (x : BridgeSt) : Bridges :=
  match k with
  | .senseN => { b with senseN := x }
  | .senseS => { b with senseS := x }
  | .keep => { b with keep := x }
  | .drive => { b with drive := x }

/-- A transfer over a bridge that is down is refused; through the fence of the bridge cluster without a fault cause
(R35, R41). -/
def State.bridgeRefuse (s : State) (b : Bridge) : State :=
  let s := s.event 3
  if s.fenced .bridge then s else s.faultNoReset 0x0E#8 (bridgeUnit b)

/-- The targets on the way over a bridge. -/
def bridgeHops : Bridge → List (Fin 32)
  | .senseN => [25, 23]
  | .senseS => [25, 24]
  | .keep => [25, 27]
  | .drive => [25, 28]

/-- The cluster whose island ends a bridge away from the Core die (Table 01-4). -/
def bridgeCluster : Bridge → Cluster
  | .senseN => .senseCtlN
  | .senseS => .senseCtlS
  | .keep => .keep
  | .drive => .drive

/-! ## Where the registers lie (R37, R620, Table 23-1) -/

/-- The cluster that holds a register, by index. -/
def regCluster (idx : Nat) : Cluster :=
  if idx < 8 ∨ idx = 19 then .port
  else if idx < 16 then .backup
  else if idx < 22 then .clock
  else if idx < 30 then .survey
  else if idx < 34 then .aux
  else if idx < 40 then .service
  else if idx < 50 then .keep
  else if idx < 58 then .backup
  else if idx < 61 then .drive
  else if idx = 61 then .port
  else if idx < 65 then .customer
  else if idx < 68 then .twin
  else .test

/-- The bridge between the Core die and the register. -/
def regBridge (idx : Nat) : Option Bridge :=
  match regCluster idx with
  | .backup => some .keep
  | .keep => some .keep
  | .clock => some .senseN
  | .aux => some .senseN
  | .drive => some .drive
  | _ => none

/-- The clock gate of the block that holds a register (Table 04-6): panel, output island, Meridian, perturbation. -/
def regGate (idx : Nat) : Option Nat :=
  if 58 ≤ idx ∧ idx < 61 then some 5
  else if idx = 62 then some 4
  else if 65 ≤ idx ∧ idx < 68 then some 3
  else if 68 ≤ idx then some 11
  else none

/-- The register's domain is powered, its cluster and the one at the end of its bridge are not fenced, and its gate is
open (R32, R37, R141). -/
def State.regAnswers (s : State) (idx : Nat) : Bool :=
  let cl := regCluster idx
  s.powered (clusterDomain cl) && !s.fenced cl &&
    ((regBridge idx).all fun b => !s.fenced (bridgeCluster b)) && ((regGate idx).all fun k => s.clk.gateOpen.getLsbD k)

/-- The transfer to a register behind a bridge: refused where the link is down, otherwise with its handshakes. -/
def State.regCross (s : State) (idx : Nat) : State × Bool :=
  match regBridge idx with
  | none => (s, true)
  | some b => if (s.br.get b).up then (s.hop (bridgeHops b), true) else (s.bridgeRefuse b, false)

/-- The effect `f` of a write on a register, where the write reaches it: dropped by an unpowered domain, a fenced cluster
or a closed gate, refused by a link that is down (R32, R37, R41, R141). -/
def State.onReg (s : State) (idx : Nat) (f : State → State) : State :=
  if !s.regAnswers idx then s
  else
    let r := s.regCross idx
    if r.2 then f r.1 else r.1

/-! ## Who may write a register (R398, R399, R560) -/

/-- The device is SEALED exactly while it holds an owner key (R482). -/
def State.sealed (s : State) : Bool := s.keys.owner.isSome

/-- The registers that belong to the host alone: PROG_ADDR, PROG_DATA, MAILBOX_OUT, MAILBOX_IN, PERTURB_KEY (R399). -/
def hostOnly (idx : Nat) : Bool := [36, 37, 38, 39, 68].contains idx

/-- The registers that K2 may write in SEALED (Table 14-9). -/
def sealedWrite (idx : Nat) : Bool :=
  [3, 4, 6, 7, 40, 43, 44, 45, 46, 49, 61].contains idx || (decide (50 ≤ idx) && decide (idx ≤ 57))

/-- K2 in SEALED may not execute an operation outside Table 14-9 (R398). -/
def State.k2Barred (s : State) (e : Eng) (permitted : Bool) : Bool := e == .k2 && s.sealed && !permitted

/-- Whether a requester may write a register at all: SYS does not reach the host's registers, and the system port is
limited by R560 (`I2C_WR`). -/
def State.mayWriteReg (s : State) (q : Requester) (idx : Nat) : Bool :=
  match q with
  | .host => true
  | .sysPort =>
    if s.prt.i2cWr then !([34, 36, 37, 44, 45, 68].contains idx) else [3, 7, 39].contains idx
  | .eng e => e != .k3 && !hostOnly idx && !s.k2Barred e (sealedWrite idx)

/-- A row that is the write of one field of a register: its effect, where the requester may write the register and the
write reaches it. -/
def State.byWrite (s : State) (q : Requester) (idx : Nat) (f : State → State) : State :=
  if s.mayWriteReg q idx then s.onReg idx f else s

/-! ## Clock gates with an access pending (R141, R143, R549) -/

/-- The gates of the blocks that an address of an engine's data space lies in (Tables 04-6, 14-6). -/
def addrGates (a : Nat) : List Nat :=
  if 0x110000 ≤ a ∧ a < 0x140000 then [7 + (a - 0x100000) / 0x10000]
  else if 0x300000 ≤ a ∧ a < 0x440000 then
    let off := a % 0x10000
    if (0x100 ≤ off ∧ off < 0x120) ∨ (0x800 ≤ off ∧ off < 0x1000) then [if a < 0x3A0000 then 12 else 13] else []
  else if 0x500000 ≤ a ∧ a < 0x500030 then [if a < 0x500020 then 6 else 7]
  else if 0x608000 ≤ a ∧ a < 0x60B000 then [3]
  else if 0x60C000 ≤ a ∧ a < 0x60D000 then [2]
  else if 0x700000 ≤ a ∧ a < 0x700080 then [4]
  else if 0x700800 ≤ a ∧ a < 0x701000 then [5]
  else []

/-- The gates of the block that a posted store is on its way to. PORT_CFG lies in the I²C and the optical port. -/
def StoreTarget.gates : StoreTarget → List Nat
  | .word64 a _ => addrGates a
  | .word32 a _ => addrGates a
  | .reg idx _ => if idx = 61#7 then [1, 2] else (regGate idx.toNat).toList

/-- A posted store that its target has not acknowledged is an access in progress at gate `k` (R143, R414). -/
def State.gatePending (s : State) (k : Nat) : Bool :=
  allEngines.any fun e => (s.engine e).stores.any fun t => t.gates.contains k

/-- The gates that are held open though CLK_GATE closes them: an access is in progress there (R143), or a panel command
runs (R549). -/
def State.gatesHeld (s : State) : BitVec 14 :=
  (List.range 14).foldl (fun m k =>
    if s.gatePending k || (k == 5 && s.pn.run.isSome) then m ||| (1#14 <<< k) else m) 0#14

/-- Gates follow CLK_GATE; one that closes while it is held stays open until then. -/
def State.settleGates (s : State) : State :=
  if s.clk.gateOpen = s.clk.gateReg then s
  else { s with clk.gateOpen := s.clk.gateReg ||| (s.clk.gateOpen &&& s.gatesHeld) }

/-- The accesses in progress at gate `k` are not served: each pending write is dropped (R143). -/
def State.dropPending (s : State) (k : Nat) : State :=
  allEngines.foldl (fun (s : State) e =>
    s.modEngine e fun x => { x with stores := x.stores.filter fun t => !t.gates.contains k }) s

end Sys2Proof.Machine
end

