-- ==== Sys2Proof/Machine/Operands.lean ====
section
/-! DEFINITION. The operand forms: the fields of the chord, auxiliary and result words that commands read, and the
marks of a shot. -/
namespace Sys2Proof.Machine

/-! ## Marks of a shot (Table 23-68) -/

namespace Mark
def late : BitVec 38 := 1#38 <<< 0
def profileBad : BitVec 38 := 1#38 <<< 1
def codeFault : BitVec 38 := 1#38 <<< 2
def driveFault : BitVec 38 := 1#38 <<< 3
def aborted : BitVec 38 := 1#38 <<< 4
def slotClash : BitVec 38 := 1#38 <<< 5
def noPred : BitVec 38 := 1#38 <<< 6
def blankSkip : BitVec 38 := 1#38 <<< 7
def rxBad : BitVec 38 := 1#38 <<< 8
def noArrival : BitVec 38 := 1#38 <<< 9
def noStop : BitVec 38 := 1#38 <<< 10
def clipped : BitVec 38 := 1#38 <<< 11
def clamped : BitVec 38 := 1#38 <<< 12
def noLane : BitVec 38 := 1#38 <<< 13
def winBad : BitVec 38 := 1#38 <<< 14
def corrBad : BitVec 38 := 1#38 <<< 15
def noPeak : BitVec 38 := 1#38 <<< 16
def peakLimit : BitVec 38 := 1#38 <<< 17
def edgeLag : BitVec 38 := 1#38 <<< 18
def unsure : BitVec 38 := 1#38 <<< 19
def lowDrive : BitVec 38 := 1#38 <<< 24
def railNoise : BitVec 38 := 1#38 <<< 25
def openLoad : BitVec 38 := 1#38 <<< 26
def clampOverlap : BitVec 38 := 1#38 <<< 27
def gainLimit : BitVec 38 := 1#38 <<< 28
def earlyEdge : BitVec 38 := 1#38 <<< 29
def spanShift : BitVec 38 := 1#38 <<< 30
def deferred : BitVec 38 := 1#38 <<< 31
def noFloor : BitVec 38 := 1#38 <<< 32
def noNoise : BitVec 38 := 1#38 <<< 33
def floorHigh : BitVec 38 := 1#38 <<< 34
def ptOffset : BitVec 38 := 1#38 <<< 35
def ptDrop : BitVec 38 := 1#38 <<< 36
def ptSynth : BitVec 38 := 1#38 <<< 37
end Mark

/-- Whether any of the marks `m` is among `ms`. -/
def anyMark (ms m : BitVec 38) : Bool := ms &&& m != 0#38

/-- `m` where `b` holds, no mark otherwise. -/
def markIf (b : Bool) (m : BitVec 38) : BitVec 38 := if b then m else 0#38

/-! ## Chord window offsets (Table 14-8) -/

def offRXD : Nat := 0x40
def offRXU : Nat := 0x48
def offRXG : Nat := 0x50
def offWOD : Nat := 0x60
def offWCD : Nat := 0x68
def offWOU : Nat := 0x70
def offWCU : Nat := 0x78
def offCORRCFG : Nat := 0x80
def offPREDD : Nat := 0x88
def offPREDU : Nat := 0x90

/-- The bits of an RW word of the chord window that hold a field; the others are reserved, read as zero and ignore a 1
(R15, Tables 06-2, 07-1, 07-2, 08-5, 09-1, R261). -/
def chordMask (off : Nat) : W64 :=
  let low (n : Nat) : W64 := BitVec.ofNat 64 (2 ^ n - 1)
  if off < 0x40 then low 39
  else if off = offRXD ∨ off = offRXU then low 40
  else if off = offRXG then low 23
  else if 0x60 ≤ off ∧ off < 0x80 then low 40
  else if off = offPREDD ∨ off = offPREDU then low 41
  else low 64

/-! ## Drive profile entry (Table 06-2) -/

def dpHalf (w : W64) : Nat := (field w 0 12).toNat
def dpCodeEn (w : W64) : Bool := w.getLsbD 12
def dpCode (w : W64) : Nat := (field w 13 5).toNat
def dpChips (w : W64) : Nat := (field w 18 2).toNat
def dpCycles (w : W64) : Nat := (field w 20 6).toNat
def dpAnti (w : W64) : Nat := (field w 26 4).toNat
def dpClamp (w : W64) : Nat := (field w 30 8).toNat
def dpValid (w : W64) : Bool := w.getLsbD 38

/-- The entry is usable for a burst: every field that the burst uses holds a valid value (R175). -/
def profileOk (w : W64) : Bool :=
  dpValid w && decide (50 ≤ dpHalf w) && decide (dpHalf w ≤ 4000) && decide (dpAnti w ≤ 8) &&
    (if dpCodeEn w then dpChips w != 3 else decide (1 ≤ dpCycles w) && decide (dpCycles w ≤ 32))

/-- Carrier periods of the burst, K (R177). -/
def burstPeriods (w : W64) : Nat := if dpCodeEn w then 8 * 2 ^ dpChips w else dpCycles w

/-- The bead codes (Table 06-3). -/
def beadCodes : List W32 :=
  [0x8E2B5C71, 0x3A6DC94E, 0xD15B07AE, 0x6C9EB2D3, 0xA7C43E95, 0x59F0A6C3, 0xE2A95D1C, 0x1B7CE4A6,
   0x96D32B7A, 0x4EB59C61, 0xC3E61A5D, 0x27D9B68E, 0xB5A16E93, 0x7C4BD259, 0xF0D68A35, 0x0D6F5B9A,
   0x9B35E70C, 0x52CE3D87, 0xE86BA4D1, 0x31B74CE6, 0xAD5C91B3, 0x64E37A9C, 0xCB92D64A, 0x1E75A3D8,
   0x8D4AF1B6, 0x47B96E2D, 0xD6E13B65, 0x2F58C7A4, 0xB9471ED6, 0x73A2E95B, 0xE51D6C8B, 0x0BEC9572]

/-- Cycle `i` of the burst has phase 180° (R176, R178). -/
def cycleInverted (w : W64) (i : Nat) : Bool :=
  dpCodeEn w && (beadCodes.getD (dpCode w) 0#32).getLsbD i

/-- The anti-phase cycles have phase 180°: opposite to the last burst cycle (R182). -/
def antiInverted (w : W64) : Bool := !cycleInverted w (burstPeriods w - 1)

/-! ## Receive entries and gain word (Tables 07-1, 07-2) -/

def rxThresh (w : W64) : Nat := (field w 0 8).toNat
def rxZc (w : W64) : Nat := (field w 8 4).toNat
/-- POL = 1: the stop crossing falls. -/
def rxFalling (w : W64) : Bool := w.getLsbD 12
def rxHyst (w : W64) : Nat := (field w 13 2).toNat
def rxLpf (w : W64) : Nat := (field w 15 3).toNat
def rxDiv (w : W64) : Nat := (field w 18 8).toNat
def rxLen (w : W64) : Nat := (field w 26 13).toNat
def rxValid (w : W64) : Bool := w.getLsbD 39

/-- The receive entry is usable (R200); DIV and LEN are judged in grid timing only. -/
def rxOk (grid : Bool) (w : W64) : Bool :=
  rxValid w && rxZc w != 0 && decide (rxLpf w ≤ 5) &&
    (!grid || (decide (12 ≤ rxDiv w) && decide (rxDiv w ≤ 200) && decide (1 ≤ rxLen w) && decide (rxLen w ≤ 4096)))

def rgRange (w : W64) : BitVec 3 := field w 0 3
def rgAgcEn (w : W64) : Bool := w.getLsbD 3
def rgLo (w : W64) : Nat := (field w 4 6).toNat
def rgHi (w : W64) : Nat := (field w 10 6).toNat
def rgMin (w : W64) : Nat := (field w 16 3).toNat
def rgMax (w : W64) : Nat := (field w 19 3).toNat
def rgValid (w : W64) : Bool := w.getLsbD 22

/-- The gain word is usable (R200). -/
def rgOk (w : W64) : Bool :=
  rgValid w && decide (rgMin w ≤ rgMax w) && !(rgAgcEn w && decide (rgHi w < 3 * rgLo w))

/-! ## Correlator word and prediction (Table 09-1, R261) -/

def ccTlen (w : W64) : Nat := (field w 0 10).toNat
def ccAnchor (w : W64) : Nat := (field w 10 13).toNat
def ccMarginMin (w : W64) : Nat := (field w 23 8).toNat
def ccSnrMin (w : W64) : Nat := (field w 31 8).toNat
def ccLagCentre (w : W64) : Nat := (field w 39 12).toNat
def ccFloorMax (w : W64) : Nat := (field w 51 8).toNat
def ccNseg (w : W64) : Nat := (field w 59 4).toNat
def ccValid (w : W64) : Bool := w.getLsbD 63

/-- The correlator settings are usable (R260): P = 2 HALF / N between 4 and 128 samples. -/
def corrOk (corr drive rx : W64) : Bool :=
  ccValid corr && decide (1 ≤ ccTlen corr) && decide (ccTlen corr ≤ 512) && decide (ccTlen corr ≤ rxLen rx) &&
    decide (4 * rxDiv rx ≤ 2 * dpHalf drive) && decide (2 * dpHalf drive ≤ 128 * rxDiv rx)

def predTicks (w : W64) : Nat := (field w 0 40).toNat
def predValid (w : W64) : Bool := w.getLsbD 40

/-- The window is valid (R242). -/
def windowOk (o c : BitVec 40) : Bool := decide (o < c) && decide (c ≤ 0xFFFFFF0000#40)

/-- Whole lane periods up to the edge at or after an offset in ticks. -/
def ceilPeriods (t : BitVec 40) : Nat := (t.toNat + 65535) / 65536

/-! ## Codes of a chord's state (Table 10-4, R308) -/

def chordCode : ChordState → BitVec 3
  | .off => 0#3
  | .active => 1#3
  | .held => 2#3
  | .failed => 3#3
  | .probation => 4#3

def probCode : ProbFrom → BitVec 2
  | .off => 0#2
  | .held => 1#2
  | .failed => 2#2

/-! ## Register immediates -/

/-- A 16-bit immediate sign-extended to 64 bits (R390). -/
def sext16 (imm : BitVec 16) : W64 := imm.signExtend 64

/-- g[r], with g0 reading as zero (R385). -/
def Engine.reg (x : Engine) (r : GReg) : W64 := if r = 0#5 then 0#64 else x.g[r.toNat]

/-- Write g[r]; a write to g0 is discarded (R385). -/
def Engine.setReg (x : Engine) (r : GReg) (v : W64) : Engine :=
  if r = 0#5 then x else { x with g := x.g.set r.toNat v }

def State.reg (s : State) (e : Eng) (r : GReg) : W64 := (s.engine e).reg r

def State.setReg (s : State) (e : Eng) (r : GReg) (v : W64) : State := s.modEngine e (·.setReg r v)

end Sys2Proof.Machine
end

