-- ==== Sys2Proof/Machine/Flags.lean ====
section
/-! DEFINITION. The flag computations of the engines and the limits of their number formats (R386, R387, R417 to
R424). -/
namespace Sys2Proof.Machine

/-- Carry out of g[a] + g[b] (R417). -/
def addCarry (a b : W64) : Bool := decide (2 ^ 64 ≤ a.toNat + b.toNat)

/-- Borrow of g[a] − g[b]: g[a] < g[b] as unsigned (R417). -/
def subBorrow (a b : W64) : Bool := decide (a.toNat < b.toNat)

/-- An exact value lies outside the signed range of `w` bits. -/
def outside (w : Nat) (x : Int) : Bool := decide (x < -(2 ^ (w - 1))) || decide (2 ^ (w - 1) ≤ x)

/-- Signed overflow of a sum and of a difference (R417). -/
def addOverflow (a b : W64) : Bool := outside 64 (a.toInt + b.toInt)

def subOverflow (a b : W64) : Bool := outside 64 (a.toInt - b.toInt)

/-- An exact value limited to the signed range of `w` bits. -/
def limitTo (w : Nat) (x : Int) : BitVec w := BitVec.ofInt w (max (-(2 ^ (w - 1))) (min (2 ^ (w - 1) - 1) x))

/-- g[d] takes a result, from which Z and N are set even where d is g0 (R386, R412). -/
def Engine.result (x : Engine) (d : GReg) (r : W64) : Engine := { x.setReg d r with z := r == 0#64, n := r.msb }

/-- C and V are set (R386). -/
def Engine.setCV (x : Engine) (c v : Bool) : Engine := { x with c := c, v := v }

/-- Q is set where an operation has saturated; it is sticky (R386). -/
def Engine.sticky (x : Engine) (q : Bool) : Engine := { x with q := x.q || q }

/-- g[d] takes an exact value limited to 64 bits, with Z, N and Q. -/
def Engine.limited (x : Engine) (d : GReg) (r : Int) : Engine := (x.result d (limitTo 64 r)).sticky (outside 64 r)

/-- The flags of a trap frame: Z, N, C, V and Q from bit 0 (R403). -/
def Engine.setFlagBits (x : Engine) (w : W64) : Engine :=
  { x with z := w.getLsbD 0, n := w.getLsbD 1, c := w.getLsbD 2, v := w.getLsbD 3, q := w.getLsbD 4 }

end Sys2Proof.Machine
end

