-- ==== Sys2Proof/Machine/Numeric.lean ====
section
/-! DEFINITION. Exact integer and fixed-point arithmetic for the formulae of the spec: roots, sines, arctangents and
logarithms, all on integers scaled by a power of two. -/
namespace Sys2Proof.Machine

/-- Integer square root by successive bits, rounded down. -/
def isqrtBits : Nat → Nat → Nat → Nat
  | 0, _, r => r
  | k + 1, n, r => if (r + 2 ^ k) * (r + 2 ^ k) ≤ n then isqrtBits k n (r + 2 ^ k) else isqrtBits k n r

def isqrt (n : Nat) : Nat := isqrtBits (n.log2 / 2 + 1) n 0

/-- round(n / d), an exact half away from zero (R632); `d` positive. -/
def roundDiv (n : Int) (d : Nat) : Int :=
  if 0 ≤ n then (2 * n + d) / (2 * d) else -((-(2 * n) + d) / (2 * d))

/-- The scale of the fixed-point helpers, 2⁶⁴. -/
def fxOne : Int := 2 ^ 64

def fxMul (a b : Int) : Int := a * b / fxOne

def fxDiv (a b : Int) : Int := a * fxOne / b

/-- π at the scale 2⁶⁴. -/
def fxPi : Int := 57952155664616982739

/-- The sum of the sine series from the term `t` on. -/
def fxSinTerms : Nat → Int → Int → Int → Int
  | 0, _, _, _ => 0
  | k + 1, x2, t, i => t + fxSinTerms k x2 (-(fxMul t x2) / ((i + 1) * (i + 2))) (i + 2)

def fxSin (x : Int) : Int := fxSinTerms 20 (fxMul x x) x 1

/-- The sum of the arctangent series from the power `p` on. -/
def fxAtanTerms : Nat → Int → Int → Int → Int
  | 0, _, _, _ => 0
  | k + 1, y2, p, i => p / i + fxAtanTerms k y2 (-(fxMul p y2)) (i + 2)

/-- One halving of the angle: atan y = 2 atan (y / (1 + √(1 + y²))). -/
def fxAtanHalf (y : Int) : Int :=
  fxDiv y (fxOne + (isqrt ((fxOne * fxOne + y * y).toNat) : Int))

def fxAtan (y : Int) : Int :=
  let z := fxAtanHalf (fxAtanHalf (fxAtanHalf (fxAtanHalf y)))
  16 * fxAtanTerms 24 (fxMul z z) z 1

/-- The fraction bits of log₂ of a mantissa `m` in [1, 2) at the scale 2⁶⁴, `k` of them. -/
def log2Bits : Nat → Nat → Nat → Nat
  | 0, _, acc => acc
  | k + 1, m, acc =>
    let m2 := m * m / 2 ^ 64
    if 2 ^ 65 ≤ m2 then log2Bits k (m2 / 2) (2 * acc + 1) else log2Bits k m2 (2 * acc)

/-- log₂ (n / d) at the scale 2⁴⁸, rounded down; `n` and `d` positive. -/
def log2Ratio (n d : Nat) : Int :=
  let e : Int := (n.log2 : Int) - d.log2
  let m := if 0 ≤ e then n * 2 ^ 64 / (d * 2 ^ e.toNat) else n * 2 ^ 64 * 2 ^ (-e).toNat / d
  let (e, m) := if m < 2 ^ 64 then (e - 1, 2 * m) else (e, m)
  e * 2 ^ 48 + (log2Bits 48 m 0 : Nat)

/-- 2^(f / 2³²) at the scale 2⁶⁴ from the bits of `f`, the highest first, by successive roots of 2. -/
def exp2Bits : Nat → Nat → Nat → Nat → Nat
  | 0, _, _, acc => acc
  | k + 1, f, root, acc =>
    let root' := isqrt (root * 2 ^ 64)
    exp2Bits k f root' (if f.testBit k then acc * root' / 2 ^ 64 else acc)

/-- 2^(f / 2³²) at the scale 2⁶⁴, for 0 ≤ f < 2³². -/
def exp2Frac (f : Nat) : Nat := exp2Bits 32 f (2 ^ 65) (2 ^ 64)

end Sys2Proof.Machine
end

