-- ==== Sys2Proof/Machine/Steam.lean ====
section
/-! DEFINITION. IAPWS-IF97, which ch. 12 names for water and steam: regions 1 and 2 and the saturation line of region 4,
and the sublimation-pressure equation over ice, in integer arithmetic at the scale 2¹⁶⁰. The equations and their
coefficients are those of the published formulations (PRESUMED, log 75). -/
namespace Sys2Proof.Machine

/-! ## Fixed-point numbers at the scale 2¹⁶⁰ -/

def wsOne : Int := 2 ^ 160

def wsMul (a b : Int) : Int := a * b / wsOne

def wsDiv (a b : Int) : Int := a * wsOne / b

/-- `m` × 10⁻ᵉ. -/
def dec (m : Int) (e : Nat) : Int := m * wsOne / 10 ^ e

/-- A quantity in 2⁻³² of its unit, over a divisor. -/
def ofQ32 (x : Int) (d : Nat) : Int := x * 2 ^ 128 / d

/-- Back to 2⁻³². -/
def toQ32 (x : Int) : Int := x / 2 ^ 128

def wsPow (x : Int) : Nat → Int
  | 0 => wsOne
  | n + 1 => wsMul x (wsPow x n)

/-- `x` to an integer power. -/
def wsPower (x : Int) : Int → Int
  | .ofNat n => wsPow x n
  | .negSucc n => wsPow (wsDiv wsOne x) (n + 1)

def wsSqrt (x : Int) : Int := isqrt (x * wsOne).toNat

/-! ## The sums of a region -/

/-- A term n aᴵ bᴶ of a Gibbs energy, n as a decimal. -/
structure Term where
  i : Nat
  j : Int
  m : Int
  e : Nat

/-- Σ t I, Σ t I (I − 1), Σ t J, Σ t J (J − 1) and Σ t I J over the terms t, from which the derivatives follow. -/
structure GibbsSums where
  i : Int
  ii : Int
  j : Int
  jj : Int
  ij : Int

def gibbsSums (a b : Int) (ts : List Term) : GibbsSums :=
  ts.foldl (fun s k =>
    let t := wsMul (dec k.m k.e) (wsMul (wsPow a k.i) (wsPower b k.j))
    ⟨s.i + t * k.i, s.ii + t * (k.i * (k.i - 1) : Int), s.j + t * k.j, s.jj + t * (k.j * (k.j - 1)), s.ij + t * (k.i * k.j)⟩)
    ⟨0, 0, 0, 0, 0⟩

/-- Region 1 (IF97 Table 2), terms 1 to 17, and 18 to 34. -/
def region1a : List Term :=
  [⟨0, -2, 14632971213167, 14⟩, ⟨0, -1, -84548187169114, 14⟩, ⟨0, 0, -3756360367204, 12⟩,
   ⟨0, 1, 33855169168385, 13⟩, ⟨0, 2, -95791963387872, 14⟩, ⟨0, 3, 15772038513228, 14⟩,
   ⟨0, 4, -16616417199501, 15⟩, ⟨0, 5, 81214629983568, 17⟩, ⟨1, -9, 28319080123804, 17⟩,
   ⟨1, -7, -60706301565874, 17⟩, ⟨1, -1, -18990068218419, 15⟩, ⟨1, 0, -32529748770505, 15⟩,
   ⟨1, 1, -21841717175414, 15⟩, ⟨1, 3, -5283835796993, 17⟩, ⟨2, -3, -47184321073267, 17⟩,
   ⟨2, 0, -30001780793026, 17⟩, ⟨2, 1, 47661393906987, 18⟩]

def region1b : List Term :=
  [⟨2, 3, -44141845330846, 19⟩, ⟨2, 17, -72694996297594, 29⟩, ⟨3, -4, -31679644845054, 18⟩,
   ⟨3, 0, -28270797985312, 19⟩, ⟨3, 6, -85205128120103, 23⟩, ⟨4, -5, -22425281908, 16⟩,
   ⟨4, -2, -65171222895601, 20⟩, ⟨4, 10, -14341729937924, 26⟩, ⟨5, -8, -40516996860117, 20⟩,
   ⟨8, -11, -12734301741641, 22⟩, ⟨8, -6, -17424871230634, 23⟩, ⟨21, -29, -68762131295531, 32⟩,
   ⟨23, -31, 14478307828521, 33⟩, ⟨29, -38, 26335781662795, 36⟩, ⟨30, -39, -11947622640071, 36⟩,
   ⟨31, -40, 18228094581404, 37⟩, ⟨32, -41, -93537087292458, 39⟩]

/-- Density in kg/m³, enthalpy in kJ/kg and speed of sound in m/s, each in 2⁻³². -/
structure Props where
  rho : Int
  h : Int
  w : Int
  deriving DecidableEq, Repr

/-- Region 1 at temperature `t` K and pressure `p` Pa, both in 2⁻³². -/
def region1 (t p : Int) : Props :=
  let tau := dec 1386 0 * 2 ^ 32 / t
  let a := dec 71 1 - ofQ32 p 16530000
  let b := tau - dec 1222 3
  let s := gibbsSums a b (region1a ++ region1b)
  let gp := -(wsDiv s.i a)
  let gpp := wsDiv (wsDiv s.ii a) a
  let gt := wsDiv s.j b
  let gtt := wsDiv (wsDiv s.jj b) b
  let gpt := -(wsDiv (wsDiv s.ij a) b)
  let x := gp - wsMul tau gpt
  let y := wsDiv (wsMul x x) (wsMul (wsMul tau tau) gtt) - gpp
  let rt := ofQ32 t 1 * 461526 / 1000
  { rho := toQ32 (wsDiv (dec 16530000 0) (wsMul rt gp)), h := toQ32 (gt * 461526 * 1386 / 1000000),
    w := toQ32 (wsSqrt (wsMul rt (wsDiv (wsMul gp gp) y))) }

/-- The ideal-gas part of region 2 (IF97 Table 10): powers of τ. -/
def region2ideal : List Term :=
  [⟨0, 0, -96927686500217, 13⟩, ⟨0, 1, 10086655968018, 12⟩, ⟨0, -5, -5608791128302, 15⟩,
   ⟨0, -4, 71452738081455, 15⟩, ⟨0, -3, -40710498223928, 14⟩, ⟨0, -2, 14240819171444, 13⟩,
   ⟨0, -1, -4383951131945, 12⟩, ⟨0, 2, -28408632460772, 14⟩, ⟨0, 3, 21268463753307, 15⟩]

/-- The residual part of region 2 (IF97 Table 11), terms 1 to 22, and 23 to 43. -/
def region2a : List Term :=
  [⟨1, 0, -17731742473213, 16⟩, ⟨1, 1, -17834862292358, 15⟩, ⟨1, 2, -45996013696365, 15⟩,
   ⟨1, 3, -57581259083432, 15⟩, ⟨1, 6, -5032527872793, 14⟩, ⟨2, 1, -33032641670203, 18⟩,
   ⟨2, 2, -18948987516315, 17⟩, ⟨2, 4, -39392777243355, 16⟩, ⟨2, 7, -43797295650573, 15⟩,
   ⟨2, 36, -26674547914087, 18⟩, ⟨3, 0, 20481737692309, 21⟩, ⟨3, 1, 43870667284435, 20⟩,
   ⟨3, 3, -3227767723857, 17⟩, ⟨3, 6, -15033924542148, 16⟩, ⟨3, 35, -40668253562649, 15⟩,
   ⟨4, 1, -78847309559367, 23⟩, ⟨4, 2, 12790717852285, 21⟩, ⟨4, 3, 48225372718507, 20⟩,
   ⟨5, 7, 22922076337661, 19⟩, ⟨6, 3, -16714766451061, 24⟩, ⟨6, 16, -21171472321355, 16⟩,
   ⟨6, 35, -23895741934104, 12⟩]

def region2b : List Term :=
  [⟨7, 0, -5905956432427, 30⟩, ⟨7, 11, -12621808899101, 19⟩, ⟨7, 25, -38946842435739, 15⟩,
   ⟨8, 8, 11256211360459, 24⟩, ⟨8, 36, -82311340897998, 13⟩, ⟨9, 13, 19809712802088, 21⟩,
   ⟨10, 4, 10406965210174, 32⟩, ⟨10, 10, -10234747095929, 26⟩, ⟨10, 14, -10018179379511, 22⟩,
   ⟨16, 29, -80882908646985, 24⟩, ⟨16, 50, 10693031879409, 14⟩, ⟨18, 57, -33662250574171, 14⟩,
   ⟨20, 20, 89185845355421, 38⟩, ⟨20, 35, 30629316876232, 26⟩, ⟨20, 48, -42002467698208, 19⟩,
   ⟨21, 21, -59056029685639, 39⟩, ⟨22, 53, 37826947613457, 19⟩, ⟨23, 39, -12768608934681, 28⟩,
   ⟨24, 26, 73087610595061, 42⟩, ⟨24, 40, 55414715350778, 30⟩, ⟨24, 58, -9436970724121, 19⟩]

/-- Region 2 at temperature `t` K and pressure `p` Pa, both in 2⁻³². -/
def region2 (t p : Int) : Props :=
  let tau := dec 540 0 * 2 ^ 32 / t
  let a := ofQ32 p 1000000
  let b := tau - dec 5 1
  let s := gibbsSums a b (region2a ++ region2b)
  let z := gibbsSums wsOne tau region2ideal
  let gt := wsDiv z.j tau + wsDiv s.j b
  let gtt := wsDiv (wsDiv z.jj tau) tau + wsDiv (wsDiv s.jj b) b
  let x := wsOne + s.i - wsMul tau (wsDiv s.ij b)
  let y := wsOne - s.ii + wsDiv (wsMul x x) (wsMul (wsMul tau tau) gtt)
  let rt := ofQ32 t 1 * 461526 / 1000
  { rho := toQ32 (wsDiv (ofQ32 p 1) (wsMul rt (wsOne + s.i))), h := toQ32 (gt * 461526 * 540 / 1000000),
    w := toQ32 (wsSqrt (wsMul rt (wsDiv (wsOne + 2 * s.i + wsMul s.i s.i) y))) }

/-! ## The saturation line (region 4) -/

def sat1 : Int := dec (11670521452767) 10
def sat2 : Int := dec (-72421316703206) 8
def sat3 : Int := dec (-17073846940092) 12
def sat4 : Int := dec (1202082470247) 8
def sat5 : Int := dec (-32325550322333) 7
def sat6 : Int := dec (1491510861353) 11
def sat7 : Int := dec (-48232657361591) 10
def sat8 : Int := dec (40511340542057) 8
def sat9 : Int := dec (-23855557567849) 14
def sat10 : Int := dec (65017534844798) 11
/-- The saturation pressure in Pa at temperature `t` K, both in 2⁻³². -/
def satPressure (t : Int) : Int :=
  let x := ofQ32 t 1
  let th := x + wsDiv sat9 (x - sat10)
  let th2 := wsMul th th
  let a := th2 + wsMul sat1 th + sat2
  let b := wsMul sat3 th2 + wsMul sat4 th + sat5
  let c := wsMul sat6 th2 + wsMul sat7 th + sat8
  let r := wsDiv (2 * c) (wsSqrt (wsMul b b - 4 * wsMul a c) - b)
  toQ32 (wsPow r 4 * 1000000)

/-- The saturation temperature in K at pressure `p` Pa, both in 2⁻³². -/
def satTemperature (p : Int) : Int :=
  let b2 := wsSqrt (ofQ32 p 1000000)
  let b := wsSqrt b2
  let e := b2 + wsMul sat3 b + sat6
  let f := wsMul sat1 b2 + wsMul sat4 b + sat7
  let g := wsMul sat2 b2 + wsMul sat5 b + sat8
  let d := wsDiv (2 * g) (-f - wsSqrt (wsMul f f - 4 * wsMul e g))
  let x := sat10 + d
  toQ32 ((x - wsSqrt (wsMul x x - 4 * (sat9 + wsMul sat10 d))) / 2)

/-! ## The sublimation line -/

/-- log₂ x at the scale 2¹⁶⁰ for x in (0, 1], from log₂ at the scale 2⁴⁸. -/
def wsLog2 (x : Int) : Int := log2Ratio x.toNat wsOne.toNat * 2 ^ 112

/-- 2ˣ for x ≤ 0, at the scale 2¹⁶⁰. -/
def wsExp2 (x : Int) : Int :=
  let e := x / wsOne
  let f := (x - e * wsOne) / 2 ^ 128
  (exp2Frac f.toNat : Int) * 2 ^ 96 / 2 ^ e.natAbs

/-- `x` in (0, 1] to a power with nine decimals. -/
def wsRealPow (x : Int) (num : Int) : Int := wsExp2 (wsLog2 x * num / 10 ^ 9)

/-- log₂ e. -/
def log2e : Int := dec 14426950408889634074 19

/-- The sum of the sublimation-pressure equation at θ = `x`. -/
def iceSum (x : Int) : Int :=
  wsMul (dec (-212144006) 7) (wsRealPow x 3333333) + wsMul (dec 273203819 7) (wsRealPow x 1206666670) -
    wsMul (dec 610598130 8) (wsRealPow x 1703333330)

/-- The sublimation pressure in Pa at temperature `t` K up to the triple point, both in 2⁻³². -/
def icePressure (t : Int) : Int :=
  let x := min wsOne (wsDiv (ofQ32 t 1) (dec 27316 2))
  toQ32 (wsMul (dec 611657 3) (wsExp2 (min 0 (wsMul log2e (wsDiv (iceSum x) x)))))

/-- The saturation vapour pressure over water above 273.15 K and over ice at or below it (R352). -/
def vapourPressure (t : Int) : Int := if 27315 * 2 ^ 32 < 100 * t then satPressure t else icePressure t

end Sys2Proof.Machine
end

