-- ==== Sys2Proof/Machine/Fluid.lean ====
section
/-! DEFINITION. What K0–K1 make of the auxiliary results: temperature and pressure (R367, R370, R373), and the fluid state
of ch. 12: the fluid record, the inputs, the evaluation of water, steam and air, and the rates that follow. -/
namespace Sys2Proof.Machine

/-! ## The front-end record and VALUE (R367, R370, R373, Table 13-4) -/

def amNoCal : BitVec 10 := 1#10 <<< 7
def amRange : BitVec 10 := 1#10 <<< 8

/-- The marks that make a result invalid: all but DEFERRED (Table 13-6). -/
def amInvalid : BitVec 10 := 0x1FF#10

/-- The front-end record of a payload. -/
def frontOf (bs : List Byte) : FrontRec :=
  let q (off : Nat) : Int := leIntAt bs off 8
  { rRef := q 0, rNom := Vector.ofFn fun (k : Fin 4) => q (0x08 + 0x20 * k.val),
    a := Vector.ofFn fun (k : Fin 4) => q (0x10 + 0x20 * k.val), b := Vector.ofFn fun (k : Fin 4) => q (0x18 + 0x20 * k.val),
    c := Vector.ofFn fun (k : Fin 4) => q (0x20 + 0x20 * k.val),
    pa := Vector.ofFn fun (j : Fin 2) => Vector.ofFn fun (n : Fin 4) => q (0x88 + 0x20 * j.val + 8 * n.val) }

/-- The Callendar–Van Dusen polynomial R_x / R_nom at `t` in 2⁻⁴⁰ °C, times 10¹² and 2¹⁹² (R367). -/
def cvdValue (a b c t : Int) : Int :=
  10 ^ 12 * 2 ^ 192 + a * t * (10 ^ 9 * 2 ^ 120) + b * t * t * (10 ^ 5 * 2 ^ 80) +
    (if t < 0 then c * (t - 100 * 2 ^ 40) * t * t * t else 0)

/-- The greatest `x` from `lo` up, less than `lo + 2ⁿ`, with `p x`, for a `p` that holds from `lo` to some point. -/
def bisect (p : Int → Bool) : Nat → Int → Int
  | 0, lo => lo
  | n + 1, lo => if p (lo + 2 ^ n) then bisect p n (lo + 2 ^ n) else bisect p n lo

/-- The temperature of a resistance result in 2⁻³² K, or `none` outside −200 to +850 °C (R367). `raw` is RATIO with 40
fraction bits. -/
def rtdValue (f : FrontRec) (k : Fin 4) (raw : Int) : Option Int :=
  let x := f.rRef * raw * (10 ^ 12 * 2 ^ 152)
  let below (t : Int) : Bool := decide (cvdValue f.a[k] f.b[k] f.c[k] t * f.rNom[k] ≤ x)
  let lo : Int := -200 * 2 ^ 40
  let t := bisect (fun t => decide (t ≤ 850 * 2 ^ 40) && below t) 51 lo
  if !below lo || (t == 850 * 2 ^ 40 && decide (cvdValue f.a[k] f.b[k] f.c[k] t * f.rNom[k] < x)) then none
  else some ((t + 27315 * 2 ^ 40 / 100) / 256)

/-- The pressure of a bridge result in 2⁻³² Pa, times 2¹²⁰: r = 1000 × RATIO in mV/V (R370). -/
def bridgeValue (f : FrontRec) (j : Fin 2) (raw : Int) : Int :=
  let r := 1000 * raw
  let p := f.pa[j]
  p[0] * 2 ^ 120 + p[1] * r * 2 ^ 80 + p[2] * r * r * 2 ^ 40 + p[3] * r * r * r

/-- VALUE and the marks of K0–K1 for a result, with the value as a number where it has one. Under NO_CAL the VALUE is zero
(Table 23-71); under RANGE no rule gives it: a free value. -/
def State.auxValue (s : State) (ch : Fin 6) (x : AuxEntry) : W64 × BitVec 10 × Option Int :=
  let marks := x.marks &&& ~~~(amNoCal ||| amRange)
  match s.fl.front with
  | none => (0#64, marks ||| amNoCal, none)
  | some f =>
    if h : ch.val < 4 then
      match rtdValue f ⟨ch.val, h⟩ x.raw.toInt with
      | some v => (BitVec.ofInt 64 v, marks, some v)
      | none => (s.free 0, marks ||| amRange, none)
    else
      let v := s.roundFreeInt 0 (bridgeValue f ⟨ch.val - 4, by omega⟩ x.raw.toInt) (2 ^ 120)
      (BitVec.ofInt 64 v, marks, some v)

/-- K0–K1 can work: PD2 powered, and the metrology fence down (R32, R37). -/
def State.metrologyUp (s : State) : Bool := s.powered 2 && !s.fenced .metrology

/-- K0–K1 take the latest result of a channel, where they have not yet (R347, R373). -/
def State.takeAux (s : State) (ch : Fin 6) : State :=
  if !s.metrologyUp || !s.fl.fs.fresh[ch] then s
  else
    let x := s.aux.entry[ch]
    let v := s.auxValue ch x
    let ok := v.2.2.isSome && v.2.1 &&& amInvalid == 0#10
    let fs := s.fl.fs
    { s with aux.entry := s.aux.entry.set ch { x with value := v.1, marks := v.2.1 },
             fl.fs := { fs with fresh := fs.fresh.set ch false, latestOk := fs.latestOk.set ch ok,
                                valid := if ok then fs.valid.set ch (v.2.2.map fun y => (y, x.tDone)) else fs.valid }
             }.usedFree 1

def State.takeAllAux (s : State) : State := (List.finRange 6).foldl (fun s ch => s.takeAux ch) s

/-! ## The fluid record (R341, R342, Table 12-1) -/

def fluidKindOf (v : Nat) : FluidKind :=
  match v with
  | 0 => .none
  | 1 => .water
  | 2 => .steam
  | _ => .air

def energyModeOf (v : Nat) : EnergyMode :=
  match v with
  | 1 => .absolute
  | 2 => .difference
  | _ => .none

def satModeOf (v : Nat) : SatMode :=
  match v with
  | 1 => .fromP
  | 2 => .fromT
  | _ => .measured

/-- The fluid record of a payload, where every field holds a valid value (R342). -/
def fluidOf (bs : List Byte) : Option FluidRec :=
  let w : W64 := BitVec.ofNat 64 (leAt bs 0 8)
  let n (lo len : Nat) : Nat := (field w lo len).toNat
  let q (off : Nat) : Int := leIntAt bs off 8
  let r : FluidRec :=
    { fluid := fluidKindOf (n 0 2), baseEn := w.getLsbD 2, energy := energyModeOf (n 3 2), satMode := satModeOf (n 5 2),
      tChan := ⟨n 7 2, (field w 7 2).isLt⟩, t2Chan := ⟨n 9 2, (field w 9 2).isLt⟩, pChanB := w.getLsbD 11,
      gauge := w.getLsbD 12, satBand := n 13 8, diWc := n 21 5, diShift := n 26 4, tBase := q 0x08, pBase := q 0x10,
      rhBase := q 0x18, pAtm := q 0x20, hRef := q 0x28, dcFull := q 0x30, saFull := q 0x38,
      fsHold := leAt bs 0x40 2 % 8192, diAlarm := leAt bs 0x40 4 / 8192 % 1024,
      a0 := Vector.ofFn fun (c : Chord) => leIntAt bs (0x48 + c.val) 1 }
  let ok := n 3 2 != 3 && n 5 2 != 3 && decide (r.diWc ≤ 16) && decide (0 ≤ r.rhBase) && decide (r.rhBase ≤ 2 ^ 32) &&
    decide (0 < r.dcFull) && decide (0 < r.saFull) && decide (1 ≤ r.fsHold) && decide (r.fsHold ≤ 6000) &&
    decide (r.diAlarm ≤ 1000)
  if ok then some r else none

/-! ## The inputs (R347, Table 12-3) -/

def FluidRec.needsT (r : FluidRec) : Bool :=
  match r.fluid with
  | .none => false
  | .steam => r.satMode != .fromP
  | _ => true

def FluidRec.needsP (r : FluidRec) : Bool :=
  match r.fluid with
  | .none => false
  | .steam => r.satMode != .fromT
  | _ => true

/-- The return temperature, with DIFFERENCE (Table 12-3). -/
def FluidRec.needsT2 (r : FluidRec) : Bool :=
  (r.fluid == .water || r.fluid == .steam) && r.energy == .difference

/-- The channels of line temperature, return temperature and line pressure. -/
def FluidRec.chT (r : FluidRec) : Fin 6 := r.tChan.castLE (by decide)
def FluidRec.chT2 (r : FluidRec) : Fin 6 := r.t2Chan.castLE (by decide)
def FluidRec.chP (r : FluidRec) : Fin 6 := if r.pChanB then 5 else 4

/-- The channels that the record requires. -/
def FluidRec.channels (r : FluidRec) : List (Fin 6) :=
  (if r.needsT then [r.chT] else []) ++ (if r.needsP then [r.chP] else []) ++ (if r.needsT2 then [r.chT2] else [])

/-- A number of 0.1 s has passed between two readings of the elapsed counter, with the trim (R339, R513). -/
def State.tenthsOver (s : State) (tenths : Nat) (since : BitVec 48) : Bool :=
  decide ((32768 * tenths : Int) * (2097152 - s.rtc.trimNow.toInt) < 10 * 2097152 * (s.rtc.elapsed - since).toNat)

/-- The valid result of a channel that is not older than FS_HOLD (R347). -/
def State.auxInput (s : State) (r : FluidRec) (ch : Fin 6) : Option Int :=
  match s.fl.fs.valid[ch] with
  | some (v, at_) => if s.tenthsOver r.fsHold at_ then none else some v
  | none => none

/-- The inputs in use, where every required one has a value (R347). -/
def State.fsInputs (s : State) (r : FluidRec) : Option FsInputs :=
  if r.channels.any fun ch => (s.auxInput r ch).isNone then none
  else
    some { t := if r.needsT then s.auxInput r r.chT else none,
           p := if r.needsP then (s.auxInput r r.chP).map fun p => if r.gauge then p + r.pAtm else p else none,
           t2 := if r.needsT2 then s.auxInput r r.chT2 else none, rh := s.aux.rhInForce }

/-! ## Domains and phases (R349, R350, R353) -/

def pascals (n : Nat) : Int := n * 2 ^ 32

/-- 273.15 K ≤ T ≤ 773.15 K, and 1,000 Pa ≤ p ≤ 10,000,000 Pa (R349). -/
def steamTOk (t : Int) : Bool := decide (27315 * 2 ^ 32 ≤ 100 * t) && decide (100 * t ≤ 77315 * 2 ^ 32)
def steamPOk (p : Int) : Bool := decide (pascals 1000 ≤ p) && decide (p ≤ pascals 10000000)

/-- The AIR domain without its humidity test (R353). -/
def airOk (t p : Int) : Bool :=
  decide (pascals 50000 ≤ p) && decide (p ≤ pascals 4000000) && decide (25315 * 2 ^ 32 ≤ 100 * t) &&
    decide (100 * t ≤ 35315 * 2 ^ 32)

/-- An evaluation that yields no state. -/
def FsEval.bad (st : FsStat) : FsEval := ⟨st, 0, 0, 0, 0, 0, none, none, false, false⟩

/-- T_s(p) as the firmware computes it (Table 12-7). -/
def State.satT (s : State) (p : Int) : Int := s.deviate 0 (satTemperature p) 1000000

/-- A valid state from a region, each quantity within its deviation (R351, Table 12-7). -/
def State.fsState (s : State) (x : Props) (t p : Int) (sat : Bool) : FsEval :=
  { stat := .ok, rho := s.deviate 1 x.rho 500000, enth := s.deviate 2 x.h 500000, w := s.deviate 3 x.w 100000, t := t,
    p := p, rhoBase := none, h2 := none, satUsed := sat, baseDomain := false }

/-- Water: region 1 below the band, WRONG_PHASE otherwise (Table 12-4). SAT_BAND counts 10 mK. -/
def State.waterState (s : State) (r : FluidRec) (t p : Int) : FsEval :=
  if !steamTOk t || !steamPOk p then FsEval.bad .outOfDomain
  else if 100 * t ≤ 100 * s.satT p - r.satBand * 2 ^ 32 then s.fsState (region1 t p) t p false
  else FsEval.bad .wrongPhase

/-- Steam with both inputs measured (Table 12-4). -/
def State.steamState (s : State) (r : FluidRec) (t p : Int) : FsEval :=
  let ts := s.satT p
  if !steamTOk t || !steamPOk p then FsEval.bad .outOfDomain
  else if 100 * ts + r.satBand * 2 ^ 32 ≤ 100 * t then s.fsState (region2 t p) t p false
  else if 100 * ts - r.satBand * 2 ^ 32 < 100 * t then s.fsState (region2 ts p) t p true
  else FsEval.bad .wrongPhase

/-- Steam on the saturation line by its pressure alone. -/
def State.steamByP (s : State) (p : Int) : FsEval :=
  let ts := s.satT p
  if steamPOk p then s.fsState (region2 ts p) ts p true else FsEval.bad .outOfDomain

/-- Steam on the saturation line by its temperature alone, up to 584.149 K. -/
def State.steamByT (s : State) (t : Int) : FsEval :=
  let p := s.deviate 0 (satPressure t) 1000000
  if 27315 * 2 ^ 32 ≤ 100 * t ∧ 1000 * t ≤ 584149 * 2 ^ 32 then s.fsState (region2 t p) t p true
  else FsEval.bad .outOfDomain

/-! ## Humid air (R352) -/

/-- The molar gas constant in J/(mol K) (PRESUMED, log 75). -/
def gasConstant : Int := dec 8314462618 9

/-- The molar density that p = Z ρ_n R T gives with Z = 1 + B ρ_n + C ρ_n², by successive approximation. -/
def molarDensity (prt b c : Int) : Nat → Int
  | 0 => prt
  | n + 1 =>
    let r := molarDensity prt b c n
    wsDiv prt (wsOne + wsMul b r + wsMul c (wsMul r r))

/-- The water partial pressure RH × f × p_ws, at the scale 2¹⁶⁰; `rh` too. -/
def waterPressure (t p rh : Int) : Int := wsMul rh (wsMul (Config.airEnhancement p t) (ofQ32 (vapourPressure t) 1))

/-- The density of humid air (R352), or `none` outside the domain (R353). -/
def State.airDensity (s : State) (i : Nat) (t p rh : Int) : Option Int :=
  let pw := waterPressure t p rh
  if !airOk t p || decide (rh < 0) || decide (wsOne < rh) || decide (99 * ofQ32 p 1 < 100 * pw) then none
  else
    let x := wsDiv pw (ofQ32 p 1)
    let prt := wsDiv (ofQ32 p 1) (wsMul gasConstant (ofQ32 t 1))
    some (s.deviate i (toQ32 (wsMul (Config.airMass x) (molarDensity prt (Config.airB t x) (Config.airC t x) 24))) 500000)

/-- AIR: ENTH and W_FS are reported as zero (R353). -/
def State.airState (s : State) (t p : Int) (rh : BitVec 10) : FsEval :=
  match s.airDensity 1 t p (dec rh.toNat 3) with
  | some rho => { FsEval.bad .ok with rho := rho, t := t, p := p }
  | none => FsEval.bad .outOfDomain

/-! ## The evaluation (R348 to R353) -/

/-- The state at the line. -/
def State.lineState (s : State) (r : FluidRec) (x : FsInputs) : FsEval :=
  let t := x.t.getD 0
  let p := x.p.getD 0
  match r.fluid with
  | .none => FsEval.bad .noFluid
  | .water => s.waterState r t p
  | .air => s.airState t p x.rh
  | .steam =>
    match r.satMode with
    | .measured => s.steamState r t p
    | .fromP => s.steamByP p
    | .fromT => s.steamByT t

/-- The density at the base state, where base volume is computed and the state lies in its domain (R344, R353). -/
def State.baseDensity (s : State) (r : FluidRec) : Option Int :=
  match r.fluid with
  | .water =>
    if steamTOk r.tBase && steamPOk r.pBase && decide (r.tBase ≤ s.deviate 4 (satTemperature r.pBase) 1000000) then
      some (s.deviate 5 (region1 r.tBase r.pBase).rho 500000)
    else none
  | .air => s.airDensity 5 r.tBase r.pBase (r.rhBase * 2 ^ 128)
  | _ => none

/-- h₂: the region-1 enthalpy at the line pressure and the return temperature, where that state lies in region 1 and in
the domain (R344, R345). -/
def State.returnEnthalpy (s : State) (p t2 : Int) : Option Int :=
  if steamTOk t2 && steamPOk p && decide (t2 ≤ s.satT p) then some (s.deviate 6 (region1 t2 p).h 500000) else none

/-- The base state is wanted: BASE_EN with WATER or AIR (Table 12-2). -/
def FluidRec.wantsBase (r : FluidRec) : Bool := r.baseEn && (r.fluid == .water || r.fluid == .air)

/-- An evaluation. -/
def State.evaluate (s : State) (r : FluidRec) (x : FsInputs) : FsEval :=
  let e := s.lineState r x
  let base := if r.wantsBase then s.baseDensity r else none
  { e with rhoBase := base, baseDomain := r.wantsBase && base.isNone,
           h2 := if e.stat = .ok then x.t2.bind fun t2 => s.returnEnthalpy e.p t2 else none }

/-- The state of a traverse with its evaluation: computed anew only where an input in use, the record or RH_SET has
changed (R348); HELD where an older valid input is in use (R347). -/
def State.fluidState (s : State) (r : FluidRec) : State × FsStat × Option FsEval :=
  if r.fluid = .none then (s, .noFluid, none)
  else
    match s.fsInputs r with
    | none => (s, .noInput, none)
    | some x =>
      let fs := s.fl.fs
      let (s, e) := match (if fs.inputs = some x ∧ fs.used = r then fs.eval else none) with
        | some e => (s, e)
        | none =>
          let e := s.evaluate r x
          (({ s with fl.fs := { fs with inputs := some x, used := r, eval := some e } } : State).usedFree 7, e)
      let held := r.channels.any fun ch => !s.fl.fs.latestOk[ch]
      (s, if e.stat = .ok ∧ held then .held else e.stat, some e)

/-! ## The derived rates (R344 to R346, Table 12-2) -/

/-- What the rates of a traverse are formed from, with the flags of the energy rate. -/
structure Derived where
  rates : Rates
  eNeg : Bool
  eDomain : Bool
  deriving DecidableEq, Repr

/-- The enthalpy difference of the energy rate (R344), `none` where no energy is yielded. -/
def energyDiff (r : FluidRec) (e : FsEval) : Option Int :=
  if r.fluid = .air then none
  else match r.energy with
    | .none => none
    | .absolute => some (e.enth - r.hRef)
    | .difference => e.h2.map fun h2 => e.enth - h2

/-- q_b, q_m and q_e of a line rate (Table 12-2), each product within 2⁻³² of its unit (Table 12-7); they are magnitudes
(R344). With |q| below Q_CUTOFF all rates are zero (R323). -/
def State.deriveRates (s : State) (r : FluidRec) (cutoff q : Int) (st : FsStat) (e : Option FsEval) : Derived :=
  let cut := decide ((q.natAbs : Int) < cutoff)
  let q := if cut then 0 else q
  match (if st = .ok ∨ st = .held then e else none) with
  | none => ⟨⟨q, none, none, none⟩, false, false⟩
  | some e =>
    let qm := s.roundFreeInt 0 (q.natAbs * e.rho) (2 ^ 32)
    let qb := e.rhoBase.map fun rb => if 0 < rb then s.roundFreeInt 1 (qm * 2 ^ 32) rb else 0
    let diff := energyDiff r e
    let neg := diff.any fun d => decide (d < 0)
    let qe := if neg then none else diff.map fun d => s.roundFreeInt 2 (qm * d) (2 ^ 32)
    let wants := (r.fluid == .water || r.fluid == .steam) && r.energy == .difference
    ⟨⟨q, qb, some qm, qe⟩, neg, wants && e.h2.isNone⟩

/-! ## The dryness index (R356, R357) -/

/-- 10 log₁₀ (PEAK_DN × PEAK_UP / 4096) − 9 × RANGE − A0 / 4 in 2⁻³² dB; 10 log₁₀ 2 = 3.0103 dB. -/
def attenuation (dn up : BitVec 6) (range : BitVec 3) (a0 : Int) : Int :=
  log2Ratio (dn.toNat * up.toNat) 4096 * 30102999566398 / (10 ^ 13 * 2 ^ 16) - 9 * range.toNat * 2 ^ 32 - a0 * 2 ^ 30

/-- a_i of the ACTIVE and HELD chords whose shots have peaks. -/
def attenuations (r : FluidRec) (b : TravBlock) : List Int :=
  (List.finRange 20).filterMap fun c =>
    let k := b.recs[c]
    if (k.state = .active ∨ k.state = .held) ∧ k.peakDn ≠ 0#6 ∧ k.peakUp ≠ 0#6 then
      some (attenuation k.peakDn k.peakUp k.range r.a0[c])
    else none

/-- u in 2⁻³², from dc and the attenuations. -/
def drynessIndicator (r : FluidRec) (dc : Int) (as : List Int) : Int :=
  let uc := min (2 ^ 32) (max 0 (-dc) * 2 ^ 32 / r.dcFull)
  let top := as.foldl max (as.headD 0)
  let bottom := as.foldl min (as.headD 0)
  let ua := if 4 ≤ as.length then min (2 ^ 32) ((top - bottom) * 2 ^ 32 / r.saFull) else 0
  (r.diWc * uc + (16 - r.diWc) * ua) / 16

/-- What the close of a traverse does to the dryness index: the flags SOS_HIGH, DI_NONE and DI_PARTIAL, and the event as
DI falls below DI_ALARM (R356, R357). -/
def State.drynessStep (s : State) (r : FluidRec) (b : TravBlock) (c : Option Int) (w : Option Int) :
    State × Bool × Bool × Bool :=
  match c, w with
  | some c, some w =>
    if w ≤ 0 then (s, false, true, false)
    else
      let dc := (c - w) * 2 ^ 32 / w
      let as := attenuations r b
      let raw := 1000 * 2 ^ 16 - 1000 * drynessIndicator r dc as / 2 ^ 16
      let di := s.roundFreeInt 0 (s.fl.fs.diS * 2 ^ r.diShift + (raw - s.fl.fs.diS)) (2 ^ r.diShift)
      let n := (roundDiv di 65536).toNat
      let low := s.fl.fs.diLow
      let falls := !low && decide (n < r.diAlarm)
      let fs := { s.fl.fs with diS := di, di := n, diLow := if falls then true else low && decide (n < r.diAlarm + 20) }
      let s := ({ s with fl.fs := fs } : State).usedFree 1
      let s := if falls then ((s.event 11).logFrom 2 0x10B ((s.free 0).setWidth 32)).usedFree 1 else s
      (s, decide (r.dcFull < dc), false, decide (as.length < 4))
  | _, _ => (s, false, true, false)

/-! ## Changes of FS_STAT (R355) -/

/-- A change of FS_STAT is logged, with the number of changes that followed the last logged one within 10 s. -/
def State.noteFsStat (s : State) (st : FsStat) : State :=
  let fs := s.fl.fs
  if fs.stat = st then s
  else
    let s : State := { s with fl.fs := { fs with stat := st } }
    if fs.loggedAt.any fun t => !s.tenthsOver 100 t then { s with fl.fs.changes := fs.changes + 1 }
    else
      let s : State := { s with fl.fs.changes := 0, fl.fs.loggedAt := some s.rtc.elapsed }
      (s.event 10).logFrom 2 0x10A (BitVec.ofNat 32 fs.changes)

end Sys2Proof.Machine
end

