-- ==== Sys2Proof/Machine/Hub.lean ====
section
/-! DEFINITION. The mailbox and handshake unit (R408 to R411): the inbound queues of the engines and what their changes
release, and the signals that wake an engine. -/
namespace Sys2Proof.Machine

/-- The mailbox and handshake unit serves requests: PD3 powered and the fence of the service cluster down (R407). -/
def State.hubServes (s : State) : Bool := s.powered 3 && !s.fenced .service

/-- The place of an engine's queue among those that a STALL holds as full (Table 22-5). -/
def queueOf (e : Eng) : Fin 7 :=
  match e with
  | .s0 => 2
  | .s1 => 3
  | .k01 => 4
  | .k2 => 5
  | .k3 => 6

/-- The queue of an engine has room (R408, R409). -/
def State.queueHasRoom (s : State) (e : Eng) : Bool :=
  decide ((s.engine e).inbox.length < 8) && !s.pt.stalled[queueOf e]

/-- An entry: the payload, and the sender's number that hardware stamps (R408). -/
def entryWord (sender : Nat) (payload : W64) : W64 :=
  (field payload 0 56).setWidth 64 ||| place 64 56 (BitVec.ofNat 3 sender)

/-- An entry joins a queue that has room: an engine that waits in RECV takes it, one in DOZE resumes (R408, R409). -/
def State.append (s : State) (e : Eng) (w : W64) : State :=
  s.hop [26] |>.modEngine e fun x =>
    match x.wait with
    | some (.recv d) => (x.setReg d w).done
    | some .doze => { x with inbox := x.inbox ++ [w] }.done
    | _ => { x with inbox := x.inbox ++ [w] }

/-- A SEND of `sender` to `e` that stalls on a full queue is carried out where there is room now. -/
def State.serveSend (s : State) (e sender : Eng) : State :=
  match (s.engine sender).wait with
  | some (.sendFull payload dst) =>
    if dst.toNat = engNum e ∧ s.queueHasRoom e ∧ s.hubServes then
      (s.append e (entryWord (engNum sender) payload)).modEngine sender Engine.done
    else s
  | _ => s

/-- Stalled SENDs to an engine's queue, in ascending order of the sender's number (R409). -/
def State.serveSends (s : State) (e : Eng) : State := allEngines.foldl (fun s x => s.serveSend e x) s

/-- An event for an engine, as by SIG: it wakes a DOZE, and stays latched for the next WAIT otherwise (R107, R411). -/
def State.signal (s : State) (e : Eng) : State :=
  s.modEngine e fun x => if x.wait = some .doze then x.done else { x with sigEvent := true }

/-- A number that an engine sends to MAILBOX_OUT has room there (R410). -/
def State.mailboxRoom (s : State) : Bool := decide (s.er.mailboxOut.length < 4)

/-- An entry joins MAILBOX_OUT: EVENT_FLAGS.MAILBOX as it passes from empty to not empty (R410). -/
def State.appendOut (s : State) (w : W64) : State :=
  let was := s.er.mailboxOut.isEmpty
  let s := { s.hop [26] with er.mailboxOut := s.er.mailboxOut ++ [field w 0 32], er.mboEmpty := false }
  if was then s.event 18 else s

/-- A SEND to the host that stalls on a full MAILBOX_OUT is carried out where there is room now. -/
def State.serveOut (s : State) (sender : Eng) : State :=
  match (s.engine sender).wait with
  | some (.sendFull payload dst) =>
    if dst = 7#5 ∧ s.mailboxRoom ∧ s.hubServes then (s.appendOut payload).modEngine sender Engine.done else s
  | _ => s

def State.serveOuts (s : State) : State := allEngines.foldl (fun s x => s.serveOut x) s

/-- A value that the host or the system port hands to K2 (R410): dropped with MBI_OVF where the queue is full. -/
def State.mailboxIn (s : State) (v : W32) : State :=
  if !s.hubServes then s
  else if s.queueHasRoom .k2 then s.append .k2 (entryWord 7 (v.setWidth 64))
  else { s with er.mbiOvf := true }

/-- MAILBOX_IN_WRITE (R410). -/
def execMailboxInWrite (v : W32) (s : State) : Host.Outcome State Fault Refusal := .next (s.mailboxIn v)

/-- A host read of MAILBOX_OUT: the oldest entry, removed; zero from an empty queue (R410). -/
def State.mailboxOutRead (s : State) : State × W32 :=
  if !s.hubServes then (s, 0#32)
  else match s.er.mailboxOut with
    | [] => ({ s with er.mboEmpty := true }, 0#32)
    | w :: rest => (({ s with er.mailboxOut := rest, er.mboEmpty := rest.isEmpty }).serveOuts, w)

/-- MAILBOX_OUT_READ (R410): the value is left in the model's `readOut`. -/
def execMailboxOutRead (s : State) : Host.Outcome State Fault Refusal :=
  let r := s.mailboxOutRead
  .next { r.1 with readOut := r.2.setWidth 64 }

end Sys2Proof.Machine
end

