-- ==== Sys2Proof/Machine/Lane.lean ====
section
/-! DEFINITION. The time-measurement lanes (ch. 08): stamps, calibration, the sanity check and the lane rotation. -/
namespace Sys2Proof.Machine

/-- The fine time of an edge with tap count `tap` (R234). -/
def LaneSt.fine (l : LaneSt) (tap : Byte) : Nat :=
  (l.grat.take tap.toNat).sum + l.grat.getD tap.toNat 0 / 2

/-- The stamp of an edge whose sampling edge lies `delay` lane periods from now (R227, R231). -/
def LaneSt.stamp (l : LaneSt) (delay : BitVec 24) (tap : Byte) : BitVec 40 :=
  ((l.coarse + delay).setWidth 40 <<< 16) - BitVec.ofNat 40 (l.fine tap)

/-- The lane forms stamps: its graticule is valid, it is in service and not under calibration (R225, R236). -/
def LaneSt.usable (l : LaneSt) : Bool := l.valid && !l.out && !l.calibrating

/-- The lane assigned to a chord (R225). -/
def State.assignedLane (s : State) (c : Chord) : Lane :=
  if s.lr.spareFor.toNat = c.val then L20 else laneOf c

/-- The lane is powered (Table 08-1). -/
def State.lanePowered (s : State) (l : Lane) : Bool :=
  if l.val < 10 then s.powered 4 else if l.val < 20 then s.powered 5 else s.powered 4

/-- log2 of the hit count (R240). -/
def State.hitLog (s : State) : Nat :=
  let f := if s.sys.state = .vigil then s.lr.vhits.toNat else s.lr.hits.toNat
  16 + min f 8

/-- One more than the highest bin hit (R233). -/
def binsUsed (hits : List Nat) : Nat :=
  (hits.zipIdx.foldl (fun p hk => if hk.1 = 0 then p else hk.2 + 1) 0)

/-- The widths of R237 from the hits of each bin, `cum` hits having gone before. -/
def widthsFrom (h : Nat) : Nat → List Nat → List Nat
  | _, [] => []
  | cum, x :: xs => (65536 * (cum + x) / h - 65536 * cum / h) :: widthsFrom h (cum + x) xs

/-- The graticule that a calibration writes (R237). -/
def calibrate (logH : Nat) (hits : List Nat) : List Nat := widthsFrom (2 ^ logH) 0 hits

/-- The sanity check fails (R238). -/
def sanityFails (logH : Nat) (hits : List Nat) : Bool :=
  let w := calibrate logH hits
  let p := binsUsed w
  hits.getD 255 0 != 0 || (w.take p).any (fun x => decide (x * p > 3 * 65536)) ||
    decide ((w.take p).countP (· == 0) > 8)

/-- A histogram of a completed calibration: 256 bins that hold H hits together (R237). -/
def histogramOk (logH : Nat) (hits : List Nat) : Bool := hits.length == 256 && hits.sum == 2 ^ logH

/-- The enabled chords, lowest first. -/
def State.enabledChords (s : State) : List Chord := allChords.filter fun c => s.sv.chordEn.getLsbD c.val

/-- The chord against which L20 is compared (R247). -/
def State.compareChord (s : State) : Option Chord :=
  s.enabledChords.find? fun c => (s.lane (laneOf c)).usable

/-- The lane that stamps a chord's shots for comparison only, in the shadow phase (R246, R247). -/
def State.shadowLane (s : State) (c : Chord) : Option Lane :=
  match s.lr.step with
  | some st =>
    if st.phase = .shadow then
      if st.lane.val = c.val then some st.lane
      else if st.lane = L20 ∧ s.compareChord = some c then some L20
      else none
    else none
  | none => none

/-- R248: the lane under the step stays out of service; L20 keeps its chord, LANE_FAULT is set, and the step is
repeated until RETRY failures in a row take the lane out for good. -/
def State.laneFails (s : State) (l : Lane) : State :=
  let n := (s.lane l).fails + 1
  let retry := max 1 s.lr.retry.toNat
  let s := s.modLane l fun x => { x with out := true, calibrating := false, fails := n, dead := decide (retry ≤ n) }
  let s := { s with lr.step := none, lr.repeatLane := if retry ≤ n then none else some l,
                    lr.assigned := s.lr.assigned || decide (s.lr.spareFor.toNat = l.val) }
  s.event 5

/-- L20 gives the chord of a step back, unless an ASSIGN or a failed lane holds it (R225). -/
def LaneRegs.giveBack (r : LaneRegs) (l : Lane) : LaneRegs :=
  if r.spareFor.toNat = l.val ∧ !r.assigned then { r with spareFor := 31#5 } else r

/-- End a step: the graticule stays, nothing counts as a failure, and the step is repeated at the next step time. The
lane returns to its chord at once, or with `atRelease` at the release of HOLD (R250). -/
def State.dropStep (s : State) (atRelease : Bool) : State :=
  match s.lr.step with
  | none => s
  | some st =>
    let s := s.modLane st.lane fun x => { x with calibrating := false }
    let lr := { s.lr with step := none, repeatLane := some st.lane }
    { s with lr := if atRelease then { lr with returnHeld := true } else lr.giveBack st.lane }

def State.abandonStep (s : State) : State := s.dropStep false

/-- Table 08-7: a comparison restarts; a takeover or a calibration is abandoned. -/
def State.interruptStep (s : State) (atRelease : Bool) : State :=
  match s.lr.step with
  | some st =>
    match st.phase with
    | .shadow => { s with lr.step := some { st with diffs := [] } }
    | .returning => { s with lr.step := some { st with phase := .shadow, diffs := [] } }
    | .due => s.dropStep false
    | .passed => s
    | .takeover => s.dropStep atRelease
    | .calibrating => s.dropStep atRelease
  | none => s

/-- The safe state of R136 meets the step in progress (Table 08-7). -/
def State.stepInterrupted (s : State) : State := s.interruptStep true

/-- A sleep entry meets the step: SLUMBER ends it in any phase (Table 08-7). -/
def State.stepSleeps (s : State) (slumber : Bool) : State := if slumber then s.abandonStep else s.interruptStep false

/-- The release of HOLD: L20 gives back the chord of a step that the safe state has ended (Table 08-7). -/
def State.returnLane (s : State) : State :=
  let lr := { s.lr with returnHeld := false }
  { s with lr := if s.lr.returnHeld && s.lr.step.isNone && !s.lr.assigned then { lr with spareFor := 31#5 } else lr }

/-- R246: one counting difference is added; four of them decide. -/
def State.compareStep (s : State) (d : Int) : State :=
  match s.lr.step with
  | some st =>
    let ds := st.diffs ++ [d]
    if ds.length < 4 then { s with lr.step := some { st with diffs := ds } }
    else if (ds.sum).natAbs ≤ 314 then { s with lr.step := some { st with diffs := ds, phase := .returning } }
    else s.laneFails st.lane
  | none => s

/-- Lanes that the rotation visits: those of enabled chords, L20, and L21 with any auxiliary channel enabled (R245). -/
def State.rotationLanes (s : State) : List Lane :=
  s.enabledChords.map laneOf ++ [L20] ++ (if s.aux.rtdEn = 0#4 ∧ s.aux.pbEn = 0#2 then [] else [L21])

/-- The lane of the next step: a failed lane first, otherwise the next in ascending order (R245, R248). -/
def State.nextStepLane (s : State) : Option Lane :=
  match s.lr.repeatLane with
  | some l => some l
  | none =>
    let ls := s.rotationLanes.filter fun l => !(s.lane l).dead
    match s.lr.lastVisited with
    | none => ls.head?
    | some p => (ls.find? fun l => decide (p < l)).or ls.head?

/-- L20 is assigned to a chord other than for the step of this lane, by firmware also to its own, or is free but out of
service, so that the lane cannot be covered (R249). -/
def State.spareBusy (s : State) (l : Lane) : Bool :=
  if s.lr.spareFor = 31#5 then !(s.lane L20).usable
  else s.lr.byAssign || s.lr.spareFor.toNat != l.val

/-- Seconds that a calibration takes at the slowest, against HOLD_TIME in tenths (R237, R249): 1.33 H / 20 MHz. -/
def State.calibrationExceedsHold (s : State) : Bool :=
  decide (133 * 2 ^ s.hitLog * 10 > 100 * 20000000 * max 1 (min 600 s.sv.holdTime.toNat))

/-- Begin the calibration of a lane: every counter of its histogram is cleared (R237). -/
def State.beginCalibration (s : State) (l : Lane) : State :=
  s.modLane l fun x => { x with calibrating := true, logH := s.hitLog, hist := [] }

/-- The takeover is over once no shot is in flight on the lane of the step: its calibration starts (R246). -/
def State.takeoverDone (s : State) (c : Chord) : State :=
  match s.lr.step with
  | some st =>
    if st.phase = .takeover ∧ st.lane = laneOf c then
      { s.beginCalibration st.lane with lr.step := some { st with phase := .calibrating } }
    else s
  | none => s

/-- A shot is in flight on lane `l` (R246). -/
def State.laneInFlight (s : State) (l : Lane) : Bool := allChords.any fun c => (s.chord c).cur.any fun sh => sh.lane == l

/-- A step for L21 begins once no resistance conversion is in progress (R247). -/
def State.beginAuxStep (s : State) : State :=
  match s.lr.step with
  | some st =>
    if st.lane = L21 ∧ st.phase = .due ∧ s.aux.res.cur.isNone then
      { s.beginCalibration L21 with lr.step := some { st with phase := .calibrating } }
    else s
  | none => s

/-- Begin, or queue for the boundary, the step of lane `l`. -/
def State.startStep (s : State) (l : Lane) (uncovered : Bool) : State :=
  ({ s with lr.step := some ⟨l, .due, [], uncovered⟩, lr.repeatLane := none, lr.returnHeld := false } : State).beginAuxStep

/-- A step comes due (R245, R247, R249). A step for L21 begins at once where no resistance conversion runs; the
others begin at the next traverse boundary. -/
def State.stepDue (s : State) : State :=
  if s.lr.step.isSome then { s with lr.stepWaiting := true }
  else match s.nextStepLane with
    | none => s
    | some l =>
      let s : State := { s with lr.lastVisited := some l, lr.stepWaiting := false }
      if l = L21 then s.startStep l false
      else if l = L20 then (if s.lr.spareFor = 31#5 then s.startStep l false else s)
      else if s.spareBusy l then (if s.lr.holdCal && !s.calibrationExceedsHold then s.startStep l true else s)
      else s.startStep l false

/-- A step has ended: one that waited for it comes due (R245). -/
def State.stepEnded (s : State) : State :=
  if s.lr.stepWaiting && s.lr.step.isNone && s.lr.rotEn then s.stepDue else s

/-- ROTATION_STEP_DUE (R245): only with ROT_EN, and only while the lanes are powered. -/
def execRotationStepDue (s : State) : Host.Outcome State Fault Refusal :=
  if s.lr.rotEn && s.powered 4 then .next s.stepDue else .next s

/-- The rotation's part of a traverse boundary (R225, R246, R247, R443): assignments change, a due step begins,
a passed sanity check opens the shadow phase, and a passed comparison returns the lane. -/
def State.rotationBoundary (s : State) : State :=
  -- a return after a pass, or after a sanity check alone where nothing is compared
  let s := match s.lr.step with
    | some st =>
      match st.phase with
      | .returning =>
        let s := s.modLane st.lane fun x => { x with out := false, fails := 0 }
        if s.lr.spareFor.toNat = st.lane.val then
          { s with lr.step := none, lr.assigned := false, lr.byAssign := false, lr.spareFor := 31#5 }
        else { s with lr.step := none }
      | .passed =>
        if st.uncovered ∨ (st.lane = L20 ∧ s.compareChord.isNone) then
          let s := s.modLane st.lane fun x => { x with out := false, fails := 0 }
          { s with lr.step := none }
        else { s with lr.step := some { st with phase := .shadow, diffs := [] } }
      | .due =>
        if st.lane = L21 then s
        else
          let flying := s.laneInFlight st.lane
          let s : State :=
            { s with lr.step := some { st with phase := if flying then .takeover else .calibrating },
                     lr.spareFor := if st.lane.val < 20 ∧ !st.uncovered then BitVec.ofNat 5 st.lane.val else s.lr.spareFor }
          if flying then s else s.beginCalibration st.lane
      | .takeover => s
      | .calibrating => s
      | .shadow => s
    | none => s
  -- assignments by LANE
  let s := if s.lr.freeNext then { s with lr.freeNext := false, lr.spareFor := 31#5, lr.assigned := false, lr.byAssign := false }
    else s
  match s.lr.assignNext with
  | none => s
  | some c =>
    let s := match s.lr.step with
      | some st =>
        if st.phase = StepPhase.shadow ∨ st.phase = StepPhase.returning then
          let s := s.modLane st.lane fun x => { x with out := false, fails := 0 }
          { s with lr.step := none }
        else s.abandonStep
      | none => s
    { s with lr.assignNext := none, lr.spareFor := BitVec.ofNat 5 c.val, lr.assigned := true,
             lr.byAssign := true }

/-! ## Calibrate-all (R239, R443) -/

/-- LANE_MAP.OUT (R225): a lane under a step counts as in service until the step fails. -/
def State.laneOut (s : State) : BitVec 22 :=
  allLanes.foldl (fun (m : BitVec 22) l => if (s.lane l).out then m ||| (1#22 <<< l.val) else m) 0#22

/-- LANE CALALL of an engine ends: g[d] receives LANE_MAP.OUT (R443). -/
def Engine.endCalAll (x : Engine) (out : BitVec 22) : Engine :=
  match x.wait with
  | some (.calAll d) => (x.setReg d (out.setWidth 64)).done
  | _ => x

/-- The calibrate-all ends once every lane still powered has finished (R239). -/
def State.checkCalAll (s : State) : State :=
  if s.lr.calAll ∧ allLanes.all (fun l => !(s.lane l).calibrating) then
    let out := s.laneOut
    (({ s with lr.calAll := false }).modEngine .s0 fun x => x.endCalAll out).modEngine .s1 fun x => x.endCalAll out
  else s

end Sys2Proof.Machine
end

