-- ==== Sys2Proof/Machine/Shot.lean ====
section
/-! DEFINITION. A shot from its arrival at the chord island to its result entry: drive, reception, stop edge, window
and capture (ch. 06 to 08, R286). -/
namespace Sys2Proof.Machine

/-! ## Result entries and the Sense result queues -/

/-- The port is held in PARK and the receiver blanked: damp-force, fence or over-temperature (R192, R220). -/
def State.shotBlocked (s : State) (c : Chord) : Bool := s.clk.damp || s.fenced (.chord c) || s.pwr.driveOt

/-- Word 0 of a result entry (Table 15-5). -/
def Shot.word0 (sh : Shot) (time : BitVec 40) : W64 :=
  place 64 0 time ||| place 64 40 (BitVec.ofNat 5 sh.cmd.chord.val) ||| placeB 64 45 sh.cmd.up |||
    placeB 64 46 sh.grid ||| placeB 64 47 sh.cmd.listen ||| place 64 48 (BitVec.ofNat 5 sh.lane.val) |||
    place 64 53 (BitVec.ofNat 2 sh.grade.code) ||| place 64 55 sh.range ||| place 64 58 sh.peak

/-- The entry of a shot with its time and its last two words (R431). -/
def Shot.entry (sh : Shot) (time : BitVec 40) (w2 w3 : W64) : Entry :=
  { chord := sh.cmd.chord, grid := sh.grid, toS1 := sh.cmd.fromS1, tc := sh.cmd.tc,
    w0 := sh.word0 time, w1 := sh.marks.setWidth 64, w2 := w2, w3 := w3 }

/-- Room in the Sense result queue of a chord's sheet (R48, R613). -/
def State.queueRoom (s : State) (south : Bool) : Nat :=
  if (if south then s.pt.stalled[1] else s.pt.stalled[0]) then 0
  else 64 - (if south then s.sv.queueS else s.sv.queueN).length

/-- Entries that the chord island still holds enter the queue as far as there is room (R48). -/
def State.sendUnsent (s : State) (c : Chord) : State :=
  let south := decide (10 ≤ c.val)
  let ch := s.chord c
  let room := s.queueRoom south
  let s := s.setChord c { ch with unsent := ch.unsent.drop room }
  if south then { s with sv.queueS := s.sv.queueS ++ ch.unsent.take room }
  else { s with sv.queueN := s.sv.queueN ++ ch.unsent.take room }

/-- A result entry leaves the chord for the queue of its sheet (R47, R48). -/
def State.pushEntry (s : State) (c : Chord) (en : Entry) : State :=
  (s.modChord c fun ch => { ch with unsent := ch.unsent ++ [en] }).sendUnsent c

/-- The PERTURB_STAT counts saturate at 63 (R615). -/
def satCount (n : BitVec 6) : BitVec 6 := if n = 63#6 then n else n + 1#6

/-- R614: the time of an entry under SYNTH_DT of value `v`. -/
def synthShift (v : BitVec 24) (up : Bool) (t : BitVec 40) : BitVec 40 :=
  let half := v.toInt / 2
  if up then t + BitVec.ofInt 40 (v.toInt - half) else t - BitVec.ofInt 40 half

/-- Form the entry of a shot that has a time, under SYNTH_DT (R614), and queue it. -/
def State.finishTimed (s : State) (c : Chord) (sh : Shot) (time : BitVec 40) (w2 : W64) (w3 : BitVec 40 → W64) : State :=
  let v := s.pt.synth[c]
  if v = 0#24 then s.pushEntry c (sh.entry time w2 (w3 time))
  else
    let t := synthShift v sh.cmd.up time
    let sh := { sh with marks := sh.marks ||| Mark.ptSynth }
    let s := { s with pt.synths := satCount s.pt.synths }
    (s.modChord c fun ch => { ch with perturbed := true }).pushEntry c (sh.entry t w2 (w3 t))

/-- Word 2 of a KIND 0 entry: the start stamp and tc[7:0] (Table 15-5). -/
def Shot.startWord (sh : Shot) : W64 := place 64 0 sh.ts ||| place 64 40 sh.trav

/-- Form the entry of a shot that has no time: not fired, cut short or without a stop (R431). -/
def State.finishUntimed (s : State) (c : Chord) (sh : Shot) : State :=
  s.pushEntry c (sh.entry 0#40 (if sh.fired ∧ !sh.grid then sh.startWord else 0#64) 0#64)

/-- The entry of a shot whose FIRE never reached a latched state: only its marks say anything (R431). -/
def ShotCmd.blank (cmd : ShotCmd) (grid : Bool) (marks : BitVec 38) (range : BitVec 3) (lane : Lane) (g : Grade) : Shot :=
  { cmd := cmd, grid := grid, cdiv := cmd.group.isSome, drive := 0#64, rx := 0#64, range := range, lane := lane,
    wOpen := 0#40, wClose := 0#40, corrcfg := 0#64, pred := 0#64, templates := [], marks := marks, grade := g,
    trav := 0#8, fired := false, ts := 0#40, edgeAt := 0#24, discharges := false, muted := false, winOpen := false,
    tripAt := none, counted := [], tp := none, tpRaw := none, shadowTs := none, shadowTp := none, relAt := none, cap := .none, capEnd := 0,
    res := none, peak := 0#6, cut := false }

/-! ## Acceptance (R27, R48, R167, R175, R180, R200, R216, R236, R242, R260, R276, R294) -/

/-- The detector of the shot has tripped (R209). -/
def Shot.tripped (sh : Shot) : Bool := sh.tripAt.isSome

/-- Lane periods of the slot in which a shot must lie (R294). -/
def State.slotPeriods (s : State) : Nat :=
  if s.tw.role = .solo then 400 * s.sv.travPeriod else 200 * s.sv.travPeriod

/-- Where a shot's window closes, in lane periods of the traverse time base (R167, R294). -/
def Shot.closeAt (sh : Shot) : Nat := sh.cmd.target + ceilPeriods sh.wClose

/-- Lane periods that correlation takes (R272). -/
def corrPeriods (tlen : Nat) : Nat := (1026 * tlen + 15) / 16 + 800

/-- Where the capture of a shot ends, as far as the chord island can tell (R213). -/
def Shot.captureEnds (sh : Shot) : Int :=
  if sh.cap = .done then sh.capEnd
  else (sh.cmd.target + sh.wOpen.toNat / 65536 +
    min (rxLen sh.rx * rxDiv sh.rx) ((sh.wClose.toNat - sh.wOpen.toNat) / 65536) : Nat)

/-- The captures of two shots need a half in common (R216). -/
def shareHalf (a b : Shot) : Bool :=
  decide (2048 < rxLen a.rx) || decide (2048 < rxLen b.rx) || a.cmd.up == b.cmd.up

/-- The capture of `sh` would start while the slice still reads a half that it needs (R216). -/
def captureClash (sh p : Shot) : Bool :=
  sh.grid && p.grid && shareHalf sh p &&
    decide (((sh.cmd.target + sh.wOpen.toNat / 65536 : Nat) : Int) < p.captureEnds + corrPeriods (ccTlen p.corrcfg))

/-- Everything that the chord island latches when it accepts a command (R186, R201, R241, R260). -/
def State.latchShot (s : State) (cmd : ShotCmd) : Shot :=
  let c := cmd.chord
  let ch := s.chord c
  { cmd.blank s.sv.grid 0#38 ch.range (s.assignedLane c) s.gradeNow with
    drive := ch.live.get (8 * s.sv.band.toNat),
    rx := ch.live.get (if cmd.up then offRXU else offRXD),
    wOpen := field (ch.live.get (if cmd.up then offWOU else offWOD)) 0 40,
    wClose := field (ch.live.get (if cmd.up then offWCU else offWCD)) 0 40,
    corrcfg := ch.live.get offCORRCFG,
    pred := ch.live.get (if cmd.up then offPREDU else offPREDD),
    templates := ch.live.filter fun kv => decide (0x800 ≤ kv.1) && decide (kv.1 < 0x1000) }

/-- The command is late: too close to its target, before the close of an earlier window of the chord, with a result
still held, or with its capture half still read (R27, R48, R167, R216). -/
def State.isLate (s : State) (sh : Shot) : Bool :=
  let ch := s.chord sh.cmd.chord
  let earlier := ch.cur.toList ++ ch.waiting
  decide (sh.cmd.target < s.sv.timeBase + 80) || !ch.unsent.isEmpty ||
    earlier.any (fun p => decide (sh.cmd.target < p.closeAt)) ||
    (ch.correlating ++ earlier).any (captureClash sh)

/-- The members of a group that latch a drive entry, with the entries (R180). DESIGN CHOICE (log 67): the chords of the
mask that are not OFF and not fenced, LATE ones included, each with the entry of the band in force; within one traverse
that is the entry that every member of the group latches (R186). -/
def State.groupEntries (s : State) (mask : BitVec 20) : List (Chord × W64) :=
  (allChords.filter fun c => mask.getLsbD c.val && (s.chord c).state != .off && !s.fenced (.chord c)).map
    fun c => (c, (s.chord c).live.get (8 * s.sv.band.toNat))

/-- A member of a group is marked CODE_FAULT (R180). -/
def codeFault (ms : List (Chord × W64)) (c : Chord) (w : W64) : Bool :=
  profileOk w &&
    match ms.find? fun m => profileOk m.2 && dpCodeEn m.2 with
    | none => true
    | some r =>
      !dpCodeEn w || dpHalf w != dpHalf r.2 || dpChips w != dpChips r.2 ||
        ms.any fun m => decide (m.1 < c) && profileOk m.2 && dpCodeEn m.2 && dpHalf m.2 == dpHalf r.2 &&
          dpChips m.2 == dpChips r.2 && dpCode m.2 == dpCode w

/-- The marks that keep a latched shot from being fired. -/
def State.refusalMarks (s : State) (sh : Shot) : BitVec 38 :=
  let c := sh.cmd.chord
  let ch := s.chord c
  markIf (!sh.cmd.listen && !profileOk sh.drive) Mark.profileBad |||
    markIf (match sh.cmd.group with
      | some m => codeFault (s.groupEntries m) c sh.drive
      | none => false) Mark.codeFault |||
    markIf (!sh.cmd.listen && ch.shorted) Mark.driveFault |||
    markIf (!rxOk sh.grid sh.rx || !rgOk (ch.live.get offRXG)) Mark.rxBad |||
    markIf (!(s.lane sh.lane).usable || (sh.lane == L20 && s.fenced .spare)) Mark.noLane |||
    markIf (!windowOk sh.wOpen sh.wClose) Mark.winBad |||
    markIf (sh.grid && !corrOk sh.corrcfg sh.drive sh.rx) Mark.corrBad |||
    markIf (sh.cdiv && !sh.grid && !predValid sh.pred) Mark.noPred |||
    markIf (decide (s.slotPeriods < sh.closeAt)) Mark.slotClash

/-- The chord island takes a shot command: it is late, refused with its marks, or accepted and latched (R27, R433). -/
def State.takeCommand (s : State) (cmd : ShotCmd) (vdrvOk : Bool) : State :=
  let c := cmd.chord
  let sh := s.latchShot cmd
  let limit := markIf (s.chord c).gainLimit Mark.gainLimit
  if cmd.marks ≠ 0#38 then s.finishUntimed c { sh with marks := cmd.marks ||| limit }
  else if (s.chord c).state = .off ∨ s.shotBlocked c then s.finishUntimed c { sh with marks := Mark.aborted ||| limit }
  else if s.isLate sh then s.finishUntimed c { sh with marks := Mark.late ||| limit }
  else if s.refusalMarks sh ≠ 0#38 then s.finishUntimed c { sh with marks := s.refusalMarks sh ||| limit }
  else
    let m := markIf (!cmd.listen && !vdrvOk) Mark.lowDrive ||| limit
    s.modChord c fun ch => { ch with waiting := ch.waiting ++ [{ sh with marks := m }] }

/-- The first command on its way to chord `c`, and those that remain. -/
def takeFirst (c : Chord) : List ShotCmd → Option (ShotCmd × List ShotCmd)
  | [] => none
  | x :: xs => if x.chord = c then some (x, xs) else (takeFirst c xs).map fun r => (r.1, x :: r.2)

/-- FIRE_COMMAND_ARRIVAL (R27): the oldest command on its way to chord `c` reaches its island. VDRV_OK is sampled
(R170). With no command on its way, or while the island's clock stands still (R28), nothing happens. -/
def execFireCommandArrival (c : Chord) (vdrvOk : Bool) (s : State) : Host.Outcome State Fault Refusal :=
  match (if s.clocksRun then takeFirst c s.sv.inTransit else none) with
  | none => .next s
  | some (cmd, rest) => .next ((({ s with sv.inTransit := rest, sv.vdrvOk := vdrvOk }).hop (chordHops c)).takeCommand cmd vdrvOk)

/-! ## Fire edge and drive phases (R166, R176, R182, R190, R191) -/

/-- The firing and the listening port of a chord for a direction: in a down shot XA fires (R166). -/
def ChordSt.setPorts (ch : ChordSt) (up : Bool) (firing listening : PortState) : ChordSt :=
  if up then { ch with portB := firing, portA := listening } else { ch with portA := firing, portB := listening }

def ChordSt.firingPort (ch : ChordSt) (up : Bool) : PortState := if up then ch.portB else ch.portA

def ChordSt.setFiring (ch : ChordSt) (up : Bool) (p : PortState) : ChordSt :=
  if up then { ch with portB := p } else { ch with portA := p }

def ChordSt.listeningPort (ch : ChordSt) (up : Bool) : PortState := if up then ch.portA else ch.portB

/-- The level of the current limit of a port that fires (Table 06-10). -/
inductive PortLimit where
  | full | shared
  deriving DecidableEq, Repr

/-- R188: SHARED in a code-division group, FULL for a shot fired alone. -/
def ShotCmd.limit (cmd : ShotCmd) : PortLimit := if cmd.group.isSome then .shared else .full

/-- R176: `t` lane periods into a run of cycles, the high side of the firing port is on; `inverted` says which cycles
have phase 180°. -/
def burstHigh (half : Nat) (inverted : Nat → Bool) (t : Nat) : Bool :=
  decide (t % (2 * half) < half) != inverted (t / (2 * half))

/-- Which switch of the firing port is on, `t` lane periods after the fire edge: `true` the high side, `false` the low
side, `none` where neither is (R176, R182, Table 06-1). -/
def Shot.highSide (sh : Shot) (p : PortState) (t : Nat) : Option Bool :=
  let half := max 1 (dpHalf sh.drive)
  match p with
  | .park => some false
  | .clamp => some false
  | .drive => some (burstHigh half (cycleInverted sh.drive) t)
  | .anti => some (burstHigh half (fun _ => antiInverted sh.drive) (t - 2 * half * burstPeriods sh.drive))
  | .released => none
  | .listen => none

/-- The high side is on at the end of the burst, or of the anti-phase cycles where there are any (R182): a cycle at 0°
ends with the low side on, one at 180° with the high side on. -/
def Shot.endsHigh (sh : Shot) : Bool :=
  if dpAnti sh.drive = 0 then cycleInverted sh.drive (burstPeriods sh.drive - 1) else antiInverted sh.drive

/-- What a port presents: `none` is the passive 10 kΩ to XG while PD6 is unpowered (R165). -/
def State.portShown (s : State) (p : PortState) : Option PortState := if s.powered 6 then some p else none

/-- The listening port of a chord can leave PARK: PD6 is powered, and it is not the port of a DRIVE_FAULT (R165, R190). -/
def State.portFree (s : State) (c : Chord) (portB : Bool) : Bool :=
  s.powered 6 && !((s.chord c).shorted && (s.chord c).faultB == portB)

/-! ### The boost (R169, R172, R173) -/

/-- The VDRV target in millivolts (R169): 5.00 V + 0.25 V × VDRV_SET, above 220 taken as 220. -/
def State.vdrvTarget (s : State) : Nat := 5000 + 250 * min 220 s.sv.vdrvSet.toNat

/-- The boost switches: BOOST_EN in force, PD6 powered, no over-temperature stop, and not stopped for quiet (R81, R169,
R172). -/
def State.boostRuns (s : State) : Bool := s.sv.boostEn && s.powered 6 && !s.pwr.driveOt && !s.sv.boostStopped

/-- DROP keeps the firing port of the shot in PARK (R612). -/
def State.dropped (s : State) (sh : Shot) : Bool :=
  let d := s.pt.drop[sh.cmd.chord]
  !sh.cmd.listen && d.dirs.getLsbD (if sh.cmd.up then 1 else 0) && d.left != some 0

/-- The fire edge of a shot (R165, R176, R178, R194, R195, R224, R612): the burst starts, the listening port listens, and
the lane, with a comparing lane in the shadow phase, takes the start edge. -/
def State.fireShot (s : State) (sh : Shot) (ed : Edge) : State :=
  let c := sh.cmd.chord
  let drop := s.dropped sh
  let drives := !sh.cmd.listen && !drop && s.powered 6
  let m := sh.marks ||| markIf drop Mark.ptDrop ||| markIf (drives && ed.lowCharge) Mark.openLoad
  let sh := { sh with marks := m, fired := true, muted := true, trav := s.sv.tc.setWidth 8, grade := s.gradeNow,
                      ts := (s.lane sh.lane).stamp 0#24 ed.tap, edgeAt := (s.lane sh.lane).coarse,
                      shadowTs := (s.shadowLane c).map fun l => (s.lane l).stamp 0#24 ed.shadowTap }
  let listens := s.portFree c (!sh.cmd.up)
  let s := if drop then { s with pt.drops := satCount s.pt.drops } else s
  s.modChord c fun ch =>
    { ch.setPorts sh.cmd.up (if drives then .drive else .park) (if listens then .listen else .park) with
      cur := some sh, lastRange := sh.range, perturbed := ch.perturbed || drop }

/-- Why a shot that comes to its fire edge is not fired: R192 cuts it, a boundary has turned its chord OFF (R165, R310:
ABORTED, DEDUCED, log 68), or its chord has a port of a DRIVE_FAULT (R190). -/
def State.edgeRefusal (s : State) (sh : Shot) : BitVec 38 :=
  let c := sh.cmd.chord
  markIf (s.shotBlocked c || (s.chord c).state == .off) Mark.aborted |||
    markIf (!sh.cmd.listen && (s.chord c).shorted) Mark.driveFault

/-- The shot joins the deferred queue, a group as one entry (R375). -/
def State.deferShot (s : State) (sh : Shot) : State :=
  let c := sh.cmd.chord
  let joins (d : Deferred) : Bool :=
    d.target == sh.cmd.target && !d.members.contains c &&
      match sh.cmd.group with
      | some m => d.members.all fun x => m.getLsbD x.val
      | none => false
  if s.aux.deferred.any joins then
    { s with aux.deferred := s.aux.deferred.map fun d => if joins d then { d with members := d.members ++ [c] } else d }
  else { s with aux.deferred := s.aux.deferred ++ [{ target := sh.cmd.target, members := [c] }] }

/-- The chord already has a shot in the deferred queue. -/
def State.hasDeferred (s : State) (c : Chord) : Bool := s.aux.deferred.any fun d => d.members.contains c

/-- FIRE_EDGE (R27): the coarse count of chord island `c` reaches the target of the next accepted shot. With BLANK
active, or its queue not empty, the shot is deferred (R375); under R190, R192 and R310 it yields its entry unfired
(R286). With no shot waiting, or one still in flight, nothing happens. -/
def execFireEdge (c : Chord) (tap shadowTap : Byte) (lowCharge : Bool) (s : State) : Host.Outcome State Fault Refusal :=
  let ch := s.chord c
  match ch.waiting with
  | [] => .next s
  | sh :: rest =>
    if s.edgeRefusal sh ≠ 0#38 then
      .next ((s.setChord c { ch with waiting := rest }).finishUntimed c { sh with marks := sh.marks ||| s.edgeRefusal sh })
    else if s.hasDeferred c ∨ ch.cur.isSome then .next s
    else if s.aux.blankEn ∧ (s.aux.blankActive ∨ !s.aux.deferred.isEmpty) then .next (s.deferShot sh)
    else .next ((s.setChord c { ch with waiting := rest }).fireShot sh ⟨tap, shadowTap, lowCharge⟩)

/-- MUTE_END (R195): 1.0 µs after the fire edge the mute of the shot ends. -/
def execMuteEnd (c : Chord) (s : State) : Host.Outcome State Fault Refusal :=
  .next (s.modChord c fun ch => { ch with cur := ch.cur.map fun sh => { sh with muted := false } })

/-- What a clamp release at coarse count `now` takes back of the detector's work in the 200 ns before it (R220): a trip
with every crossing counted since, crossings, and a stop edge. -/
def Shot.heldOff (sh : Shot) (now : BitVec 24) : Shot :=
  let old (t : BitVec 24) : Bool := decide (80 < (now - t).toNat)
  let kept : Bool := match sh.tpRaw with
    | some t => sh.grid || old (field t 16 24)
    | none => true
  let trip := sh.tripAt.filter old
  { sh with tripAt := trip, counted := if trip.isSome then sh.counted.filter old else [],
            tp := if kept && (trip.isSome || sh.grid) then sh.tp else none,
            tpRaw := if kept && (trip.isSome || sh.grid) then sh.tpRaw else none }

/-- The firing port enters RELEASED (R182). Inside the window that is a clamp release: the shot is marked
CLAMP_OVERLAP, and what the detector and the comparator did in the 200 ns before it is not taken (R183, R220). -/
def State.releasePort (s : State) (c : Chord) (sh : Shot) : State :=
  let now := (s.lane sh.lane).coarse
  let sh := if sh.winOpen then
      { sh.heldOff now with marks := sh.marks ||| Mark.clampOverlap, relAt := some now }
    else sh
  s.modChord c fun ch => { ch.setFiring sh.cmd.up .released with cur := some sh }

/-- From the end of the burst or of the anti-phase cycles: CLAMP, or RELEASED where CLAMP = 0, with the transducer
discharging through the 10 kΩ where the high side was on (R182). -/
def State.endDriven (s : State) (c : Chord) (sh : Shot) : State :=
  if dpClamp sh.drive = 0 then s.releasePort c { sh with discharges := sh.endsHigh }
  else s.modChord c fun ch => ch.setFiring sh.cmd.up .clamp

/-- BURST_END (R182): the last burst cycle ends and the firing port enters ANTI, CLAMP or RELEASED. -/
def execBurstEnd (c : Chord) (s : State) : Host.Outcome State Fault Refusal :=
  match (s.chord c).cur with
  | some sh =>
    if (s.chord c).firingPort sh.cmd.up = .drive then
      if dpAnti sh.drive = 0 then .next (s.endDriven c sh)
      else .next (s.modChord c fun ch => ch.setFiring sh.cmd.up .anti)
    else .next s
  | none => .next s

/-- ANTI_PHASE_END (R182): the anti-phase cycles end and the firing port enters CLAMP or RELEASED. -/
def execAntiPhaseEnd (c : Chord) (s : State) : Host.Outcome State Fault Refusal :=
  match (s.chord c).cur with
  | some sh => if (s.chord c).firingPort sh.cmd.up = .anti then .next (s.endDriven c sh) else .next s
  | none => .next s

/-- CLAMP_END (R182, R183): the clamp time expires and the firing port is released. -/
def execClampEnd (c : Chord) (s : State) : Host.Outcome State Fault Refusal :=
  match (s.chord c).cur with
  | some sh => if (s.chord c).firingPort sh.cmd.up = .clamp then .next (s.releasePort c sh) else .next s
  | none => .next s

/-- DRIVE_REACH_FAIL (R190): the burst, or its anti-phase cycles, stop, the port parks and stays parked, and the shot is
marked. -/
def execDriveReachFail (c : Chord) (s : State) : Host.Outcome State Fault Refusal :=
  match (s.chord c).cur with
  | some sh =>
    let p := (s.chord c).firingPort sh.cmd.up
    if p = .drive ∨ p = .anti then
      let s := s.modChord c fun ch =>
        { ch.setFiring sh.cmd.up .park with
          shorted := true, faultB := sh.cmd.up, cur := some { sh with marks := sh.marks ||| Mark.driveFault } }
      .next (({ s with sv.portFault := true }).event 4)
    else .next s
  | none => .next s

/-! ## Window, detector and stop edge (R209, R210, R219, R243, R244, R277) -/

/-- A stop window or a capture of the device is open (R172). -/
def State.windowOpenAnywhere (s : State) : Bool :=
  allChords.any fun c => ((s.chord c).cur.toList ++ (s.chord c).correlating).any fun sh => sh.winOpen || sh.cap == .open

/-- R172: the boost stops for quiet as a window opens, and resumes once none is open. -/
def State.boostQuietStart (s : State) : State :=
  if s.sv.boostQuiet && !s.windowOpenAnywhere then { s with sv.boostStopped := true } else s

def State.boostQuietEnd (s : State) : State :=
  if s.windowOpenAnywhere then s else { s with sv.boostStopped := false }

/-- BOOST_QUIET is written (R172): without it the boost does not stop; as it rises over an open window the stop
begins. -/
def State.reviewQuiet (s : State) (before : Bool) : State :=
  if !s.sv.boostQuiet then { s with sv.boostStopped := false }
  else if !before && s.windowOpenAnywhere then { s with sv.boostStopped := true }
  else s

/-- The word of the capture area that describes a shot's capture, and the first word of its samples (Table 07-6). -/
def capDesc (up : Bool) (len : Nat) : Nat := if up ∧ len ≤ 2048 then 0x401 else 0x400
def capBase (up : Bool) (len : Nat) : Nat := if up ∧ len ≤ 2048 then 0x200 else 0

/-- A capture descriptor (Table 07-8). -/
def capDescriptor (sh : Shot) (count : Nat) (done aborted : Bool) (seq : Byte) : W64 :=
  place 64 0 (BitVec.ofNat 13 count) ||| place 64 13 sh.range ||| place 64 16 sh.peak ||| placeB 64 22 sh.cmd.up |||
    placeB 64 23 done ||| place 64 24 seq ||| place 64 32 (BitVec.ofNat 8 (rxDiv sh.rx)) ||| place 64 40 sh.trav |||
    placeB 64 48 (anyMark sh.marks Mark.clipped) ||| placeB 64 49 (anyMark sh.marks Mark.clampOverlap) |||
    placeB 64 50 aborted

/-- The test offset that a lane adds to its stop stamps (R611). -/
def State.stopOffset (s : State) (l : Lane) : BitVec 40 := (s.pt.stopOffset[l]).signExtend 40

/-- A shot whose stop is stamped on a lane with a test offset: marked and counted (R611). -/
def State.noteOffset (s : State) (sh : Shot) : State × Shot :=
  if s.pt.stopOffset[sh.lane] = 0#24 then (s, sh)
  else ((({ s with pt.offset := satCount s.pt.offset }).modChord sh.cmd.chord fun ch => { ch with perturbed := true }),
    { sh with marks := sh.marks ||| Mark.ptOffset })

/-- The delay of the first sample-clock edge inside the window, in lane periods from the gate edge (R255, R256). The
divider runs freely, so an edge comes every N periods; `phase` says where it stands at the gate edge, and only its
remainder by N counts. An edge of the 2.5 ns before OPEN is not inside: the next one is N periods later. -/
def State.gridDelay (s : State) (sh : Shot) (phase : BitVec 24) (tap : Byte) : BitVec 24 :=
  let n := max 1 (rxDiv sh.rx)
  let d := BitVec.ofNat 24 (phase.toNat % n)
  let g := (s.lane sh.lane).stamp d tap + s.stopOffset sh.lane - sh.ts
  if g < sh.wOpen then d + BitVec.ofNat 24 n else d

/-- The grid stamp and the start of the capture (R255, R217): the first sample-clock edge inside the window. -/
def State.openCapture (s : State) (sh : Shot) (phase : BitVec 24) (tap shadowTap : Byte) : State :=
  let c := sh.cmd.chord
  let delay := s.gridDelay sh phase tap
  let raw := (s.lane sh.lane).stamp delay tap
  let tg := raw + s.stopOffset sh.lane
  let (s, sh) := s.noteOffset sh
  let g := tg - sh.ts
  if sh.wOpen ≤ g ∧ g < sh.wClose then
    let sh := { sh with tp := some tg, tpRaw := some raw, cap := .open,
                        shadowTp := (s.shadowLane c).map fun l => (s.lane l).stamp delay shadowTap }
    let a := capDesc sh.cmd.up (rxLen sh.rx)
    let seq := field ((s.chord c).cap.get a) 24 8 + 1#8
    s.modChord c fun ch => { ch with cur := some sh, cap := ch.cap.set a (capDescriptor sh 0 false false seq) }
  else s.modChord c fun ch => { ch with cur := some sh }

/-- STOP_WINDOW_OPEN (R244, R213): at the gate edge the lane and the detector arm; in grid timing the first
sample-clock edge inside the window starts the capture. `phase` is the phase of the free-running divider (R256). -/
def execStopWindowOpen (c : Chord) (phase : BitVec 24) (tap shadowTap : Byte) (s : State) :
    Host.Outcome State Fault Refusal :=
  match (s.chord c).cur with
  | some sh =>
    if sh.winOpen then .next s
    else
      let s := s.boostQuietStart
      let sh := { sh with winOpen := true }
      if sh.grid then .next (s.openCapture sh phase tap shadowTap)
      else .next (s.modChord c fun ch => { ch with cur := some sh })
  | none => .next s

/-- The channel of the shot is muted: its start, and no port of the chord in LISTEN (R194, R195). -/
def State.mutedNow (s : State) (c : Chord) (sh : Shot) : Bool :=
  sh.muted || (s.chord c).listeningPort sh.cmd.up != .listen || !s.powered 6

/-- The receive side of the shot is blanked at this moment (R194, R195, R220). -/
def State.blankedNow (s : State) (c : Chord) (sh : Shot) : Bool :=
  s.mutedNow c sh || s.shotBlocked c ||
    match sh.relAt with
    | some r => decide (((s.lane sh.lane).coarse - r).toNat < 400)
    | none => false

/-- One carrier period of the shot in ticks, T (R277). -/
def Shot.period (sh : Shot) : Nat := 2 * dpHalf sh.drive * 65536

/-- Under code-division firing with crossing timing the detector arms at the later of the gate edge and the last lane
clock edge at or before Ts + PRED − (ZC + 2) T (R209, R277). -/
def State.detectorArmed (s : State) (sh : Shot) : Bool :=
  let gone := ((s.lane sh.lane).coarse.setWidth 40 <<< 16) - sh.ts
  !sh.cdiv || sh.grid ||
    decide ((predTicks sh.pred : Int) - (rxZc sh.rx + 2) * sh.period < (gone.toNat : Int) + 65536)

/-- FIRST_WAVE_TRIP (R209): the detector trips inside the window, unless it is not yet armed or held off by blanking. -/
def execFirstWaveTrip (c : Chord) (s : State) : Host.Outcome State Fault Refusal :=
  match (s.chord c).cur with
  | some sh =>
    if sh.winOpen ∧ !sh.tripped ∧ s.detectorArmed sh ∧ !s.blankedNow c sh then
      .next (s.modChord c fun ch =>
        { ch with cur := some { sh with tripAt := some (s.lane sh.lane).coarse, counted := [],
                                        marks := sh.marks ||| markIf (decide (250 ≤ rxThresh sh.rx)) Mark.clipped } })
    else .next s
  | none => .next s

/-- The first and the last offset at which a stop edge is taken: the window, narrowed to the prediction span under
code-division firing with crossing timing (R243, R277). -/
def Shot.stopSpan (sh : Shot) : Nat × Nat :=
  if sh.cdiv then
    (max sh.wOpen.toNat (predTicks sh.pred - sh.period), min sh.wClose.toNat (predTicks sh.pred + sh.period))
  else (sh.wOpen.toNat, sh.wClose.toNat)

/-- A qualifying crossing becomes the stop edge, or is discarded as too early or too late (R243, R244, R277). -/
def State.stopEdge (s : State) (sh : Shot) (tap shadowTap : Byte) : State :=
  let c := sh.cmd.chord
  let raw := (s.lane sh.lane).stamp 0#24 tap
  let tp := raw + s.stopOffset sh.lane
  let d := (tp - sh.ts).toNat
  let (lo, hi) := sh.stopSpan
  if d < lo then
    s.modChord c fun ch =>
      { ch with cur := some { sh with marks := sh.marks ||| markIf (decide (d < sh.wOpen.toNat)) Mark.earlyEdge |||
                                        markIf (sh.cdiv && decide (d + sh.period < predTicks sh.pred)) Mark.spanShift } }
  else if hi ≤ d then s
  else
    let (s, sh) := s.noteOffset sh
    s.modChord c fun ch =>
      { ch with cur := some { sh with tp := some tp, tpRaw := some raw,
                                      shadowTp := (s.shadowLane c).map fun l => (s.lane l).stamp 0#24 shadowTap } }

/-- ZERO_CROSSING (R210): a crossing after the trip is counted; the first one of polarity POL after the ZC-th counted
crossing is the stop edge. In grid timing no stop edge is taken (R212). -/
def execZeroCrossing (c : Chord) (falling : Bool) (tap shadowTap : Byte) (s : State) :
    Host.Outcome State Fault Refusal :=
  match (s.chord c).cur with
  | some sh =>
    if sh.winOpen ∧ sh.tripped ∧ sh.tp.isNone ∧ !sh.grid ∧ !s.blankedNow c sh then
      if sh.counted.length < rxZc sh.rx then
        .next (s.modChord c fun ch =>
          { ch with cur := some { sh with counted := sh.counted ++ [(s.lane sh.lane).coarse] } })
      else if falling = rxFalling sh.rx then .next (s.stopEdge sh tap shadowTap)
      else .next s
    else .next s
  | none => .next s

/-- AMPLIFIER_CLIP (R219): full scale or the limiter inside the window marks the shot CLIPPED; nothing of a muted channel
reaches a result (R194). -/
def execAmplifierClip (c : Chord) (s : State) : Host.Outcome State Fault Refusal :=
  .next (s.modChord c fun ch =>
    { ch with cur := ch.cur.map fun (sh : Shot) =>
        if sh.winOpen && !s.mutedNow c sh then { sh with marks := sh.marks ||| Mark.clipped } else sh })

/-- BOOST_QUIET_LIMIT (R172): the stop ends after 2 ms; where switching resumes with it, shots with an open window are
marked RAIL_NOISE. -/
def execBoostQuietLimit (s : State) : Host.Outcome State Fault Refusal :=
  if s.sv.boostStopped then
    let s : State := { s with sv.boostStopped := false }
    let noise := s.boostRuns
    .next (s.mapChords fun _ ch =>
      { ch with cur := ch.cur.map fun (sh : Shot) =>
          if sh.winOpen && noise then { sh with marks := sh.marks ||| Mark.railNoise } else sh })
  else .next s

/-! ## Close of the window (R166, R205 to R207, R211, R246) -/

/-- P of the peak detector for a magnitude in microvolts (R207). -/
def peakOf (uv : Nat) : BitVec 6 := BitVec.ofNat 6 (min 63 (64 * uv / 1000000))

/-- R206: a CLIPPED shot of a chord with AGC lowers the range by one, within GMIN; otherwise GAIN_LIMIT. DEDUCED
(log 69): a shot already accepted keeps the range that it has latched (R201), so that the step acts from the next
accepted one. -/
def State.clipStep (s : State) (sh : Shot) : State × Shot :=
  let c := sh.cmd.chord
  let rg := (s.chord c).live.get offRXG
  if anyMark sh.marks Mark.clipped && rgAgcEn rg && !s.sv.agcHold then
    if rgMin rg < (s.chord c).range.toNat then
      (s.modChord c fun ch => { ch with range := ch.range - 1#3, clipStep := true }, sh)
    else (s, { sh with marks := sh.marks ||| Mark.gainLimit })
  else (s, sh)

/-- The marks of the receive chain and the lanes that keep a shot from counting for a comparison (R246). -/
def compareInvalid (grid : Bool) : BitVec 38 :=
  Mark.rxBad ||| Mark.noStop ||| Mark.clipped ||| Mark.clamped ||| Mark.noLane ||| Mark.winBad |||
    markIf (!grid) Mark.noArrival

/-- The difference that a shot gives the comparison of a rotation step, where it counts (R246). -/
def Shot.compareDiff (sh : Shot) : Option Int :=
  match sh.tpRaw, sh.shadowTs, sh.shadowTp with
  | some tp, some ts', some tp' =>
    let d := tp - sh.ts
    let d' := tp' - ts'
    if anyMark sh.marks (compareInvalid sh.grid) then none
    else if sh.wOpen ≤ d ∧ d < sh.wClose ∧ sh.wOpen ≤ d' ∧ d' < sh.wClose then some ((d'.toNat : Int) - d.toNat)
    else none
  | _, _, _ => none

/-- R246: the comparison of the step takes the shot, where it counts. -/
def State.laneComparison (s : State) (sh : Shot) : State :=
  match s.lr.step with
  | some st =>
    if st.phase = .shadow then
      match sh.compareDiff with
      | some d => s.compareStep d
      | none => s
    else s
  | none => s

/-- The entry of a crossing-timing shot at the close of its window (R431). -/
def State.closeCrossing (s : State) (sh : Shot) : State :=
  match sh.tp with
  | some tp =>
    s.finishTimed sh.cmd.chord sh (tp - sh.ts) sh.startWord (fun time => place 64 0 (sh.ts + time))
  | none => s.finishUntimed sh.cmd.chord sh

/-- The ARRIVAL field of a correlator result (Table 09-2). -/
def arrivalOf (w0 : W64) : BitVec 40 := field w0 0 40

/-- The entry of a grid-timing shot whose correlation has ended (R271, R431). -/
def State.finishGrid (s : State) (sh : Shot) (w0 w1 : W64) : State :=
  s.finishTimed sh.cmd.chord sh (arrivalOf w0) w0 (fun _ => w1)

/-- Both ports park and no shot is in flight (R166). A rotation step that waits for the shot to complete on its lane
begins its calibration (R246). -/
def State.parkChord (s : State) (c : Chord) : State :=
  (s.modChord c fun ch => { ch with portA := .park, portB := .park, cur := none }).takeoverDone c

/-- The peak of a shot that was fired and whose window has closed is settled (R205 to R207): the clip step, PEAK_DN or
PEAK_UP, and the larger of the traverse. A grid shot without a capture has no peak. -/
def State.settlePeak (s : State) (sh : Shot) : State × Shot :=
  let r := s.clipStep sh
  if r.2.grid ∧ r.2.tp.isNone then r
  else
    (r.1.modChord sh.cmd.chord fun ch =>
      { ch with peakDn := if sh.cmd.up then ch.peakDn else sh.peak,
                peakUp := if sh.cmd.up then sh.peak else ch.peakUp,
                travPeak := some (match ch.travPeak with
                  | some p => if p < sh.peak then sh.peak else p
                  | none => sh.peak) }, r.2)

/-- The marks that the close of its window gives a shot (R211, R212, R277). -/
def Shot.closeMarks (sh : Shot) : BitVec 38 :=
  markIf (!sh.tripped) Mark.noArrival ||| markIf (sh.tp.isNone && (sh.grid || sh.cdiv || sh.tripped)) Mark.noStop

/-- STOP_WINDOW_CLOSE (R166): both ports park, and the entry of the shot is formed with its marks: at once in crossing
timing, after the correlation in grid timing. `vmax` is the largest magnitude at the amplifier output in microvolts.
Where the capture still runs, its end settles the peak. -/
def execStopWindowClose (c : Chord) (vmax : Nat) (s : State) : Host.Outcome State Fault Refusal :=
  match (s.chord c).cur with
  | none => .next s
  | some sh =>
    if !sh.winOpen then .next s
    else
      let sh := { sh with winOpen := false, peak := if sh.grid then sh.peak else peakOf vmax,
                          marks := sh.marks ||| sh.closeMarks }
      let (s, sh) := if sh.cap = .open then (s, sh) else s.settlePeak sh
      let s := s.parkChord c
      if !sh.grid then .next ((s.boostQuietEnd.laneComparison sh).closeCrossing sh)
      else match sh.res with
        | some (w0, w1) => .next ((s.boostQuietEnd.laneComparison sh).finishGrid sh w0 w1)
        | none =>
          if sh.tp.isNone then .next ((s.boostQuietEnd.laneComparison sh).finishUntimed c sh)
          else
            let s := s.modChord c fun ch => { ch with correlating := ch.correlating ++ [sh] }
            .next (if sh.cap = .open then s else s.boostQuietEnd.laneComparison sh)

/-! ## Shots cut short (R136, R192, R286) -/

/-- An entry marked ABORTED, without a result, for every shot of a list (R286). -/
def State.abortShots (s : State) (c : Chord) : List Shot → State
  | [] => s
  | sh :: shs => (s.finishUntimed c { sh with marks := sh.marks ||| Mark.aborted, cut := true }).abortShots c shs

/-! ### Samples (R195, R214, R215, R217, R220) -/

/-- A stored sample (Table 07-7): a blanked sample holds zero; a code at either end, or one under the limiter, is
clipped. -/
def storeSample (blank : Bool) (code : BitVec 14) (limiter : Bool) : BitVec 16 :=
  if blank then 0x8000#16
  else place 16 0 code ||| placeB 16 14 (limiter || code == 0x2000#14 || code == 0x1FFF#14)

/-- The ADC code of a voltage at the amplifier output, in nanovolts (R214). -/
def adcCode (nv : Int) : BitVec 14 := BitVec.ofInt 14 (max (-8192) (min 8191 (roundDiv (8192 * nv) 1000000000)))

/-- Sample `j` of a shot's capture, in ticks from the fire edge (R256). -/
def Shot.sampleAt (sh : Shot) (j : Nat) : Nat :=
  (match sh.tpRaw with
    | some t => (t - sh.ts).toNat
    | none => 0) + j * rxDiv sh.rx * 65536

/-- Sample `j` falls in a blanked span: the mute of 1.0 µs, or 200 ns before to 1.0 µs after a clamp release (R195,
R220). -/
def Shot.sampleBlank (sh : Shot) (j : Nat) : Bool :=
  let t := sh.sampleAt j
  decide (t < 400 * 65536) ||
    match sh.relAt with
    | some r =>
      let rel := (r - sh.edgeAt).toNat * 65536
      decide (rel ≤ t + 80 * 65536) && decide (t ≤ rel + 400 * 65536)
    | none => false

/-- The most samples that a capture can hold `ticks` after its fire edge: LEN at most, and none at or after the close of
the window (R213). -/
def Shot.sampleLimit (sh : Shot) (ticks : Nat) : Nat :=
  ((List.range (rxLen sh.rx)).filter fun j =>
    decide (sh.sampleAt j < sh.wClose.toNat) && decide (sh.sampleAt j ≤ ticks)).length

/-- Samples packed four to a word (R215). -/
def packSamples : List (BitVec 16) → List W64
  | a :: b :: c :: d :: rest =>
    (place 64 0 a ||| place 64 16 b ||| place 64 32 c ||| place 64 48 d) :: packSamples rest
  | [] => []
  | rest => [(rest.zipIdx.foldl (fun w x => w ||| place 64 (16 * x.2) x.1) 0#64)]

/-- The capture area with words written from word `a` on. -/
def writeWords (m : WMap) (a : Nat) : List W64 → WMap
  | [] => m
  | w :: ws => writeWords (m.set a w) (a + 1) ws

/-- The signed code of a stored sample. -/
def sampleCode (w : BitVec 16) : Int := (field w 0 14).toInt

/-- Peak of a capture: P for the largest magnitude of its codes, full scale being 8192 (R207, R214). -/
def capPeak (xs : List (BitVec 16)) : BitVec 6 :=
  BitVec.ofNat 6 (min 63 (64 * (xs.foldl (fun m x => max m (sampleCode x).natAbs) 0) / 8192))

/-- The capture area of a shot takes its samples and, with DONE = 1, its descriptor (R215, R217). -/
def ChordSt.putCapture (ch : ChordSt) (sh : Shot) (xs : List (BitVec 16)) (aborted : Bool) : ChordSt :=
  let a := capDesc sh.cmd.up (rxLen sh.rx)
  let seq := field (ch.cap.get a) 24 8
  let cap := writeWords ch.cap (capBase sh.cmd.up (rxLen sh.rx)) (packSamples xs)
  { ch with cap := cap.set a (capDescriptor sh xs.length true aborted seq) }

/-- A capture that is cut short holds what the ADC has taken so far; no rule says more of those samples: free values. -/
def State.abortOne (s : State) (c : Chord) (sh : Shot) : State :=
  if sh.cap = .open then
    let gone := ((s.lane sh.lane).coarse.setWidth 40 <<< 16) - sh.ts
    let n := sh.sampleLimit gone.toNat
    let xs := (List.range n).map fun j => storeSample (sh.sampleBlank j) (field (s.free j) 0 14) ((s.free j).getLsbD 14)
    (s.modChord c fun ch => ch.putCapture { sh with peak := capPeak xs } xs true).usedFree n
  else s

/-- The descriptors of the captures that are cut short (Table 07-8). -/
def State.abortCapture (s : State) (c : Chord) : State :=
  ((s.chord c).correlating ++ (s.chord c).cur.toList).foldl (fun s sh => s.abortOne c sh) s

/-- R192, R272: the shot in flight and the shots being correlated yield no result; both ports park. DESIGN CHOICE (log
70): a CLIPPED shot that is cut short makes no clip step. -/
def State.cutShots (s : State) (c : Chord) : State :=
  let s := s.abortCapture c
  let ch := s.chord c
  let shs := ch.correlating ++ ch.cur.toList
  (((s.setChord c { ch with cur := none, correlating := [], portA := .park, portB := .park }).abortShots c
    shs).takeoverDone c).boostQuietEnd

/-- Every chord's shots are cut short. -/
def State.cutAllShots (s : State) : State := allChords.foldl (fun s c => s.cutShots c) s

/-! ## Temperature bands (R184) -/

/-- The lower edge of band `k` in 1/128 °C (Table 06-6), for k from 1. -/
def bandEdge (k : Nat) : Int := (-10 + 20 * ((k : Int) - 1)) * 128

/-- The band after a reading `t` in 1/128 °C: it changes only past a boundary by 2 °C (R184). -/
def nextBand : Nat → Nat → Int → Nat
  | 0, b, _ => b
  | f + 1, b, t =>
    if b < 7 ∧ bandEdge (b + 1) + 256 ≤ t then nextBand f (b + 1) t
    else if 0 < b ∧ t < bandEdge b - 256 then nextBand f (b - 1) t
    else b

/-- DIE_TEMPERATURE_SAMPLE (R184): the Sense die's sensor, in 1/128 °C, every 10 ms. -/
def execDieTemperatureSample (t : Int) (s : State) : Host.Outcome State Fault Refusal :=
  if s.powered 4 then
    .next { s with sv.sensorBand := BitVec.ofNat 3 (nextBand 8 s.sv.sensorBand.toNat t), sv.senseTemp := t }
  else .next s

/-! ## Deferred shots (R375) -/

/-- One member of the deferred queue's first entry fires now, marked DEFERRED, or is skipped. -/
def State.fireDeferred (s : State) (skip : Bool) (c : Chord) (ed : Edge) : State :=
  let ch := s.chord c
  match ch.waiting with
  | [] => s
  | sh :: rest =>
    let s := s.setChord c { ch with waiting := rest }
    if s.edgeRefusal sh ≠ 0#38 then s.finishUntimed c { sh with marks := sh.marks ||| s.edgeRefusal sh }
    else if skip then s.finishUntimed c { sh with marks := sh.marks ||| Mark.blankSkip }
    else s.fireShot { sh with marks := sh.marks ||| Mark.deferred, cmd.target := s.sv.timeBase } ed

/-- The entry's windows, measured from now, would close after the end of the slot (R294, R375). -/
def State.deferredTooLate (s : State) (d : Deferred) : Bool :=
  d.members.any fun c => match (s.chord c).waiting with
    | sh :: _ => decide (s.slotPeriods < s.sv.timeBase + ceilPeriods sh.wClose)
    | [] => false

/-- Fire the members of a deferred entry, each with its own edge. -/
def State.fireMembers (s : State) (skip : Bool) : List Chord → List Edge → State
  | [], _ => s
  | c :: cs, es => (s.fireDeferred skip c (es.headD ⟨0#8, 0#8, false⟩)).fireMembers skip cs es.tail

/-- DEFERRED_SHOT_FIRE (R375): the first entry of the deferred queue fires, or is skipped with BLANK_SKIP, once the
episode has ended. `edges` gives what the lanes of its members see, in the order in which they joined. -/
def execDeferredShotFire (edges : List Edge) (s : State) : Host.Outcome State Fault Refusal :=
  match s.aux.deferred with
  | [] => .next s
  | d :: rest =>
    if s.aux.blankActive then .next s
    else .next (({ s with aux.deferred := rest }).fireMembers (s.deferredTooLate d) d.members edges)

end Sys2Proof.Machine
end

