-- ==== Sys2Proof/Machine/AuxFront.lean ====
section
/-! DEFINITION. The auxiliary front end (ch. 13): conversions and their queues, the BLANK input, the input clamps and
the self-test. -/
namespace Sys2Proof.Machine

/-! ## Channel words (Tables 13-1, 13-2) -/

def isRtd (ch : Fin 6) : Bool := decide (ch.val < 4)
def rcWire3 (w : W64) : Bool := w.getLsbD 0
def rcIex (w : W64) : BitVec 2 := field w 1 2
def rcRep (w : W64) : Nat := (field w 11 3).toNat
/-- SETTLE of a channel word is not zero, so that a settle span has a length (R371). -/
def settles (ch : Fin 6) (w : W64) : Bool := if ch.val < 4 then field w 3 8 != 0#8 else field w 6 8 != 0#8
def pcExv (w : W64) : Bool := w.getLsbD 0
def pcPulsed (w : W64) : Bool := w.getLsbD 1
def pcGainCode (w : W64) : BitVec 2 := field w 2 2
/-- log2 of GAIN: 1, 8, 32 or 128 (Table 13-2). -/
def pcGainLog (w : W64) : Nat :=
  match (pcGainCode w).toNat with
  | 0 => 0
  | 1 => 3
  | 2 => 5
  | _ => 7

/-- The channel's word may be used (R359). -/
def auxWordOk (ch : Fin 6) (w : W64) : Bool := w.getLsbD 14 && (!isRtd ch || decide (rcRep w ≤ 4))

/-- The channel is enabled in AUX_CTRL (R359). -/
def Aux.enabled (x : Aux) (ch : Fin 6) : Bool :=
  if ch.val < 4 then x.rtdEn.getLsbD ch.val else x.pbEn.getLsbD (ch.val - 4)

/-- The island of a channel. -/
def Aux.isl (x : Aux) : AuxIsland → AuxIsl
  | .res => x.res
  | .pres => x.pres

def Aux.setIsl (x : Aux) (i : AuxIsland) (v : AuxIsl) : Aux :=
  match i with
  | .res => { x with res := v }
  | .pres => { x with pres := v }

def islandOf (ch : Fin 6) : AuxIsland := if isRtd ch then .res else .pres

/-- The marks of a conversion (Table 13-6). -/
def amUnsettled : BitVec 10 := 1#10 <<< 0
def amUnpaired : BitVec 10 := 1#10 <<< 1
def amClampHit : BitVec 10 := 1#10 <<< 2
def amOverRange : BitVec 10 := 1#10 <<< 3
def amOpenWire : BitVec 10 := 1#10 <<< 4
def amExFault : BitVec 10 := 1#10 <<< 5
def amNoLane : BitVec 10 := 1#10 <<< 6
def amDeferred : BitVec 10 := 1#10 <<< 9

/-- The gate of an island in CLK_GATE (Table 23-21). -/
def islandGate : AuxIsland → Nat
  | .res => 6
  | .pres => 7

/-- The island can work: PD4 powered, its gate open, its cluster's fence down (R141, R382). -/
def State.islandRuns (s : State) (i : AuxIsland) : Bool :=
  s.powered 4 && s.clk.gateOpen.getLsbD (islandGate i) && !s.fenced .aux

/-! ## Words and requests -/

/-- The change of a channel word is an excitation switch (R371): of IEX or WIRE; of EXV or GAIN; and of EX_MODE to
CONTINUOUS, which switches the excitation on. -/
def wordSwitches (ch : Fin 6) (old new : W64) : Bool :=
  if isRtd ch then rcIex old != rcIex new || rcWire3 old != rcWire3 new
  else pcExv old != pcExv new || pcGainCode old != pcGainCode new || (pcPulsed old && !pcPulsed new)

/-- An excitation switch of channel `ch` of an island: the settle span of the channel that the island serves starts anew
(R371); on another channel the next conversion is a switch itself. -/
def State.excitationSwitch (s : State) (ch : Fin 6) : State :=
  let i := islandOf ch
  let isl := s.aux.isl i
  if isl.lastCh = some ch ∧ settles ch s.aux.cfg[ch] then { s with aux := s.aux.setIsl i { isl with settling := some ch } }
  else s

/-- A write of a channel word: at once, or held to the end of a conversion of the channel (R359, R395). Bits [63:15] are
reserved (R15, Tables 13-1, 13-2). -/
def State.writeAuxWord (s : State) (ch : Fin 6) (w : W64) : State :=
  let i := islandOf ch
  let isl := s.aux.isl i
  let w := w &&& 0x7FFF#64
  let busy := match isl.cur with
    | some cv => decide (cv.req.ch = ch)
    | none => false
  if busy then { s with aux.cfgHeld := s.aux.cfgHeld.set ch (some w) }
  else
    let switches := wordSwitches ch s.aux.cfg[ch] w
    let s := { s with aux.cfg := s.aux.cfg.set ch w, aux.cfgHeld := s.aux.cfgHeld.set ch none }
    if switches then s.excitationSwitch ch else s

/-- What a channel word reads as: a held write at once (R395). -/
def State.readAuxWord (s : State) (ch : Fin 6) : W64 := (s.aux.cfgHeld[ch]).getD s.aux.cfg[ch]

/-- An AUX request (R359, R360, R440): `none` where it is refused, with QUEUE_FULL where that is the reason. -/
def State.auxRequest (s : State) (req : AuxReq) : State × Bool :=
  let i := islandOf req.ch
  let isl := s.aux.isl i
  if !s.powered 4 ∨ !s.aux.enabled req.ch ∨ !auxWordOk req.ch s.aux.cfg[req.ch] then (s, false)
  else if 4 ≤ isl.queue.length then ({ s with aux.queueFull := true }, false)
  else ({ s with aux := s.aux.setIsl i { isl with queue := isl.queue ++ [req] } }, true)

/-! ## Start of a conversion (R362, R371, R372, R376) -/

/-- The phases of a resistance conversion (Table 13-3): ZERO, then REF, ELEM and LEAD repeated 2^REP times. -/
def resistancePhases (w : W64) : List AuxPhase :=
  .zero :: (List.replicate (2 ^ rcRep w) (if rcWire3 w then [.ref, .elem, .lead] else [.ref, .elem])).flatten

/-- The start of the conversion is itself an excitation switch: every resistance conversion; a bridge whose channel
changes or that is pulsed (R371). -/
def Aux.startSwitches (x : Aux) (i : AuxIsland) (ch : Fin 6) : Bool :=
  match i with
  | .res => true
  | .pres => (x.isl .pres).lastCh != some ch || pcPulsed x.cfg[ch]

/-- The result of a conversion enters the channel's entry, and K0–K1 take it (R373). -/
def State.writeAuxEntry (s : State) (ch : Fin 6) (raw : W64) (pol : Bool) (marks : BitVec 10) : State :=
  let old := s.aux.entry[ch]
  let new : AuxEntry :=
    { raw := raw, value := old.value, tDone := s.rtc.elapsed, seq := old.seq + 1#8, pol := pol, marks := marks }
  ({ s with aux.entry := s.aux.entry.set ch new, fl.fs.fresh := s.fl.fs.fresh.set ch true } : State).takeAux ch

/-- NOTIFY: the issuer receives an event as by a SIG to itself (R440); a DOZE ends. -/
def State.notify (s : State) (e : Eng) : State := s.signal e

/-- A conversion has ended: NOTIFY, held words of the channel, the island free again (R359, R440). -/
def State.endConversion (s : State) (i : AuxIsland) (cv : AuxConv) : State :=
  let ch := cv.req.ch
  let isl := s.aux.isl i
  let s := { s with aux := s.aux.setIsl i { isl with cur := none, lastCh := some ch } }
  let s := match s.aux.cfgHeld[ch] with
    | some w => s.writeAuxWord ch w
    | none => s
  let s := s.beginAuxStep
  if cv.req.notify then s.notify (if cv.req.fromS1 then .s1 else .s0) else s

/-- The excitation that a bridge carries all the time is switched on: the channel is enabled, or a fence or HOLD has
ended (R371). -/
def State.excitationOn (s : State) (ch : Fin 6) : State :=
  if !isRtd ch ∧ s.aux.enabled ch ∧ !pcPulsed s.aux.cfg[ch] then s.excitationSwitch ch else s

/-- The excitation of the bridges returns. -/
def State.excitationReturns (s : State) : State := (s.excitationOn 4).excitationOn 5

/-- A new conversion with its phases. -/
def newConversion (s : State) (req : AuxReq) : AuxConv :=
  { req := req, phases := if isRtd req.ch then resistancePhases s.aux.cfg[req.ch] else [],
    zeroT := 0, refT := 0, elemT := 0, leadT := 0, marks := if req.deferred then amDeferred else 0#10 }

/-- AUX_CONVERSION_START (R371, R372): the first request of the island's queue starts. A NORMAL request first waits
for its settle span, which begins here and ends with SETTLE_SPAN_END; a FORCED request starts at once, UNSETTLED
where the span has not ended. Held during BLANK with AUX = 1 (R376) and, on L21's lane, during its step (R247);
with L21 out of service the result is NO_LANE and no conversion runs: its RAW and POL are free. -/
def execAuxConversionStart (i : AuxIsland) (s : State) : Host.Outcome State Fault Refusal :=
  let isl := s.aux.isl i
  match isl.queue with
  | [] => .next s
  | req :: rest =>
    if isl.cur.isSome ∨ !s.islandRuns i then .next s
    else if s.aux.blankEn ∧ s.aux.blankActive ∧ s.aux.blankAux then
      .next { s with aux := s.aux.setIsl i { isl with queue := { req with deferred := true } :: rest } }
    else if i = .res ∧ (s.lane L21).calibrating then .next s
    else if i = .res ∧ ((s.lane L21).out ∨ !(s.lane L21).valid) then
      let s := { s with aux := s.aux.setIsl i { isl with queue := rest } }
      .next (((s.writeAuxEntry req.ch (s.free 0) ((s.free 1).getLsbD 0) amNoLane).endConversion i
        (newConversion s req)).usedFree 2)
    else
      let begins := s.aux.startSwitches i req.ch && settles req.ch s.aux.cfg[req.ch]
      let cv := newConversion s req
      let late := begins || isl.settling.isSome
      let cv := if req.forced && late then { cv with marks := cv.marks ||| amUnsettled } else cv
      let isl' : AuxIsl :=
        { queue := rest, lastCh := some req.ch, settling := if begins then some req.ch else isl.settling, cur := some cv }
      .next { s with aux := s.aux.setIsl i isl' }

/-- SETTLE_SPAN_END (R371): the settle span that follows an excitation switch ends. -/
def execSettleSpanEnd (i : AuxIsland) (s : State) : Host.Outcome State Fault Refusal :=
  .next { s with aux := s.aux.setIsl i { s.aux.isl i with settling := none } }

/-! ## Resistance conversions (R361 to R366) -/

/-- The time of one phase is added to the sum of its kind. -/
def AuxConv.addTime (cv : AuxConv) (p : AuxPhase) (t : Nat) : AuxConv :=
  match p with
  | .zero => { cv with zeroT := cv.zeroT + t }
  | .ref => { cv with refT := cv.refT + t }
  | .elem => { cv with elemT := cv.elemT + t }
  | .lead => { cv with leadT := cv.leadT + t }

/-- AUX_PHASE_END (R361): L21 stamps the start of the discharge and the crossing; the interval is the phase's time.
A NORMAL conversion runs no phase before its settle span has ended. -/
def execAuxPhaseEnd (start stop : BitVec 40) (s : State) : Host.Outcome State Fault Refusal :=
  let isl := s.aux.res
  match isl.cur with
  | some cv =>
    if !s.islandRuns .res ∨ (isl.settling.isSome ∧ !cv.req.forced) then .next s
    else match cv.phases with
      | p :: ps =>
        .next { s with aux.res := { isl with cur := some { cv.addTime p (stop - start).toNat with phases := ps } } }
      | [] => .next s
  | none => .next s

/-- DISCHARGE_TIMEOUT (R366): no crossing within 150 µs; the phase ends there, with that time (DEDUCED, log 77), and the
conversion is OVER_RANGE. -/
def execDischargeTimeout (s : State) : Host.Outcome State Fault Refusal :=
  let isl := s.aux.res
  match isl.cur with
  | some cv =>
    if !s.islandRuns .res ∨ (isl.settling.isSome ∧ !cv.req.forced) then .next s
    else match cv.phases with
      | p :: ps =>
        let cv' := { cv.addTime p (150 * 400 * 65536) with phases := ps, marks := cv.marks ||| amOverRange }
        .next { s with aux.res := { isl with cur := some cv' } }
      | [] => .next s
  | none => .next s

/-- RATIO of R365 from the two conversions: the means of the averaged times, rounded to nearest with 40 fraction
bits. ZERO runs once, the other phases 2^REP times, so sums are weighted to one denominator. A ratio that the unsigned
value cannot hold has no stated form: `none`. -/
def ratioOf (wire3 : Bool) (rep : Nat) (z r e l : Nat) : Option W64 :=
  let z : Int := (z * 2 ^ rep : Nat)
  let num : Int := (e : Int) - (if wire3 then (l : Int) else z)
  let den : Int := (r : Int) - z
  if den = 0 then none
  else
    let q := roundDiv ((if den < 0 then -num else num) * 2 ^ 40) den.natAbs
    if q < 0 ∨ 2 ^ 64 ≤ q then none else some (BitVec.ofInt 64 q)

/-- The partner of a conversion qualifies (R365); ten seconds are 327,680 periods of X32. -/
def partnerOk (p : AuxPartner) (pol : Bool) (cfg : W64) (now : BitVec 48) : Bool :=
  p.pol != pol && p.cfg == cfg && decide ((now - p.tDone).toNat ≤ 327680) &&
    p.marks &&& (amUnsettled ||| amClampHit ||| amOverRange ||| amOpenWire) == 0#10

/-- RESISTANCE_CONVERSION_COMPLETE (R365): the ratio is formed with the partner and the entry is written.
`openWire` says that the excitation left its compliance, which replaces OVER_RANGE (R366). Without a qualifying
partner the result is UNPAIRED, and no RATIO is stated for it: a free value. -/
def execResistanceConversionComplete (openWire : Bool) (s : State) : Host.Outcome State Fault Refusal :=
  let isl := s.aux.res
  match isl.cur with
  | some cv =>
    if h : cv.req.ch.val < 4 then
      if cv.phases.isEmpty ∧ s.islandRuns .res then
        let k : Fin 4 := ⟨cv.req.ch.val, h⟩
        let w := s.aux.cfg[cv.req.ch]
        let pol := s.aux.pol[k]
        let m := if openWire then (cv.marks &&& ~~~amOverRange) ||| amOpenWire else cv.marks
        let mate := (s.aux.partner[k]).filter fun p => partnerOk p pol w s.rtc.elapsed
        let ratio := match mate with
          | some p => ratioOf (rcWire3 w) (rcRep w) (cv.zeroT + p.zeroT) (cv.refT + p.refT) (cv.elemT + p.elemT)
              (cv.leadT + p.leadT)
          | none => none
        let m := if mate.isSome then m else m ||| amUnpaired
        let raw := ratio.getD (s.free 0)
        let mine : AuxPartner := { zeroT := cv.zeroT, refT := cv.refT, elemT := cv.elemT, leadT := cv.leadT, pol := pol,
                                   cfg := w, tDone := s.rtc.elapsed, marks := m }
        let s := { s with aux.pol := s.aux.pol.set k (!pol), aux.partner := s.aux.partner.set k (some mine) }
        .next (((s.writeAuxEntry cv.req.ch raw pol m).endConversion .res cv).usedFree 1)
      else .next s
    else .next s
  | none => .next s

/-! ## Bridge conversions (R369) -/

/-- RATIO of a bridge code, code × 2⁻²³ / GAIN, with 40 fraction bits. -/
def bridgeRatio (w : W64) (code : BitVec 24) : W64 := BitVec.ofInt 64 (code.toInt * 2 ^ 17 / 2 ^ pcGainLog w)

/-- BRIDGE_CONVERSION_COMPLETE (R369): the filter output is ready and the entry of its channel is written. -/
def execBridgeConversionComplete (code : BitVec 24) (exFault : Bool) (s : State) : Host.Outcome State Fault Refusal :=
  match s.aux.pres.cur with
  | some cv =>
    if !s.islandRuns .pres ∨ (s.aux.pres.settling.isSome ∧ !cv.req.forced) then .next s
    else
      let overRange := code == 0x7FFFFF#24 || code == 0x800001#24
      let m := cv.marks ||| (if overRange then amOverRange else 0#10) ||| (if exFault then amExFault else 0#10)
      .next ((s.writeAuxEntry cv.req.ch (bridgeRatio s.aux.cfg[cv.req.ch] code) false m).endConversion .pres cv)
  | none => .next s

/-! ## Abandonment (R376, R381, R382) -/

/-- A conversion in progress is abandoned; its request goes back to the head of the queue, and a settle span begins
anew when it restarts. -/
def AuxIsl.abandon (x : AuxIsl) (deferred : Bool) : AuxIsl :=
  match x.cur with
  | some cv => { x with cur := none, settling := none, lastCh := none,
                        queue := { cv.req with deferred := cv.req.deferred || deferred } :: x.queue }
  | none => x

/-- Both islands abandon (R381, R382). -/
def State.abandonConversions (s : State) (deferred : Bool) : State :=
  ({ s with aux.res := s.aux.res.abandon deferred, aux.pres := s.aux.pres.abandon deferred } : State).beginAuxStep

/-- The gate of an island has opened: a conversion that it stopped is abandoned, and restarts (Table 13-8). -/
def State.gateOpened (s : State) (was : BitVec 14) (i : AuxIsland) : State :=
  if !was.getLsbD (islandGate i) && s.clk.gateOpen.getLsbD (islandGate i) then
    ({ s with aux := s.aux.setIsl i ((s.aux.isl i).abandon false) } : State).beginAuxStep
  else s

/-- NAP or SLUMBER entry: conversions abandoned and queues cleared (Table 13-8). -/
def State.auxSleep (s : State) : State :=
  let clear (x : AuxIsl) : AuxIsl := { x with cur := none, queue := [], settling := none, lastCh := none }
  { s with aux.res := clear s.aux.res, aux.pres := clear s.aux.pres }

/-! ## The BLANK input (R374 to R378) -/

/-- BLANK_ASSERT (R374): an accepted assertion begins an episode, unless BLANK is ignored (R377) or would begin the
65th episode of the count (R378). Conversions in progress are abandoned where AUX = 1 (R376). While VIO is low the ball
reads low (R67). -/
def execBlankAssert (s : State) : Host.Outcome State Fault Refusal :=
  if !s.aux.blankEn ∨ !s.powered 4 ∨ s.aux.blankLevel ∨ s.pwr.vioLow then .next s
  else
    let s := { s with aux.blankLevel := true }
    if s.aux.blankIgnored then .next s
    else if 64 ≤ s.aux.blankCount then
      if s.aux.chattered then .next s
      else .next (({ s with aux.chattered := true, aux.blankChatter := true }).eventOpen 9)
    else
      let s := { s with aux.blankActive := true, aux.blankCount := s.aux.blankCount + 1 }
      .next (if s.aux.blankAux then s.abandonConversions true else s)

/-- BLANK is deasserted: the episode ends, and BLANK counts again (R374, R377). -/
def State.blankEnds (s : State) : State :=
  { s with aux.blankLevel := false, aux.blankIgnored := false, aux.blankActive := false }

/-- BLANK_DEASSERT (R374): an accepted deassertion. -/
def execBlankDeassert (s : State) : Host.Outcome State Fault Refusal :=
  if s.aux.blankLevel then .next s.blankEnds else .next s

/-- BLANK_MAX_HOLD (R377): the episode ends, BLANK is ignored until its next deassertion, and BLANK_STUCK is set. -/
def execBlankMaxHold (s : State) : Host.Outcome State Fault Refusal :=
  if s.aux.blankActive then
    .next (({ s with aux.blankActive := false, aux.blankIgnored := true, aux.blankStuck := true }).eventOpen 8)
  else .next s

/-- The count of episodes restarts; an episode in progress counts as the first (R378). -/
def State.restartBlankCount (s : State) : State :=
  { s with aux.blankCount := if s.aux.blankActive then 1 else 0, aux.chattered := false }

/-- BLANK_COUNT_RESTART (R378): every second on X32 while SURVEY_CTRL.RUN = 0. -/
def execBlankCountRestart (s : State) : Host.Outcome State Fault Refusal :=
  if s.sv.run then .next s else .next s.restartBlankCount

/-! ## Clamps and self-test (R163, R380, R381) -/

/-- The over-voltage clamps are armed (R163), and stay so after a reset of the Sense die until the device next enters
LINE or VIGIL (R63, Table 02-8). -/
def State.clampsArmed (s : State) : Bool :=
  match s.sys.state with
  | .line => s.aux.clampHold || s.aux.clampReset
  | .vigil => s.aux.clampHold || s.aux.clampReset
  | _ => true

/-- A conversion in progress when the clamps are armed or disarmed is abandoned and restarted (R381). -/
def State.clampsMoved (s : State) (was : Bool) : State :=
  if s.clampsArmed != was then s.abandonConversions false else s

/-- Mark a conversion whose channel, or reference, is among those clamped (R380). -/
def AuxIsl.clampHit (x : AuxIsl) (p : Fin 6 → Bool) : AuxIsl :=
  match x.cur with
  | some cv => if p cv.req.ch then { x with cur := some { cv with marks := cv.marks ||| amClampHit } } else x
  | none => x

/-- The CLAMP_STAT bit of a clamp: the two ports of a chord share one (R380). -/
def clampBit (clamp : Fin 47) : Fin 27 :=
  if clamp.val < 7 then Fin.ofNat 27 clamp.val else ⟨7 + (clamp.val - 7) / 2, by omega⟩

/-- The clamp of a chord is that of its port B. -/
def clampPortB (clamp : Fin 47) : Bool := (clamp.val - 7) % 2 == 1

/-- CLAMP_CONDUCT (R380): an armed clamp conducts. Its CLAMP_STAT bit is set, a new bit sets EVENT_FLAGS.CLAMP, and
the conversion that it touches is marked, or the shot whose listening port it is (R196). -/
def execClampConduct (clamp : Fin 47) (s : State) : Host.Outcome State Fault Refusal :=
  let k := clampBit clamp
  if !s.clampsArmed ∨ !s.powered 4 ∨ (17 ≤ k.val ∧ !s.powered 5) then .next s
  else
    let new := !s.aux.clamp.getLsbD k.val
    let s := { s with aux.clamp := s.aux.clamp ||| (1#27 <<< k.val) }
    let s := if new then s.event 7 else s
    if k.val < 4 then .next { s with aux.res := s.aux.res.clampHit fun ch => ch.val == k.val }
    else if k.val = 4 then .next { s with aux.res := s.aux.res.clampHit fun _ => true }
    else if k.val < 7 then .next { s with aux.pres := s.aux.pres.clampHit fun ch => ch.val + 1 == k.val }
    else
      .next (s.modChord ⟨k.val - 7, by omega⟩ fun ch =>
        { ch with cur := ch.cur.map fun (sh : Shot) =>
            if sh.winOpen && sh.cmd.up != clampPortB clamp then { sh with marks := sh.marks ||| Mark.clamped } else sh })

/-- SELF_TEST is written with 1 (R381): ignored outside SERVICE. The clamps are armed in SERVICE already, so no conversion
meets a change of arming. -/
def State.startSelfTest (s : State) : State :=
  if s.sys.state = .service then { s with aux.selfTest := true } else s

/-- SELF_TEST_START (R381). -/
def execSelfTestStart (q : Requester) (s : State) : Host.Outcome State Fault Refusal :=
  .next (s.byWrite q 30 State.startSelfTest)

/-- SELF_TEST_COMPLETE (R381): ST_FAIL holds one bit per enabled channel that failed, and SELF_TEST returns to 0. -/
def execSelfTestComplete (fail : BitVec 6) (s : State) : Host.Outcome State Fault Refusal :=
  if s.aux.selfTest then
    .next { s with aux.selfTest := false, aux.stFail := fail &&& (s.aux.pbEn ++ s.aux.rtdEn) }
  else .next s

end Sys2Proof.Machine
end

