-- ==== Sys2Proof/Machine/Sha.lean ====
section
/-! DEFINITION. SHA-512 and the RSASSA-PSS signatures of R481, as the standards that the spec names define them. -/
namespace Sys2Proof.Machine

/-! ## SHA-512 (R452, R471, R481; PRESUMED: the algorithm is the named standard's) -/

def shaK0 : List W64 :=
  [0x428A2F98D728AE22#64, 0x7137449123EF65CD#64, 0xB5C0FBCFEC4D3B2F#64, 0xE9B5DBA58189DBBC#64,
   0x3956C25BF348B538#64, 0x59F111F1B605D019#64, 0x923F82A4AF194F9B#64, 0xAB1C5ED5DA6D8118#64,
   0xD807AA98A3030242#64, 0x12835B0145706FBE#64, 0x243185BE4EE4B28C#64, 0x550C7DC3D5FFB4E2#64,
   0x72BE5D74F27B896F#64, 0x80DEB1FE3B1696B1#64, 0x9BDC06A725C71235#64, 0xC19BF174CF692694#64,
   0xE49B69C19EF14AD2#64, 0xEFBE4786384F25E3#64, 0x0FC19DC68B8CD5B5#64, 0x240CA1CC77AC9C65#64]

def shaK1 : List W64 :=
  [0x2DE92C6F592B0275#64, 0x4A7484AA6EA6E483#64, 0x5CB0A9DCBD41FBD4#64, 0x76F988DA831153B5#64,
   0x983E5152EE66DFAB#64, 0xA831C66D2DB43210#64, 0xB00327C898FB213F#64, 0xBF597FC7BEEF0EE4#64,
   0xC6E00BF33DA88FC2#64, 0xD5A79147930AA725#64, 0x06CA6351E003826F#64, 0x142929670A0E6E70#64,
   0x27B70A8546D22FFC#64, 0x2E1B21385C26C926#64, 0x4D2C6DFC5AC42AED#64, 0x53380D139D95B3DF#64,
   0x650A73548BAF63DE#64, 0x766A0ABB3C77B2A8#64, 0x81C2C92E47EDAEE6#64, 0x92722C851482353B#64]

def shaK2 : List W64 :=
  [0xA2BFE8A14CF10364#64, 0xA81A664BBC423001#64, 0xC24B8B70D0F89791#64, 0xC76C51A30654BE30#64,
   0xD192E819D6EF5218#64, 0xD69906245565A910#64, 0xF40E35855771202A#64, 0x106AA07032BBD1B8#64,
   0x19A4C116B8D2D0C8#64, 0x1E376C085141AB53#64, 0x2748774CDF8EEB99#64, 0x34B0BCB5E19B48A8#64,
   0x391C0CB3C5C95A63#64, 0x4ED8AA4AE3418ACB#64, 0x5B9CCA4F7763E373#64, 0x682E6FF3D6B2B8A3#64,
   0x748F82EE5DEFB2FC#64, 0x78A5636F43172F60#64, 0x84C87814A1F0AB72#64, 0x8CC702081A6439EC#64]

def shaK3 : List W64 :=
  [0x90BEFFFA23631E28#64, 0xA4506CEBDE82BDE9#64, 0xBEF9A3F7B2C67915#64, 0xC67178F2E372532B#64,
   0xCA273ECEEA26619C#64, 0xD186B8C721C0C207#64, 0xEADA7DD6CDE0EB1E#64, 0xF57D4F7FEE6ED178#64,
   0x06F067AA72176FBA#64, 0x0A637DC5A2C898A6#64, 0x113F9804BEF90DAE#64, 0x1B710B35131C471B#64,
   0x28DB77F523047D84#64, 0x32CAAB7B40C72493#64, 0x3C9EBE0A15C9BEBC#64, 0x431D67C49C100D4C#64,
   0x4CC5D4BECB3E42B6#64, 0x597F299CFC657E2A#64, 0x5FCB6FAB3AD6FAEC#64, 0x6C44198C4A475817#64]

def shaK : List W64 := shaK0 ++ shaK1 ++ shaK2 ++ shaK3

def shaInit : List W64 :=
  [0x6A09E667F3BCC908#64, 0xBB67AE8584CAA73B#64, 0x3C6EF372FE94F82B#64, 0xA54FF53A5F1D36F1#64,
   0x510E527FADE682D1#64, 0x9B05688C2B3E6C1F#64, 0x1F83D9ABFB41BD6B#64, 0x5BE0CD19137E2179#64]

def rotr (x : W64) (n : Nat) : W64 := (x >>> n) ||| (x <<< (64 - n))

def sigma0 (x : W64) : W64 := rotr x 1 ^^^ rotr x 8 ^^^ (x >>> 7)
def sigma1 (x : W64) : W64 := rotr x 19 ^^^ rotr x 61 ^^^ (x >>> 6)
def bigSigma0 (x : W64) : W64 := rotr x 28 ^^^ rotr x 34 ^^^ rotr x 39
def bigSigma1 (x : W64) : W64 := rotr x 14 ^^^ rotr x 18 ^^^ rotr x 41

/-- The eight working words. -/
structure ShaWords where
  a : W64
  b : W64
  c : W64
  d : W64
  e : W64
  f : W64
  g : W64
  h : W64
  deriving DecidableEq, Repr

/-- One round with constant `k` and schedule word `w`. -/
def ShaWords.round (x : ShaWords) (k w : W64) : ShaWords :=
  let t1 := x.h + bigSigma1 x.e + ((x.e &&& x.f) ^^^ (~~~x.e &&& x.g)) + k + w
  let t2 := bigSigma0 x.a + ((x.a &&& x.b) ^^^ (x.a &&& x.c) ^^^ (x.b &&& x.c))
  { a := t1 + t2, b := x.a, c := x.b, d := x.c, e := x.d + t1, f := x.e, g := x.f, h := x.g }

/-- The rounds over the constants that are left, with a sliding window of sixteen schedule words. -/
def shaRounds : List W64 → List W64 → ShaWords → ShaWords
  | k :: ks, w :: ws, x =>
    let next := w + sigma0 (ws.getD 0 0#64) + ws.getD 8 0#64 + sigma1 (ws.getD 13 0#64)
    shaRounds ks (ws ++ [next]) (x.round k w)
  | _, _, x => x

def ShaWords.add (x y : ShaWords) : ShaWords :=
  { a := x.a + y.a, b := x.b + y.b, c := x.c + y.c, d := x.d + y.d, e := x.e + y.e, f := x.f + y.f, g := x.g + y.g,
    h := x.h + y.h }

/-- The sixteen words of a block of 128 bytes. -/
def blockWords (bs : List Byte) : List W64 :=
  (List.range 16).map fun i => BitVec.ofNat 64 (beNat ((bs.drop (8 * i)).take 8))

/-- `n` blocks of a padded message. -/
def shaBlocks : Nat → List Byte → ShaWords → ShaWords
  | 0, _, x => x
  | n + 1, bs, x => shaBlocks n (bs.drop 128) (x.add (shaRounds shaK (blockWords bs) x))

def shaStart : ShaWords :=
  let i (k : Nat) : W64 := shaInit.getD k 0#64
  ⟨i 0, i 1, i 2, i 3, i 4, i 5, i 6, i 7⟩

/-- The padded message: a bit of 1, zeros, and the length in bits in 16 bytes. -/
def shaPad (m : List Byte) : List Byte :=
  m ++ [0x80#8] ++ List.replicate ((239 - m.length % 128) % 128) 0#8 ++ beBytes 16 (8 * m.length)

/-- The SHA-512 digest, 64 bytes. -/
def sha512 (m : List Byte) : List Byte :=
  let p := shaPad m
  let x := shaBlocks (p.length / 128) p shaStart
  ([x.a, x.b, x.c, x.d, x.e, x.f, x.g, x.h].map fun w => beBytes 8 w.toNat).flatten

/-! ## RSASSA-PSS (R481) -/

/-- b^e mod n by squaring, over the `k` lowest bits of the exponent, the highest of them first. -/
def powModBits (b e n : Nat) : Nat → Nat → Nat
  | 0, acc => acc
  | k + 1, acc =>
    let sq := acc * acc % n
    powModBits b e n k (if e.testBit k then sq * b % n else sq)

/-- b^e mod n for exponents of at most 4096 bits. -/
def powMod (b e n : Nat) : Nat := if n = 0 then 0 else powModBits (b % n) e n 4096 (1 % n)

/-- MGF1 with SHA-512: `k` blocks of mask from a seed. -/
def mgf1 (seed : List Byte) (k : Nat) : List Byte :=
  ((List.range k).map fun i => sha512 (seed ++ beBytes 4 i)).flatten

def xorBytes (a b : List Byte) : List Byte := List.zipWith (fun x y => x ^^^ y) a b

/-- The encoded message verifies against the digest: trailer 0xBC, a salt of 64 bytes, 4095 significant bits. -/
def pssOk (em digest : List Byte) : Bool :=
  let masked := em.take 447
  let h := (em.drop 447).take 64
  let db := xorBytes masked (mgf1 h 7)
  let top : Byte := db.headD 0#8 &&& 0x7F#8
  let db := top :: db.drop 1
  em.length == 512 && em.getD 511 0#8 == 0xBC#8 && decide ((em.headD 0#8).toNat < 128) &&
    db.take 382 == List.replicate 382 0#8 && db.getD 382 0#8 == 0x01#8 &&
    h == sha512 (List.replicate 8 0#8 ++ digest ++ db.drop 383)

/-- A signature over a message digest verifies under a 4096-bit modulus with e = 65537 (R481). -/
def pssVerify (modulus : Nat) (digest sig : List Byte) : Bool :=
  let s := beNat sig
  sig.length == 512 && decide (s < modulus) && pssOk (beBytes 512 (powMod s 65537 modulus)) digest

/-- The fingerprint of a public key: the first 16 bytes of the digest of its modulus (R481). -/
def fingerprint (modulus : Nat) : List Byte := (sha512 (beBytes 512 modulus)).take 16

end Sys2Proof.Machine
end

