-- ==== Sys2Proof/Machine/Cert.lean ====
section
/-! DEFINITION. Identity certificates (R4, R480, R591): an X.509 v3 certificate in DER, its signature by the certificate
authority of the part's own variant, and the public modulus that it certifies. -/
namespace Sys2Proof.Machine

/-- One DER element: its tag, its contents, its whole encoding, and what follows it. -/
structure Der where
  tag : Byte
  body : List Byte
  raw : List Byte
  rest : List Byte
  deriving DecidableEq, Repr

/-- Octets of the length field, and the length; at most two octets follow the first, as in 2048 bytes they may. -/
def derLength : List Byte → Option (Nat × Nat)
  | [] => none
  | b :: bs =>
    if b.toNat < 128 then some (1, b.toNat)
    else if b = 0x81#8 ∧ 1 ≤ bs.length then some (2, beNat (bs.take 1))
    else if b = 0x82#8 ∧ 2 ≤ bs.length then some (3, beNat (bs.take 2))
    else none

/-- The first DER element of a list of bytes. -/
def derTake : List Byte → Option Der
  | [] => none
  | t :: bs => (derLength bs).bind fun (k, n) =>
    if bs.length < k + n then none
    else some { tag := t, body := (bs.drop k).take n, raw := t :: bs.take (k + n), rest := bs.drop (k + n) }

/-- The elements of a body, at most `n` of them. -/
def derList : Nat → List Byte → List Der
  | 0, _ => []
  | n + 1, bs => match derTake bs with
    | some d => d :: derList n d.rest
    | none => []

/-- A SEQUENCE. -/
def derSeq (d : Der) : Option (List Der) := if d.tag = 0x30#8 then some (derList 16 d.body) else none

/-- The contents of a BIT STRING without unused bits. -/
def derBits (d : Der) : Option (List Byte) := if d.tag = 0x03#8 ∧ d.body.head? = some 0#8 then some (d.body.drop 1) else none

/-- The signed part of a certificate and its signature. -/
def certParts (cert : List Byte) : Option (Der × List Byte) :=
  (derTake cert).bind fun c => (derSeq c).bind fun
    | [tbs, _, sig] => if c.rest.isEmpty then (derBits sig).map fun s => (tbs, s) else none
    | _ => none

/-- The RSA modulus of a SubjectPublicKeyInfo. -/
def spkiModulus (spki : Der) : Option Nat :=
  (derSeq spki).bind fun
    | [_, key] => (derBits key).bind fun bs => (derTake bs).bind fun k => (derSeq k).bind fun
      | n :: _ => if n.tag = 0x02#8 then some (beNat n.body) else none
      | _ => none
    | _ => none

/-- The modulus that the signed part certifies: behind the version, the key information is the sixth element. -/
def tbsModulus (tbs : Der) : Option Nat :=
  (derSeq tbs).bind fun l =>
    let l := match l with
      | v :: vs => if v.tag = 0xA0#8 then vs else v :: vs
      | [] => []
    (l[5]?).bind spkiModulus

/-- The key that a certificate certifies, where the authority of modulus `ca` has signed it under R481. -/
def certKey (ca : Nat) (cert : List Byte) : Option Nat :=
  (certParts cert).bind fun (tbs, sig) => if pssVerify ca (sha512 tbs.raw) sig then tbsModulus tbs else none

/-- DEV_REV.SAMPLE: an engineering sample, whose certificate is the Breino test authority's (Table 00-1, Table 23-3). -/
def engineeringSample : Bool := Config.devRev.getLsbD 16

/-- The public key of the authority that issued the part's own certificate (R591). -/
def ownAuthority : Nat := if engineeringSample then Config.testCa else Config.productionCa

/-- The peer's key, where its certificate verifies against the authority of the part's own (R4, R591). -/
def peerCertKey (cert : List Byte) : Option Nat := if 2048 < cert.length then none else certKey ownAuthority cert

end Sys2Proof.Machine
end

