-- ==== Sys2Proof/Machine/Rail.lean ====
section
/-! DEFINITION. The regulator and the island rail: clock limits by VSET, changes of VSET and REG_MODE, and the raise for a
signature (R88 to R90, R505); which operation holds the crypto engine (R452, R591). -/
namespace Sys2Proof.Machine

/-! ## Clock limits (R90, R119, R120, Table 03-2) -/

/-- The highest Reckoner and Surveyor clock at a VSET, in MHz. -/
def clockLimit (vset : BitVec 5) : Nat × Nat :=
  if vset.toNat < 2 then (100, 100) else if vset.toNat < 4 then (200, 200) else (250, 200)

/-- The engine clocks keep their limits: on RING always, on the PLL by their dividers of 2.000 GHz. -/
def clocksOk (pll : Bool) (kdiv sdiv : BitVec 7) (vset : BitVec 5) : Bool :=
  !pll || (decide (2000 ≤ (clockLimit vset).1 * kdiv.toNat) && decide (2000 ≤ (clockLimit vset).2 * sdiv.toNat))

/-! ## The crypto engine (R452, R591) -/

/-- A crypto operation is in progress: an operation of CRYPT, the verification of an update, or the signature of a
pairing, which runs in the crypto engine too (R591; counted for Table 03-12: DEDUCED, log 65). -/
def State.cryptoRuns (s : State) : Bool :=
  s.cr.job.isSome || s.upd.job == some UpdJob.verify || (s.tw.pairing.any fun (p : Pairing) => p.signing)

/-- The crypto engine is free for an operation of CRYPT: one asynchronous operation at a time, VERIFY of the update
controller among them; during a pairing an operation finds it busy (R452, R591). -/
def State.cryptFree (s : State) : Bool :=
  s.cr.job.isNone && s.upd.job != some UpdJob.verify && s.tw.pairing.isNone

/-! ## VSET and REG_MODE (R88 to R90, R102, R505) -/

/-- A capture or a correlation runs somewhere. -/
def State.gridActive (s : State) : Bool :=
  allChords.any fun c =>
    let ch := s.chord c
    !ch.correlating.isEmpty || (ch.cur.any fun (sh : Shot) => sh.cap == CapPhase.open)

/-- Every running clock, and every block in use, is permitted at a VSET (Table 03-2). -/
def State.voltageOk (s : State) (v : BitVec 5) : Bool :=
  decide (v.toNat ≤ 18) && clocksOk (s.clk.engPll || s.clk.engUse) s.clk.kdiv s.clk.sdiv v &&
    (decide (2 ≤ v.toNat) || !(s.cryptoRuns || s.gridActive)) &&
    (decide (6 ≤ v.toNat) || s.upd.job != some UpdJob.block)

/-- VSET takes a value, or is refused (R89, R90). -/
def State.setVset (s : State) (v : BitVec 5) : State :=
  if v = s.pwr.vset then s
  else if s.voltageOk v then { s with pwr.vset := v, pwr.settled := false }
  else { s with pwr.voltRefused := true }

/-- REG_MODE takes a value; a change unsettles the rail until it is complete (R88). -/
def State.setRegMode (s : State) (hp : Bool) : State :=
  if hp = s.pwr.regHP then s else { s with pwr.regHP := hp, pwr.settled := false }

/-- VSET of at least `v` steps with the regulator in HP (R90, R494, R495). -/
def State.railOk (s : State) (v : Nat) : Bool := s.pwr.regHP && decide (v ≤ s.pwr.vset.toNat)

/-- QSIGN, or the signature of a pairing, holds the regulator raised (R505, R591). -/
def State.regulatorHeld (s : State) : Bool :=
  (s.cr.job.any fun (j : CryptJob) => j.raised.isSome) || (s.tw.pairing.any fun (p : Pairing) => p.raised.isSome)

/-- A raised regulator is to return to another mode. -/
def State.returnTo (s : State) (hp : Bool) : State :=
  { s with
    cr.job := s.cr.job.map fun (j : CryptJob) => { j with raised := j.raised.map fun r => (hp, r.2) },
    tw.pairing := s.tw.pairing.map fun (p : Pairing) => { p with raised := p.raised.map fun r => (hp, r.2) } }

/-- The regulator is raised for a signature where it starts below HP and 1.00 V (R505). -/
def State.raiseRail (s : State) : State × Option (Bool × BitVec 5) :=
  if s.railOk 2 then (s, none)
  else
    let v : BitVec 5 := if s.pwr.vset.toNat < 2 then 2#5 else s.pwr.vset
    ({ s with pwr.regHP := true, pwr.vset := v, pwr.settled := false }, some (s.pwr.regHP, s.pwr.vset))

/-- The regulator returns to what the signature found: a VSET that R90 would refuse stays, with REFUSED set (R505). -/
def State.lowerRail (s : State) (o : Option (Bool × BitVec 5)) : State :=
  match o with
  | some (hp, v) => (s.setRegMode hp).setVset v
  | none => s

/-! ## The signature of a pairing (R591) -/

/-- The signature of a pairing begins once the peer's HELLO and its certificate stand and no other operation holds the
crypto engine (R591). -/
def State.pairSign (s : State) : State :=
  match s.tw.pairing with
  | some p =>
    if p.peerHello.isSome ∧ p.peerKey.isSome ∧ !p.proofSent ∧ !p.signing ∧ !s.cryptoRuns then
      let r := s.raiseRail
      { r.1 with tw.pairing := some { p with signing := true, raised := r.2 } }
    else s
  | none => s

/-- Pairing is over; a signature in progress ends, and the regulator returns. -/
def State.endPairing (s : State) : State :=
  match s.tw.pairing with
  | some p => ({ s with tw.pairing := none }).lowerRail p.raised
  | none => s

end Sys2Proof.Machine
end

