-- ==== Sys2Proof/Machine/Crc.lean ====
section
/-! DEFINITION. The checksums of the device: CRC-16 of the panel (R545), CRC-32 of the store and the Meridian link
(R461) and CRC-8 of the host ports (R551). -/
namespace Sys2Proof.Machine

/-- `n` steps of a left-shifting CRC register of width `w` with polynomial `p`. -/
def crcSteps {w : Nat} (p : BitVec w) : Nat → BitVec w → BitVec w
  | 0, r => r
  | n + 1, r => crcSteps p n (if r.msb then (r <<< 1) ^^^ p else r <<< 1)

/-- CRC-16/CCITT with initial value 0xFFFF (R545). -/
def crc16 (bs : List Byte) : BitVec 16 :=
  bs.foldl (fun (r : BitVec 16) (b : Byte) => crcSteps 0x1021#16 8 (r ^^^ place 16 8 b)) 0xFFFF#16

/-- CRC-8 with polynomial 0x07 and initial value 0 (R551). -/
def crc8 (bs : List Byte) : Byte := bs.foldl (fun (r b : Byte) => crcSteps 0x07#8 8 (r ^^^ b)) 0x00#8

/-- `n` steps of the right-shifting CRC-32 register: 0xEDB88320 is 0x04C11DB7 with its bits reversed (R461). -/
def crc32Steps : Nat → W32 → W32
  | 0, r => r
  | n + 1, r => crc32Steps n (if r.getLsbD 0 then (r >>> 1) ^^^ 0xEDB88320#32 else r >>> 1)

/-- CRC-32, least significant bit first, initial value and final XOR of all ones (R461). -/
def crc32 (bs : List Byte) : W32 :=
  (bs.foldl (fun (r : W32) (b : Byte) => crc32Steps 8 (r ^^^ b.setWidth 32)) 0xFFFFFFFF#32) ^^^ 0xFFFFFFFF#32

end Sys2Proof.Machine
end

