-- ==== Sys2Proof/Machine/Abacus.lean ====
section
/-! DEFINITION. The arithmetic of the rods (ch. 11): TALLY, its refusals, the test shadows, snapshots and what the
rod reads show. -/
namespace Sys2Proof.Machine

/-! ## Values -/

/-- The least COUNT that rolls over (R327, R328). -/
def countLimit : Int := 10 ^ 20

/-- The value in 2⁻⁶⁴ quanta (R327). -/
def RodValue.exact (v : RodValue) : Int := v.count * 2 ^ 64 + v.residue.toNat

/-- The value with the roll-overs counted, in 2⁻⁶⁴ quanta. -/
def RodValue.total (v : RodValue) : Int := v.exact + v.rollover.toNat * countLimit * 2 ^ 64

/-- The increase from one value to another, across roll-overs. -/
def RodValue.increase (old new : RodValue) : Int := (new.total - old.total) % (256 * countLimit * 2 ^ 64)

/-- The value of rod `r` whose exact value has become `x` (R328): roll-over, or the saturation of rod 11. -/
def RodValue.settle (v : RodValue) (r : Rod) (x : Int) : RodValue :=
  let c := x / 2 ^ 64
  let f := BitVec.ofInt 64 (x % 2 ^ 64)
  if r ≠ 11 then
    if countLimit ≤ c then { v with count := c - countLimit, residue := f, rollover := v.rollover + 1#8 }
    else { v with count := c, residue := f }
  else if countLimit ≤ (c.natAbs : Int) then
    { v with count := c.sign * (countLimit - 1), residue := 0#64, sat := true }
  else { v with count := c, residue := f }

/-! ## TALLY (R328 to R330, R333, R444) -/

/-- P = I × S, signed with 64 fraction bits (R328). -/
def tallyProduct (i sc : W64) : Int := i.toInt * sc.toNat

/-- The engines that may tally a rod (R330). -/
def mayTally (e : Eng) (r : Rod) : Bool :=
  match e with
  | .k01 => decide (r.val < 10) || decide (r.val = 11)
  | .k3 => decide (r.val = 10) || decide (12 ≤ r.val)
  | _ => false

/-- The refusal of a TALLY, 0 where there is none: 3 not permitted, 2 SCALE_MISMATCH, 1 NEG_INCREMENT (R444). -/
def tallyRefusal (e : Eng) (r : Rod) (x : RodSt) (i sc : W64) : Nat :=
  if !mayTally e r then 3
  else if x.scale ≠ 0#64 ∧ x.scale ≠ sc then 2
  else if r ≠ 11 ∧ tallyProduct i sc < 0 then 1
  else 0

/-- The rod after an accepted TALLY (R328, R329). -/
def RodSt.tally (x : RodSt) (r : Rod) (i sc : W64) : RodSt :=
  { val := x.val.settle r (x.val.exact + tallyProduct i sc), scale := if x.scale = 0#64 then sc else x.scale }

/-- The rod that a TALLY acts on: the test shadow while unlocked or marked TEST, the open value otherwise (R333). -/
def State.tallyTarget (s : State) (test : Bool) (r : Rod) : RodSt :=
  if test || s.pt.unlocked then s.ab.shadow[r] else s.ab.opened[r]

/-- The entries of a roll-over and of a saturation (R328, Table 16-9). -/
def State.logTally (s : State) (r : Rod) (old new : RodValue) : State :=
  let s := if old.rollover = new.rollover then s
    else s.logHw 0x123 (place 32 0 (BitVec.ofNat 4 r.val) ||| place 32 8 new.rollover)
  if !old.sat && new.sat then s.logHw 0x124 (placeB 32 31 (decide (new.count < 0))) else s

/-- An accepted TALLY to the open value of the issuer's group; with BP = 11 no rod advances (R330, R331). -/
def State.tallyOpen (s : State) (r : Rod) (i sc : W64) : State :=
  if s.st.bp = 3#2 then s
  else
    let old := s.ab.opened[r]
    let new := old.tally r i sc
    let m : BitVec 16 := 1#16 <<< r.val
    let s := { s with ab.opened := s.ab.opened.set r new, ab.touched := s.ab.touched ||| m,
                      ab.bound := if old.scale = new.scale then s.ab.bound else s.ab.bound ||| m }
    s.logTally r old.val new.val

/-- An accepted TALLY to the test shadow (R333). -/
def State.tallyShadow (s : State) (r : Rod) (i sc : W64) : State :=
  { s with ab.shadow := s.ab.shadow.set r ((s.ab.shadow[r]).tally r i sc) }

/-- The rods whose groups belong to an engine (R330, R331). -/
def groupMask (e : Eng) : BitVec 16 :=
  match e with
  | .k01 => 0x0BFF#16
  | .k3 => 0xF400#16
  | _ => 0#16

/-! ## Snapshots and reads (R332, R445) -/

/-- A snapshot of the closed values; SNAP_SEQ advances (R332, R631). -/
def State.snapshot (s : State) : State :=
  { s with ab.snap := s.ab.closed, ab.snapSeq := s.ab.snapSeq + 1#32 }

/-- The value that a ROD read selects: bits [7] open and [8] shadow of the selector (R445). -/
def State.rodSelected (s : State) (e : Eng) (sel : W64) : RodSt :=
  let r : Rod := ⟨(field sel 0 4).toNat, by omega⟩
  if sel.getLsbD 8 then s.ab.shadow[r]
  else if sel.getLsbD 7 && (s.ab.touched &&& groupMask e).getLsbD r.val then s.ab.opened[r]
  else s.ab.closed[r]

/-- One binary element of a rod (Table 15-8). -/
def rodBinary (x : RodSt) (rod11 : Bool) (el : Nat) : W64 :=
  match el with
  | 0 => BitVec.ofInt 64 x.val.count
  | 1 => if rod11 then BitVec.ofInt 64 (x.val.count / 2 ^ 64) else (BitVec.ofInt 16 (x.val.count / 2 ^ 64)).setWidth 64
  | 2 => x.val.residue
  | 3 => x.scale
  | 4 => x.val.rollover.setWidth 64 ||| placeB 64 8 x.val.sat
  | _ => 0#64

/-- `n` decimal digits of a number in BCD, the lowest digit first. -/
def bcd : Nat → Nat → Nat
  | 0, _ => 0
  | n + 1, v => v % 10 + 16 * bcd n (v / 10)

/-- One decimal element of a rod (Table 15-8). -/
def rodDecimal (x : RodSt) (rod11 : Bool) (el : Nat) : W64 :=
  let a := x.val.count.natAbs
  match el with
  | 0 => BitVec.ofNat 64 (bcd 16 a)
  | 1 => BitVec.ofNat 64 (bcd 4 (a / 10 ^ 16)) ||| placeB 64 63 (rod11 && decide (x.val.count < 0))
  | _ => 0#64

/-- The 32 bytes of a rod slot of the result page and of the QUOTE (Tables 23-70, 17-10). -/
def rodBytes (x : RodSt) : List Byte :=
  leBytes 10 (x.val.count % 2 ^ 80).toNat ++ [x.val.rollover, bit 8 x.val.sat, 0#8, 0#8, 0#8, 0#8] ++
    leBytes 8 x.val.residue.toNat ++ leBytes 8 x.scale.toNat

/-! ## What the Abacus takes of an interval (R331, R335) -/

/-- DEST (Tables 11-3, 23-69). -/
def destCode : Dest → BitVec 2
  | .legal => 0#2
  | .error => 1#2
  | .gap => 2#2
  | .test => 3#2

def destOfCode (k : BitVec 2) : Dest :=
  match k.toNat with
  | 0 => .legal
  | 1 => .error
  | 2 => .gap
  | _ => .test

/-- DEST of the interval that the last group of K0–K1 accounted; without one nothing has closed, as in a gap. -/
def State.acctDest (s : State) : BitVec 2 :=
  match s.fl.acct with
  | some x => if x.isGap then 2#2 else destCode x.dest
  | none => 2#2

/-- Its tc. -/
def State.acctTc (s : State) : W64 := (s.fl.acct.map Increment.tc).getD s.ab.fig.tc

/-- Its line rate. -/
def State.acctRate (s : State) : Int := ((s.fl.acct.bind Increment.rates).map Rates.q).getD 0

/-- The rates as the Abacus keeps them; one that is not yielded is zero. -/
def rateWords (r : Rates) : Vector W64 4 :=
  (#v[r.q, r.qb.getD 0, r.qm.getD 0, r.qe.getD 0]).map (BitVec.ofInt 64)

/-- The figures that a group of K0–K1 carries into the journal (R335): rates and destination stay those of the last
traverse that was not a gap. -/
def Figures.account (f : Figures) (x : Increment) : Figures :=
  { rates := if x.isGap then f.rates else (x.rates.map rateWords).getD f.rates,
    dest := if x.isGap then f.dest else destCode x.dest, tc := x.tc, rems := x.rems.map (BitVec.ofInt 64),
    intervalEnd := some x.intervalEnd }

end Sys2Proof.Machine
end

