-- ==== Sys2Proof/Machine/Delivery.lean ====
section
/-! DEFINITION. Pulse and analog outputs, and the delivery controller with its valves (ch. 20). -/
namespace Sys2Proof.Machine

/-! ## Pulse outputs (R569 to R572, Table 20-7) -/

def poMode (w : W64) : Nat := (field w 0 2).toNat
def poSrc (w : W64) : Nat := (field w 2 4).toNat
def poLow (w : W64) : Bool := w.getLsbD 6
def poLvl (w : W64) : Bool := w.getLsbD 7
def poQpp (w : W64) : Nat := (field w 8 24).toNat
def poPeriod (w : W64) : Nat := (field w 32 16).toNat
def poWidth (w : W64) : Nat := (field w 48 16).toNat

/-- The word is not OFF and holds an invalid value: PO_BAD (R569). -/
def poBad (w : W64) : Bool :=
  poMode w != 0 &&
    (poSrc w == 11 || poQpp w == 0 || decide (poPeriod w < 10) || poWidth w == 0 || decide (poPeriod w ≤ poWidth w))

/-- The mode in which the output acts: an invalid word acts as OFF (R569). -/
def poActs (w : W64) : Nat := if poBad w then 0 else poMode w

/-- Output `k` is held inactive: it is LEGAL on a check twin (R572). -/
def State.outHeld (s : State) (k : Nat) : Bool :=
  (s.tw.role == .check || s.pt.unlocked) && s.out.legal.getLsbD k

/-- The output block runs: PD3 powered and its gate open (R572, Table 04-6). -/
def State.outputsRun (s : State) : Bool := s.powered 3 && s.clk.gateOpen.getLsbD 4

/-- Whether output `k` is active (R569). -/
def State.outActive (s : State) (k : Fin 4) : Bool :=
  if s.outHeld k.val then false
  else
    let o := s.out.po[k]
    match poActs o.cfg with
    | 1 => o.active
    | 2 => s.out.reverse
    | 3 => poLvl o.cfg
    | _ => false

/-- The level that ball POk drives: low while PD3 is unpowered (R569, R572); `none` while VIO is low and the ball is high
impedance (R67). -/
def State.outLevel (s : State) (k : Fin 4) : Option Bool :=
  if s.pwr.vioLow then none else some (s.powered 3 && (s.outActive k != poLow (s.out.po[k]).cfg))

/-- HOST_IRQ_N is pulled low: an unmasked event, or BOOT_IMAGE, which no mask covers; never while PD3 is unpowered
(R161, R557) or VIO is low (R67). -/
def State.hostIrqLow (s : State) : Bool :=
  s.powered 3 && !s.pwr.vioLow &&
    (s.sys.eventFlags &&& s.sys.eventMask.setWidth 24 != 0#24 || s.sys.eventFlags.getLsbD 23)

/-- An increase of the source's closed COUNT is collected, and pulses fall due (R570). -/
def PulseOut.collect (o : PulseOut) (inc : Nat) : PulseOut :=
  let a := o.acc.toNat + inc
  let q := poQpp o.cfg
  { o with acc := BitVec.ofNat 64 (a % q), pend := BitVec.ofNat 32 (min (2 ^ 32 - 1) (o.pend.toNat + a / q)) }

/-- Whole quanta by which COUNT rises at a closure, a roll-over adding 10²⁰; a fall is no increase (R570). -/
def countRise (old new : RodValue) : Nat :=
  (new.count - old.count + ((new.rollover - old.rollover).toNat : Int) * countLimit).toNat

/-- A group closure changes the rods from `old` to the present closed values (R570). -/
def State.pulseClosure (s : State) (old : Vector RodSt 16) : State :=
  if !s.outputsRun then s
  else
    { s with out.po := Vector.ofFn fun (k : Fin 4) =>
        let o := s.out.po[k]
        if poActs o.cfg = 1 ∧ !s.outHeld k.val then
          let r : Rod := ⟨poSrc o.cfg % 16, by omega⟩
          o.collect (countRise (old[r]).val (s.ab.closed[r]).val)
        else o }

/-- PULSE_START (R571): with pulses pending, a pulse starts at a tick of the output time base, which stops in NAP. -/
def execPulseStart (k : Fin 4) (s : State) : Host.Outcome State Fault Refusal :=
  let o := s.out.po[k]
  if s.outputsRun ∧ s.pwr.sleep = .awake ∧ poActs o.cfg = 1 ∧ !s.outHeld k.val ∧ !o.active ∧ o.pend ≠ 0#32 then
    .next { s with out.po := s.out.po.set k { o with active := true, pend := o.pend - 1#32 } }
  else .next s

/-- PULSE_END (R571): WIDTH expires. -/
def execPulseEnd (k : Fin 4) (s : State) : Host.Outcome State Fault Refusal :=
  let o := s.out.po[k]
  if s.outputsRun ∧ s.pwr.sleep = .awake then
    .next { s with out.po := s.out.po.set k { o with active := false } }
  else .next s

/-- The role becomes CHECK, or perturbation is unlocked: every LEGAL pulse output is held at zero (R572, R608). -/
def State.holdLegalOutputs (s : State) : State :=
  { s with out.po := Vector.ofFn fun (k : Fin 4) =>
      let o := s.out.po[k]
      if s.out.legal.getLsbD k.val then { o with acc := 0#64, pend := 0#32, active := false } else o }

/-- AO is at its fail level (R573): HOLD, the owner's or the metrology fence, or a LEGAL output of a check twin. -/
def State.aoFails (s : State) : Bool :=
  s.sys.state == .hold || s.fenced .metrology || (s.out.own.getLsbD 4 && s.fenced .customer) || s.outHeld 4

/-- The code that AO presents (R573); with FAIL_MODE HOLD it is the last code. -/
def State.aoCode (s : State) : BitVec 16 :=
  if s.aoFails then
    match (field s.out.aoCfg 0 2).toNat with
    | 1 => 0#16
    | 2 => field s.out.aoCfg 2 16
    | _ => s.out.aoHeld.getD s.out.aoVal
  else s.out.aoVal

/-- Before AOVAL is stored: while AO is at its fail level, the last code is kept aside. -/
def State.holdAo (s : State) : State :=
  if s.aoFails && s.out.aoHeld.isNone then { s with out.aoHeld := some s.out.aoVal } else s

/-- A cause of the fail level has ended: AO returns to AOVAL once none is left. -/
def State.releaseAo (s : State) : State := if s.aoFails then s else { s with out.aoHeld := none }

/-! ## The delivery configuration (Table 20-8) -/

def dcSrc (w : W64) : Nat := (field w 0 2).toNat
def dcLearn (w : W64) : Nat := (field w 2 3).toNat
def dcStopTrav (w : W64) : Nat := (field w 13 3).toNat
def dcCloseT (w : W64) : Nat := (field w 16 16).toNat
def dcMaxTime (w : W64) : Nat := (field w 32 16).toNat

/-- The configuration holds no invalid value (Table 20-8). -/
def dcOk (w : W64) : Bool := dcSrc w != 3 && dcStopTrav w != 0 && dcCloseT w != 0

/-- The source rod: 0, 2 or 4 (Table 20-8). -/
def dcRod (w : W64) : Rod := ⟨2 * dcSrc w % 16, by omega⟩

def Delivery.rod (d : Delivery) : Rod := dcRod d.cfg

/-- The controller follows the rods: RUNNING, TRIM, CLOSING, or ABORTED without FINAL (R576). -/
def Delivery.follows (d : Delivery) : Bool :=
  d.state == .running || d.state == .trim || d.state == .closing || (d.state == .aborted && !d.final)

/-- The run-out is in progress. -/
def Delivery.runOut (d : Delivery) : Bool := d.state == .closing || (d.state == .aborted && !d.final)

/-- Sleep is demoted and updates are refused (R580). -/
def Delivery.active (d : Delivery) : Bool := d.state == .running || d.state == .trim || d.state == .closing

/-- The delivery words may be written (Table 20-6). -/
def Delivery.writable (d : Delivery) : Bool :=
  d.state == .idle || d.state == .done || (d.state == .aborted && d.final)

/-! ## Valves and aborts (R574, R579) -/

def State.valvesOff (s : State) : State := { s with dl.v1 := false, dl.v2 := false }

/-- An abort cause with code `r` (Table 20-10). In CLOSING, reasons 2, 3 and 5 do not abort. -/
def State.abortDelivery (s : State) (r : Nat) : State :=
  match s.dl.state with
  | .running => ({ s.valvesOff with dl.state := .aborted, dl.reason := BitVec.ofNat 4 r, dl.quiet := 0 }).logOpen
  | .trim => ({ s.valvesOff with dl.state := .aborted, dl.reason := BitVec.ofNat 4 r, dl.quiet := 0 }).logOpen
  | .closing =>
    if r = 2 ∨ r = 3 ∨ r = 5 then s
    else ({ s.valvesOff with dl.state := .aborted, dl.reason := BitVec.ofNat 4 r }).logOpen
  | _ => s

/-- VALVE_OVERCURRENT (R574): an energised stage exceeds 0.6 A, switches itself off and aborts the delivery. -/
def execValveOvercurrent (v1 : Bool) (s : State) : Host.Outcome State Fault Refusal :=
  if (if v1 then s.dl.v1 else s.dl.v2) then
    .next (({ s with dl.valveFault := true }).valvesOff.abortDelivery 10)
  else .next s

/-! ## Run-out (R577 to R579) -/

/-- OVR after learning: min(OVR_MAX, max(0, OVR + (O − OVR) / 2^LEARN)), truncated to 16 fraction bits (R577). -/
def learnOvr (d : Delivery) : BitVec 40 :=
  let l := dcLearn d.cfg
  let ovr : Int := (d.ovr.toNat : Int) * 2 ^ 48
  let o := d.delivered - d.dClose
  let x := (ovr * 2 ^ l + o - ovr) / 2 ^ (l + 48)
  BitVec.ofInt 40 (min d.ovrMax.toNat (max 0 x))

/-- The increase of a rod from the total `base`, across roll-overs, in 2⁻⁶⁴ quanta. -/
def deliverySince (base : Int) (v : RodValue) : Int := (v.total - base) % (256 * countLimit * 2 ^ 64)

/-- The comparison of rod 10's increase with DELIVERED (R578), made once the queued increments have reached rod 10. -/
def State.compareBatch (s : State) : State :=
  if s.dl.compareDue && s.dl.incs.isEmpty && !s.ab.touched.getLsbD 10 then
    let s := { s with dl.compareDue := false }
    if deliverySince s.dl.base10 (s.ab.closed[10]).val = s.dl.delivered then s
    else ({ s with dl.mismatch := true }).logOpen
  else s

/-- The run-out ends (R577, R579): DONE, with learning where it is allowed, or FINAL after an abort. -/
def State.endRunOut (s : State) (timeout : Bool) : State :=
  let d := s.dl
  if d.state = .closing then
    let learn := !timeout && d.learnOk && !d.trimSkipped
    let d := { d with state := .done, runoutTimeout := d.runoutTimeout || timeout, compareDue := true,
                      ovr := if learn then learnOvr d else d.ovr, learned := d.learned || learn }
    ({ s with dl := d }).compareBatch
  else if d.state = .aborted ∧ !d.final then
    let d := { d with final := true, runoutTimeout := d.runoutTimeout || timeout, compareDue := true }
    ({ s with dl := d }).compareBatch
  else s

/-- RUNOUT_TIMEOUT (R577). -/
def execRunoutTimeout (s : State) : Host.Outcome State Fault Refusal :=
  if s.dl.runOut then .next (s.endRunOut true) else .next s

/-- A closed traverse counts toward the end of the run-out; a gap is no closed traverse (R577). -/
def State.runOutTraverse (s : State) : State :=
  if s.acctDest = 2#2 then s
  else if (s.acctRate.natAbs : Int) ≤ s.dl.qStop.toInt then
    let s := { s with dl.quiet := s.dl.quiet + 1 }
    if dcStopTrav s.dl.cfg ≤ s.dl.quiet then s.endRunOut false else s
  else { s with dl.quiet := 0 }

/-- DELIVERED follows the source rod (R576). -/
def State.followRod (s : State) : State :=
  let r : Rod := s.dl.rod
  { s with dl.delivered := deliverySince s.dl.base (s.ab.closed[r]).val }

/-- The thresholds on D + OVR (R576). -/
def State.thresholds (s : State) : State :=
  let d := s.dl
  let x := d.delivered + (d.ovr.toNat : Int) * 2 ^ 48
  let closes := decide ((d.preset.toNat : Int) * 2 ^ 64 ≤ x)
  let trims := decide (((d.preset.toNat : Int) - d.trimAt.toNat) * 2 ^ 64 ≤ x)
  if closes then
    let d := { d with v1 := false, v2 := false, dClose := d.delivered, quiet := 0, state := .closing,
                      trimSkipped := d.trimSkipped || d.state == .running }
    { s with dl := d }
  else if trims ∧ d.state = .running then { s with dl.v1 := false, dl.state := .trim }
  else s

/-- A traverse that closes during a delivery: whether learning stays allowed, and the abort causes 6 and 7 (R577,
R579). -/
def State.traverseCauses (s : State) : State :=
  let dest := s.acctDest
  let s := { s with dl.learnOk := s.dl.learnOk && dest != 1#2 && dest != 2#2 }
  if dest = 1#2 ∨ dest = 3#2 then s.abortDelivery 6
  else if dest ≠ 2#2 ∧ s.acctRate < 0 then s.abortDelivery 7
  else s

/-- The run-out or the thresholds, after the abort causes of the closure (R576, R577, R580). -/
def State.deliveryMoves (s : State) (wasOut : Bool) : State :=
  if wasOut then s.runOutTraverse
  else match s.dl.state with
    | .running => s.thresholds
    | .trim => s.thresholds
    | _ => s

/-- A group closure of K0–K1 (R576 to R580): DELIVERED, the abort causes of the traverse, the thresholds, the
run-out. -/
def State.deliveryClosure (s : State) : State :=
  if s.dl.follows then (s.followRod.traverseCauses).deliveryMoves s.dl.runOut else s

/-- An increment of a K0–K1 TALLY to the source rod joins the queue; a full queue aborts (R578). -/
def State.queueIncrement (s : State) (r : Rod) (i : W64) : State :=
  if s.dl.follows ∧ r = s.dl.rod then
    if s.dl.incs.length < 16 then { s with dl.incs := s.dl.incs ++ [i] }
    else
      ({ s with dl.incLost := if s.dl.incLost = 255#8 then 255#8 else s.dl.incLost + 1#8 }).abortDelivery 9
  else s

/-- INC_POP removes and returns the oldest increment (R578); what an empty queue returns is open. -/
def State.popIncrement (s : State) : State × W64 :=
  match s.dl.incs with
  | x :: xs => ({ s with dl.incs := xs }, x)
  | [] => (s.usedFree 1, s.free 0)

/-! ## Commands (R575, Table 20-9) -/

def State.refuseDelivery (s : State) : State := { s with dl.cmdRefused := true }

/-- ARM is refused by its conditions (R575). -/
def State.armRefused (s : State) : Bool :=
  let d := s.dl
  let src := s.ab.closed[d.rod]
  let ten := s.ab.closed[10]
  !dcOk d.cfg || d.preset == 0#40 || decide (d.preset ≤ d.trimAt) || src.scale == 0#64 ||
    (ten.scale != 0#64 && ten.scale != src.scale)

/-- ARM (R575, R626). -/
def State.deliveryArm (s : State) : State :=
  if !s.dl.writable || s.armRefused then s.refuseDelivery
  else
    let d := { s.dl with state := .armed, final := false, valveFault := false, trimSkipped := false,
                         runoutTimeout := false, learned := false, mismatch := false, reason := 0#4 }
    { s with dl := d }

/-- A cause of R574 or of Table 20-10 holds. -/
def State.deliveryBarred (s : State) : Bool :=
  s.clk.damp || s.pwr.driveOt || !s.powered 6 || s.dl.valveFault || s.fenced .metrology || s.fenced .customer ||
    s.pwr.pfail || s.sys.state == .hold

/-- START is refused by its conditions (R575). -/
def State.startRefused (s : State) : Bool :=
  !(s.sys.state == .line || s.sys.state == .vigil) || decide (1 < s.gradeNow.code) || s.tw.role == .check ||
    s.pt.unlocked || s.deliveryBarred

/-- START (R575): the bases are latched and V2 energised. -/
def State.deliveryStart (s : State) : State :=
  if s.dl.state != .armed || s.startRefused then s.refuseDelivery
  else
    let d := { s.dl with state := .running, v2 := true, base := (s.ab.closed[s.dl.rod]).val.total,
                         base10 := (s.ab.closed[10]).val.total, delivered := 0, quiet := 0, learnOk := true,
                         compareDue := false, incs := [], incLost := 0#8 }
    { s with dl := d }

/-- STOP (R575, R579). -/
def State.deliveryStop (s : State) : State :=
  match s.dl.state with
  | .armed => { s with dl.state := .idle }
  | .running => s.abortDelivery 1
  | .trim => s.abortDelivery 1
  | .closing => s.abortDelivery 1
  | _ => s.refuseDelivery

/-- RESET (R575). -/
def State.deliveryReset (s : State) : State :=
  match s.dl.state with
  | .armed => { s with dl.state := .idle }
  | .done => { s with dl.state := .idle }
  | .aborted => if s.dl.final then { s with dl.state := .idle } else s.refuseDelivery
  | _ => s.refuseDelivery

/-- A command of the controller, from K3 through DLVCMD, or through DELIVERY_CTRL from a host port or an engine that may
write it by SYS (R399, R575). -/
def State.deliveryBy (s : State) (q : Requester) (f : State → State) : State :=
  if q = .eng .k3 then s.onReg 63 f else s.byWrite q 63 f

/-- DELIVERY_ARM (R575). -/
def execDeliveryArm (q : Requester) (s : State) : Host.Outcome State Fault Refusal :=
  .next (s.deliveryBy q State.deliveryArm)

/-- DELIVERY_START (R575). -/
def execDeliveryStart (q : Requester) (s : State) : Host.Outcome State Fault Refusal :=
  .next (s.deliveryBy q State.deliveryStart)

/-- DELIVERY_STOP (R579). -/
def execDeliveryStop (q : Requester) (s : State) : Host.Outcome State Fault Refusal :=
  .next (s.deliveryBy q State.deliveryStop)

/-- DELIVERY_RESET (R575). -/
def execDeliveryReset (q : Requester) (s : State) : Host.Outcome State Fault Refusal :=
  .next (s.deliveryBy q State.deliveryReset)

/-- V1_SOFT_START (R575): SOFT_T after START, V1 is energised. -/
def execV1SoftStart (s : State) : Host.Outcome State Fault Refusal :=
  .next (if s.dl.state = .running ∧ !s.deliveryBarred then { s with dl.v1 := true } else s)

/-- DELIVERY_MAX_TIME (R579): MAX_TIME passes since START. -/
def execDeliveryMaxTime (s : State) : Host.Outcome State Fault Refusal :=
  .next (if dcMaxTime s.dl.cfg = 0 then s else s.abortDelivery 8)

/-! ## The ROLE line and the role (R581 to R583) -/

/-- The role that EN and the line give (R581). -/
def Twin.roleOf (t : Twin) : Role := if !t.en then .solo else if t.holds then .principal else .check

/-- The role after a change of EN or of the line: a twin that becomes CHECK aborts a delivery and holds its LEGAL
outputs (R572, R582). -/
def State.updateRole (s : State) : State :=
  let r := s.tw.roleOf
  let turns := r == .check && s.tw.role != .check
  let s := { s with tw.role := r }
  if turns then (s.abortDelivery 4).holdLegalOutputs else s.releaseAo

/-- ROLE is released: SYNC stops being driven first (R583, R593). -/
def State.releaseRole (s : State) : State :=
  if s.tw.holds then ({ s with tw.holds := false, tw.syncDrive := false, tw.releasing := false }).updateRole else s

end Sys2Proof.Machine
end

