-- ==== Sys2Proof/Machine/Settings.lean ====
section
/-! DEFINITION. The RWT fields (R153 to R155, R634): what a register holds of them, how a value is put into them, the
factory defaults, and the restore from the settings record. -/
namespace Sys2Proof.Machine

/-- The registers that hold RWT fields, by index (R618), with the domain that holds each (Table 23-1). -/
def rwtRegisters : List (Nat × Nat) :=
  [(8, 0), (13, 0), (14, 0), (20, 4), (21, 4), (22, 2), (24, 2), (27, 2), (28, 2), (30, 4), (32, 4), (47, 1), (52, 0),
   (58, 6), (61, 3), (62, 3), (65, 3)]

/-- The factory defaults (the Reset column of ch. 23). -/
def rwtDefault (idx : Nat) : W32 :=
  match idx with
  | 8 => place 32 6 4#8
  | 13 => 4#32
  | 20 => place 32 2 30#8
  | 21 => place 32 0 100#10 ||| place 32 10 10#8 ||| 1#32 <<< 18
  | 22 => 1#32 <<< 4
  | 27 => 1#32 ||| place 32 1 60#10 ||| place 32 11 60#8 ||| place 32 19 4#4 ||| place 32 23 2#4 ||| place 32 27 3#2
  | 28 => place 32 0 20#10 ||| place 32 10 100#8 ||| place 32 18 64#8 ||| place 32 26 3#3 ||| place 32 29 3#3
  | 30 => place 32 8 650#10
  | 32 => 1#32 <<< 1 ||| place 32 2 20#8 ||| place 32 10 500#16
  | 47 => place 32 20 10#8
  | 61 => 1#32 <<< 1
  | _ => 0#32

/-- The RWT fields of a register as they stand, every other bit zero. -/
def State.rwtWord (s : State) (idx : Nat) : W32 :=
  match idx with
  | 8 => place 32 6 s.pwr.wakeLead
  | 13 => s.pwr.vbatLowTh.setWidth 32
  | 14 => s.pwr.wakeEn.setWidth 32
  | 20 => placeB 32 0 s.clk.ovenFitted ||| placeB 32 1 s.clk.autoSwitch ||| place 32 2 s.clk.warmQual |||
      place 32 10 s.clk.xhfDev ||| place 32 26 s.clk.xhfDevAge
  | 21 => place 32 0 s.clk.returnQual ||| place 32 10 s.clk.fallbackDelay ||| placeB 32 18 s.clk.autoFallback |||
      placeB 32 19 s.clk.autoRelease
  | 22 => placeB 32 1 s.sv.timingReg ||| placeB 32 2 s.sv.firingReg ||| placeB 32 3 s.sv.boostEnReg |||
      placeB 32 4 s.sv.boostQuiet ||| placeB 32 5 s.sv.agcHoldReg ||| placeB 32 6 s.sv.bandForce |||
      place 32 7 s.sv.bandSel ||| place 32 10 s.sv.vdrvSetReg
  | 24 => s.sv.chordEnReg.setWidth 32
  | 27 => placeB 32 0 s.lr.rotEn ||| place 32 1 s.lr.rotPeriod ||| place 32 11 s.lr.vrotPeriod |||
      place 32 19 s.lr.hits ||| place 32 23 s.lr.vhits ||| place 32 27 s.lr.retry ||| placeB 32 29 s.lr.holdCal
  | 28 => place 32 0 s.sv.holdTime ||| place 32 10 s.sv.dtAbs ||| place 32 18 s.sv.dtRel ||| place 32 26 s.sv.sosShift |||
      place 32 29 s.sv.reacq
  | 30 => place 32 0 s.aux.rtdEn ||| place 32 4 s.aux.pbEn ||| placeB 32 6 s.aux.clampHold ||| place 32 8 s.aux.rhSet
  | 32 => placeB 32 0 s.aux.blankEn ||| placeB 32 1 s.aux.blankAux ||| place 32 2 s.aux.blankResume |||
      place 32 10 s.aux.blankMaxHold
  | 47 => place 32 0 s.upd.flowLimit ||| place 32 20 s.upd.idleTimeout ||| placeB 32 28 s.upd.noCell
  | 52 => place 32 16 s.rtc.trim
  | 58 => place 32 13 s.pn.dcMax
  | 61 => placeB 32 0 s.prt.i2cWr ||| placeB 32 1 s.prt.i2cStretch ||| placeB 32 2 s.prt.optFmt |||
      place 32 3 s.prt.optBaud ||| placeB 32 6 s.prt.optTxInv ||| placeB 32 7 s.prt.optRxInv
  | 62 => place 32 0 s.out.own ||| place 32 5 s.out.legal
  | 65 => placeB 32 0 s.tw.en ||| placeB 32 1 s.tw.seat
  | _ => 0#32

/-- A value within the range of its field, otherwise the old value (R622). -/
def inRange {n : Nat} (lo hi : Nat) (old new : BitVec n) : BitVec n :=
  if lo ≤ new.toNat ∧ new.toNat ≤ hi then new else old

/-- TRAV_PERIOD is set, from the next boundary on while the survey runs (R284, R285); with a twin, it is at most
400,000 µs (R588). -/
def State.setPeriod (s : State) (us : Nat) : State :=
  let us := max 2000 (min (if s.tw.en then 400000 else 60000000) us)
  if s.sv.run then { s with sv.travNext := some us } else { s with sv.travPeriod := us, sv.travNext := none }

/-- TWIN_CTRL.EN and SEAT are written; clearing EN releases ROLE (R581, R583). Setting EN takes the period of an earlier
PACE under R588: DEDUCED, log 79. -/
def State.putTwinEn (s : State) (en seat : Bool) : State :=
  let s := { s with tw.seat := seat }
  if en then
    let t := s.sv.travNext.getD s.sv.travPeriod
    let s := ({ s with tw.en := true }).updateRole
    if t ≤ 400000 then s else s.setPeriod t
  else ({ s.releaseRole with tw.en := false }).updateRole

/-- OUTPUT_CFG is written; a LEGAL output of a check twin, or while unlocked, is held at zero (R567, R572,
R608). -/
def State.putOutputCfg (s : State) (w : W32) : State :=
  let s := { s with out.own := field w 0 5, out.legal := field w 5 5 }
  if s.tw.role = .check ∨ s.pt.unlocked then s.holdLegalOutputs else s

/-- The RWT fields of a register take the value `w`, under the limits of their fields (ch. 23). A value in force at
boundaries only waits for its boundary. -/
def State.putRwt (s : State) (idx : Nat) (w : W32) : State :=
  match idx with
  | 8 => { s with pwr.wakeLead := field w 6 8 }
  | 13 => { s with pwr.vbatLowTh := field w 0 4 }
  | 14 => { s with pwr.wakeEn := field w 0 7 }
  | 20 => { s with clk.ovenFitted := w.getLsbD 0, clk.autoSwitch := w.getLsbD 1, clk.warmQual := field w 2 8,
                   clk.xhfDev := field w 10 16, clk.xhfDevAge := field w 26 6 }
  | 21 => { s with clk.returnQual := inRange 1 1000 s.clk.returnQual (field w 0 10), clk.fallbackDelay := field w 10 8,
                   clk.autoFallback := w.getLsbD 18, clk.autoRelease := w.getLsbD 19 }
  | 22 => { s with sv.timingReg := w.getLsbD 1, sv.firingReg := w.getLsbD 2, sv.boostEnReg := w.getLsbD 3,
                   sv.boostQuiet := w.getLsbD 4, sv.agcHoldReg := w.getLsbD 5, sv.bandForce := w.getLsbD 6,
                   sv.bandSel := field w 7 3, sv.vdrvSetReg := field w 10 8,
                   sv.boostEn := if s.sv.run then s.sv.boostEn else w.getLsbD 3,
                   sv.vdrvSet := if s.sv.run then s.sv.vdrvSet else field w 10 8 }
  | 24 => { s with sv.chordEnReg := field w 0 20 }
  | 27 => { s with lr.rotEn := w.getLsbD 0, lr.rotPeriod := inRange 1 1023 s.lr.rotPeriod (field w 1 10),
                   lr.vrotPeriod := inRange 1 255 s.lr.vrotPeriod (field w 11 8), lr.hits := field w 19 4,
                   lr.vhits := field w 23 4, lr.retry := field w 27 2, lr.holdCal := w.getLsbD 29 }
  | 28 => { s with sv.holdTime := field w 0 10, sv.dtAbs := field w 10 8, sv.dtRel := field w 18 8,
                   sv.sosShift := field w 26 3, sv.reacq := field w 29 3 }
  | 30 => { s with aux.rtdEn := field w 0 4, aux.pbEn := field w 4 2, aux.clampHold := w.getLsbD 6,
                   aux.rhSet := field w 8 10 }
  | 32 => { s with aux.blankEn := w.getLsbD 0, aux.blankAux := w.getLsbD 1, aux.blankResume := field w 2 8,
                   aux.blankMaxHold := inRange 1 60000 s.aux.blankMaxHold (field w 10 16) }
  | 47 => { s with upd.flowLimit := field w 0 20, upd.idleTimeout := field w 20 8, upd.noCell := w.getLsbD 28 }
  | 52 => { s with rtc.trim := field w 16 11 }
  | 58 => { s with pn.dcMax := field w 13 8 }
  | 61 => { s with prt.i2cWr := w.getLsbD 0, prt.i2cStretch := w.getLsbD 1, prt.optFmt := w.getLsbD 2,
                   prt.optBaud := inRange 0 6 s.prt.optBaud (field w 3 3), prt.optTxInv := w.getLsbD 6,
                   prt.optRxInv := w.getLsbD 7 }
  | 62 => s.putOutputCfg w
  | 65 => s.putTwinEn (w.getLsbD 0) (w.getLsbD 1)
  | _ => s

/-- The payload of the settings record: an entry of 8 bytes per register, in ascending index (R634). -/
def State.settingsPayload (s : State) : List Byte :=
  (rwtRegisters.map fun r => leBytes 4 r.1 ++ leBytes 4 (s.rwtWord r.1).toNat).flatten

/-- The value that a settings payload gives a register, if it covers it (R634). -/
def settingsEntry (idx : Nat) : List Byte → Option W32
  | a :: b :: _ :: _ :: e :: f :: g :: h :: rest =>
    if leNat [a, b] = idx then some (BitVec.ofNat 32 (leNat [e, f, g, h])) else settingsEntry idx rest
  | _ => none

/-- A restored register (R154): the record's entry, or the factory defaults. -/
def State.restoreRegister (s : State) (payload : List Byte) (idx : Nat) : State :=
  s.putRwt idx ((settingsEntry idx payload).getD (rwtDefault idx))

/-- The registers of a set of domains are restored (R154). -/
def State.restoreDomains (s : State) (payload : List Byte) (pds : List Nat) : State :=
  (rwtRegisters.filter fun r => pds.contains r.2).foldl (fun s r => s.restoreRegister payload r.1) s

/-- Some RWT field takes its factory default (R154). -/
def usesDefaults (payload : List Byte) : Bool := rwtRegisters.any fun r => (settingsEntry r.1 payload).isNone

end Sys2Proof.Machine
end

