-- ==== Sys2Proof/Machine/Store.lean ====
section
/-! DEFINITION. The store controller (ch. 16): records and their copies, the order of requests, pages, the event log,
the interval log, graticule snapshots, the rod record and the journal, and what a power failure leaves. -/
namespace Sys2Proof.Machine

/-! ## The map of the array (Table 16-2) -/

/-- Addresses that the table marks reserved: they read as zero and refuse every write (R455). -/
def storeReserved (a : Nat) : Bool :=
  (decide (0x33000 ≤ a) && decide (a < 0x40000)) || (decide (0xC0D80 ≤ a) && decide (a < 0xC1000)) ||
    (decide (0xCCB00 ≤ a) && decide (a < 0x100000))

/-- The rod record and the journal ring, which are held as what they say (R334, R335). -/
def storeAbacus (a : Nat) : Bool := decide (a < 0x800) || (decide (0x1000 ≤ a) && decide (a < 0xD000))

/-- The copies of a record, A and B (Tables 16-2, 16-4). -/
def recordSlots (id : Nat) : Option (Nat × Nat) :=
  if id = 1 then some (0xD000, 0xE000)
  else if id = 2 then some (0x0000, 0x0400)
  else if id = 3 then some (0xF000, 0x10000)
  else if id = 4 then some (0x0800, 0x0A00)
  else if id = 5 then some (0x0C00, 0x0E00)
  else if 0x10 ≤ id ∧ id ≤ 0x17 then some (0x11000 + 0x200 * (id - 0x10), 0x11100 + 0x200 * (id - 0x10))
  else if id = 0x20 then some (0x12000, 0x12800)
  else if 0x100 ≤ id ∧ id ≤ 0x1FF then some (0x13000 + 0x200 * (id - 0x100), 0x13100 + 0x200 * (id - 0x100))
  else if 0x300 ≤ id ∧ id ≤ 0x313 then some (0xC0000 + 0x80 * (id - 0x300), 0xC0040 + 0x80 * (id - 0x300))
  else if id = 0x314 then some (0xC0A00, 0xC0A40)
  else if id = 0x315 then some (0xC0A80, 0xC0B00)
  else if id = 0x316 then some (0xC0B80, 0xC0C80)
  else none

/-- The payload length is allowed for the record (Table 16-4). -/
def recordLenOk (id len : Nat) : Bool :=
  if id = 1 then decide (len ≤ 4080)
  else if id = 2 then decide (len ≤ 560)
  else if id = 3 then len == 3264
  else if id = 4 then len == 64
  else if id = 5 then len == 128
  else if id = 0x20 then decide (1 ≤ len) && decide (len ≤ 2032)
  else if id < 0x300 then decide (1 ≤ len) && decide (len ≤ 240)
  else if id ≤ 0x313 then len == 48
  else if id = 0x314 then len == 32
  else if id = 0x315 then len == 96
  else len == 200

/-- The engine may write the record (Table 16-4, R465). -/
def State.mayWriteRecord (s : State) (id : Nat) (e : Eng) : Bool :=
  if id = 1 then e != .k3
  else if id = 3 then e == .k01
  else if id = 5 then e == .k2
  else if 0x10 ≤ id ∧ id ≤ 0x17 then e == .k01 || e == .k2
  else if id = 0x20 then e == .s0 || e == .s1
  else if 0x100 ≤ id ∧ id ≤ 0x17F then e == .s0 || e == .s1 || e == .k01
  else if 0x180 ≤ id ∧ id ≤ 0x1BF then e == .k2
  else if 0x1C0 ≤ id ∧ id ≤ 0x1FF then e == .k3
  else if 0x300 ≤ id then (e == .k01 || e == .k2) && !s.sealed
  else false

/-- The record that holds an address, for R459. -/
def recordAt (a : Nat) : Nat :=
  if a < 0x800 then 2
  else if a < 0xC00 then 4
  else if a < 0x1000 then 5
  else if a < 0xD000 then 2
  else if a < 0xF000 then 1
  else if a < 0x11000 then 3
  else if a < 0x12000 then 0x10 + (a - 0x11000) / 0x200
  else if a < 0x13000 then 0x20
  else if a < 0x33000 then 0x100 + (a - 0x13000) / 0x200
  else if a < 0xC0000 then 0
  else if a < 0xC0A00 then 0x300 + (a - 0xC0000) / 0x80
  else if a < 0xC0A80 then 0x314
  else if a < 0xC0B80 then 0x315
  else if a < 0xC0D80 then 0x316
  else 0

/-! ## Copies and the load rule (R460 to R463) -/

/-- A byte of the array outside the rod record and the journal. -/
def Store.byte (st : Store) (a : Nat) : Byte := if storeReserved a then 0#8 else st.array.get 0#8 a

def Store.bytes (st : Store) (a n : Nat) : List Byte := (List.range n).map fun k => st.byte (a + k)

/-- A frame and payload with its CRC (Table 16-3). -/
def frameBytes (id : Nat) (seq : W32) (payload : List Byte) : List Byte :=
  let head := leBytes 2 id ++ leBytes 2 payload.length ++ leBytes 4 seq.toNat
  head ++ leBytes 4 (crc32 (head ++ payload)).toNat ++ leBytes 4 0 ++ payload

/-- The copy at `a`, where it is valid: its SEQ and payload (R460). -/
def Store.copyAt (st : Store) (id a : Nat) : Option (W32 × List Byte) :=
  let head := st.bytes a 8
  let len := leNat ((head.drop 2).take 2)
  let seq : W32 := BitVec.ofNat 32 (leNat (head.drop 4))
  if leNat (head.take 2) = id ∧ recordLenOk id len ∧ seq ≠ 0#32 then
    let payload := st.bytes (a + 16) len
    if leNat (st.bytes (a + 8) 4) = (crc32 (head ++ payload)).toNat then some (seq, payload) else none
  else none

/-- Copy X is newer than copy Y (R462). -/
def seqNewer (x y : W32) : Bool := decide (1 ≤ (x - y).toNat) && decide ((x - y).toNat < 2 ^ 31)

/-- SEQ after `x`: 0 is left out (R462). -/
def seqNext (x : W32) : W32 := if x + 1#32 = 0#32 then 1#32 else x + 1#32

/-- What the load rule answers of two copies: whether B is selected, the copy, and a conflict (R462). -/
def loadRule {α : Type} [DecidableEq α] (a b : Option (W32 × α)) : Option (Bool × (W32 × α) × Bool) :=
  match a, b with
  | none, none => none
  | some x, none => some (false, x, false)
  | none, some y => some (true, y, false)
  | some x, some y =>
    if seqNewer x.1 y.1 then some (false, x, false)
    else if seqNewer y.1 x.1 then some (true, y, false)
    else if x = y then some (false, x, false)
    else some (false, x, true)

/-- Where a write of the record goes: whether to copy B, and its SEQ (R463). -/
def writeRule {α : Type} [DecidableEq α] (a b : Option (W32 × α)) : Bool × W32 :=
  match loadRule a b with
  | none => (false, 1#32)
  | some (isB, x, _) => (!isB, seqNext x.1)

/-- The copies of a record in the array. -/
def Store.copies (st : Store) (id : Nat) : Option (W32 × List Byte) × Option (W32 × List Byte) :=
  match recordSlots id with
  | some (a, b) => (st.copyAt id a, st.copyAt id b)
  | none => (none, none)

/-- The payload that the load rule selects. -/
def Store.load (st : Store) (id : Nat) : Option (List Byte) :=
  (loadRule (st.copies id).1 (st.copies id).2).map fun r => r.2.1.2

/-- A load that meets rule 5 of R462 sets RECORD_CONFLICT and writes an entry with the record's ID. -/
def State.noteConflict (s : State) (id : Nat) : State :=
  ({ s with st.recordConflict := true }).logHw 0x120 (BitVec.ofNat 32 id)

/-- Load a record with its conflict noted. -/
def State.loadRecord (s : State) (id : Nat) : State × Option (List Byte) :=
  match loadRule (s.st.copies id).1 (s.st.copies id).2 with
  | none => (s, none)
  | some (_, x, conflict) => (if conflict then s.noteConflict id else s, some x.2)

/-! ## Rod record and journal (R334 to R336) -/

def RodRecord.tagged (r : RodRecord) : W32 × RodRecord := (r.seq, { r with seq := 0#32 })

/-- The rod record that the load rule selects, its place and a conflict. -/
def Store.rodLoad (st : Store) : Option (Bool × (W32 × RodRecord) × Bool) :=
  loadRule (st.rodA.map RodRecord.tagged) (st.rodB.map RodRecord.tagged)

/-- Where the next rod record goes, and its SEQ (R463). -/
def Store.rodWrite (st : Store) : Bool × W32 :=
  writeRule (st.rodA.map RodRecord.tagged) (st.rodB.map RodRecord.tagged)

/-- The contents of a rod record written now (R334, R496). -/
def State.rodRecordNow (s : State) (activation : Bool) : RodRecord :=
  { seq := s.st.rodWrite.2, rods := s.ab.closed, jseq := s.ab.jseq, fig := s.ab.fig, elapsed := s.rtc.elapsed,
    secs := BitVec.ofNat 34 (secondsOf s.rtc.cal), subsec := s.rtc.subsec, activation := activation }

/-- A copy of the rod record is replaced, or made invalid by `none`. -/
def Store.setRod (st : Store) (b : Bool) (r : Option RodRecord) : Store :=
  if b then { st with rodB := r } else { st with rodA := r }

/-- A rod record is written whole. -/
def State.putRodRecord (s : State) (activation : Bool) : State :=
  let r := s.rodRecordNow activation
  { s with st := s.st.setRod s.st.rodWrite.1 (some r), ab.sinceRecord := 0 }

/-- The entry of journal number `n`, where it is valid. -/
def Store.journalEntry (st : Store) (n : Nat) : Option JEntry := st.journal.find? fun e => e.jseq == n

/-- A journal entry takes its slot, JSEQ mod 128 (Table 16-2). -/
def Store.putJournal (st : Store) (en : JEntry) : Store :=
  { st with journal := (st.journal.filter fun e => e.jseq % 128 != en.jseq % 128) ++ [en] }

/-! ## Pages (R456, R457, R467) -/

/-- A write split at the 256-byte boundaries (R456); the fuel is the number of bytes. -/
def splitPages : Nat → Nat → List Byte → List (Nat × List Byte)
  | 0, _, _ => []
  | f + 1, a, bs =>
    if bs.isEmpty then []
    else (a, bs.take (256 - a % 256)) :: splitPages f (a + (256 - a % 256)) (bs.drop (256 - a % 256))

def pagesOf (a : Nat) (bs : List Byte) : List (Nat × List Byte) := splitPages bs.length a bs

/-- A page at `a` touches a protected quarter (Table 16-7). -/
def pageProtected (bp : BitVec 2) (a : Nat) : Bool :=
  match bp.toNat with
  | 0 => false
  | 1 => decide (0xC0000 ≤ a)
  | 2 => decide (0x80000 ≤ a)
  | _ => true

/-- A page is written into the array. -/
def Store.writePage (st : Store) (p : Nat × List Byte) : Store := { st with array := st.array.write 0#8 p.1 p.2 }

/-! ## The event log (R470 to R474) -/

/-- TIME, SUBSEC, CODE and SOURCE of an entry (Table 16-8). -/
def timeWord (secs : BitVec 34) (subsec : BitVec 15) (code : BitVec 12) (source : BitVec 3) : W64 :=
  place 64 0 secs ||| place 64 34 subsec ||| place 64 49 code ||| place 64 61 source

/-- Bytes 0x00 to 0x0F of an entry. -/
def LogEntry.head (en : LogEntry) (seq : W32) : List Byte :=
  leBytes 4 seq.toNat ++ leBytes 4 en.data.toNat ++ leBytes 8 (timeWord en.secs en.subsec en.code en.source).toNat

/-- LINK of an entry after the link `prev` (R471); kept as the number of its 16 bytes, the first lowest. -/
def linkOf (prev : BitVec 128) (head : List Byte) : BitVec 128 :=
  BitVec.ofNat 128 (leNat ((sha512 (leBytes 16 prev.toNat ++ head)).take 16))

def logAddr (seq : Nat) : Nat := 0x40000 + 32 * (seq % 8192)

/-- The entry that is written next: the loss entry where entries have been lost, the oldest staged one otherwise. -/
def State.nextLog (s : State) : Option LogEntry :=
  match s.log.staged with
  | [] => none
  | en :: _ =>
    if s.log.lossNew then
      some { data := s.log.lost.setWidth 32, secs := BitVec.ofNat 34 (secondsOf s.rtc.cal), subsec := s.rtc.subsec,
             code := 0x121#12, source := 5#3 }
    else some en

/-! ## Interval log (R475) -/

/-- The 64 bytes of an interval-log entry. -/
def State.intervalBytes (s : State) (e : Eng) (seq : W32) (payload : List Byte) : List Byte :=
  let body := leBytes 4 seq.toNat ++ leBytes 1 (engNum e) ++ leBytes 1 payload.length ++ leBytes 2 0 ++
    leBytes 8 (timeWord (BitVec.ofNat 34 (secondsOf s.rtc.cal)) s.rtc.subsec 0#12 0#3).toNat ++
    payload ++ List.replicate (44 - payload.length) 0#8
  body ++ leBytes 4 (crc32 body).toNat

/-- The entry at position `p`, where its CRC is correct: SEQ and payload. -/
def Store.intervalAt (st : Store) (p : Nat) : Option (W32 × List Byte) :=
  let bs := st.bytes (0x80000 + 64 * p) 64
  let seq : W32 := BitVec.ofNat 32 (leNat (bs.take 4))
  if leNat (bs.drop 60) = (crc32 (bs.take 60)).toNat ∧ seq ≠ 0#32 ∧ seq.toNat % 4096 = p then
    some (seq, (bs.drop 16).take (min 44 (leNat ((bs.drop 5).take 1))))
  else none

/-- The newest entry of the interval log. -/
def Store.intervalNewest (st : Store) : Option (W32 × List Byte) :=
  (List.range 4096).foldl (fun best p => match st.intervalAt p, best with
    | some x, some y => if seqNewer x.1 y.1 then some x else some y
    | some x, none => some x
    | none, b => b) none

/-! ## Graticule snapshots (R476) -/

def snapAddr (l : Lane) (k : Nat) : Nat := 0xC1000 + 0x220 * (4 * l.val + k)

/-- SNAP_SEQ of slot `k`, where its CRC is correct. -/
def Store.snapAt (st : Store) (l : Lane) (k : Nat) : Option Nat :=
  let bs := st.bytes (snapAddr l k) 0x220
  if leNat ((bs.drop 0x18).take 4) = (crc32 (bs.take 0x18 ++ bs.drop 0x20)).toNat then some (leNat (bs.take 4)) else none

/-- The slot that a new snapshot overwrites: the first whose CRC fails, or else the one with the lowest SNAP_SEQ. -/
def Store.snapSlot (st : Store) (l : Lane) : Nat :=
  match (List.range 4).find? fun k => (st.snapAt l k).isNone with
  | some k => k
  | none =>
    ((List.range 4).foldl (fun b k =>
      if (st.snapAt l k).getD 0 < (st.snapAt l b).getD 0 then k else b) 0)

/-- The bytes of a snapshot; those that R476 leaves unnamed are free values. -/
def State.snapBytes (s : State) (l : Lane) : List Byte :=
  let x := s.lane l
  let seq := 1 + ((List.range 4).map fun k => (s.st.snapAt l k).getD 0).foldl max 0
  let gap (lo n : Nat) : List Byte := (List.range n).map fun k => (s.free (lo + k)).setWidth 8
  let head := leBytes 4 seq ++ leBytes 1 l.val ++ leBytes 1 x.gratH ++ leBytes 2 (binsUsed x.grat) ++
    leBytes 8 (timeWord (BitVec.ofNat 34 (secondsOf s.rtc.cal)) s.rtc.subsec 0#12 0#3).toNat ++
    leBytes 2 (BitVec.ofInt 16 s.sv.senseTemp).toNat ++ gap 0 6
  let tail := ((List.range 256).map fun k => leBytes 2 (x.grat.getD k 0)).flatten
  head ++ leBytes 4 (crc32 (head ++ tail)).toNat ++ gap 6 4 ++ tail

/-! ## Requests in their order (R458, R459) -/

/-- The class of a request; a staged event-log entry is class 2 (R459). -/
def StoreKind.cls : StoreKind → Nat
  | .rodRecord _ => 1
  | .journal _ => 1
  | .logEntry => 2
  | .record _ _ => 3
  | .pload _ _ _ _ => 4
  | .raw => 5
  | .interval _ => 6
  | .snapshot _ _ => 7

/-- The record that a request touches, 0 for none. -/
def StoreReq.touches (r : StoreReq) : Nat :=
  match r.kind with
  | .record id _ => id.toNat
  | .pload _ _ _ id => id.toNat
  | .raw => match r.pages with
    | some ((a, _) :: _) => recordAt a
    | _ => 0
  | _ => 0

/-- The request may be served now: the warning holds every write but the work of R458; a PLOAD writes nothing. -/
def StoreReq.free (r : StoreReq) (pfw : Bool) : Bool :=
  !pfw || r.early || (match r.kind with
    | .logEntry => true
    | .pload _ _ _ _ => true
    | _ => false)

/-- The first request of class `c` that is not held and that no earlier request for its record precedes, with the
requests before and after it. -/
def pickClass (pfw : Bool) (c : Nat) : List StoreReq → List StoreReq → Option (StoreReq × List StoreReq)
  | _, [] => none
  | before, r :: rest =>
    if r.kind.cls = c ∧ r.free pfw ∧ (r.touches = 0 ∨ before.all fun b => b.touches != r.touches) then
      some (r, before ++ rest)
    else pickClass pfw c (before ++ [r]) rest

/-- The next request in the order of R459. -/
def pickNext (pfw : Bool) (ws : List StoreReq) : Option (StoreReq × List StoreReq) :=
  [1, 2, 3, 4, 5, 6, 7].foldl (fun o c => match o with
    | some x => some x
    | none => pickClass pfw c [] ws) none

/-- Staged entries stand as one request of class 2. -/
def State.withLogRequest (s : State) : List StoreReq :=
  let has := s.st.waiting.any fun r => r.kind.cls == 2
  if s.log.staged.isEmpty || has then s.st.waiting
  else s.st.waiting ++ [{ kind := .logEntry, payload := [], pages := none, early := true }]

/-- The pages of a request, laid out as its first page starts. -/
def State.layOut (s : State) (r : StoreReq) : List (Nat × List Byte) :=
  match r.kind with
  | .rodRecord _ =>
    let a := if s.st.rodWrite.1 then 0x400 else 0x0
    [(a, []), (a + 256, []), (a + 512, [])]
  | .journal en =>
    let a := 0x1000 + 384 * (en.jseq % 128)
    [(a, []), (a + 256 - a % 256, [])]
  | .logEntry =>
    match s.nextLog with
    | some en =>
      let seq := s.st.logSeq + 1#32
      let head := en.head seq
      [(logAddr seq.toNat, head ++ leBytes 16 (linkOf s.st.logHead head).toNat)]
    | none => []
  | .record id _ =>
    match recordSlots id.toNat with
    | some (a, b) =>
      let w := writeRule (s.st.copies id.toNat).1 (s.st.copies id.toNat).2
      pagesOf (if w.1 then b else a) (frameBytes id.toNat w.2 r.payload)
    | none => []
  | .pload _ _ _ _ => []
  | .raw => r.pages.getD []
  | .interval e =>
    let seq := match s.st.intervalNewest with
      | some x => seqNext x.1
      | none => 1#32
    [(0x80000 + 64 * (seq.toNat % 4096), s.intervalBytes e seq r.payload)]
  | .snapshot _ l => pagesOf (snapAddr l (s.st.snapSlot l)) (s.snapBytes l)

/-! ## Ends of requests -/

/-- A waiting instruction of an engine ends with a result in `d`. -/
def State.endWait (s : State) (e : Eng) (d : GReg) (v : W64) : State :=
  s.modEngine e fun x => (x.setReg d v).done

/-- PSAVE ends with a status (R446, Table 15-9). -/
def State.endPsave (s : State) (e : Eng) (v : W64) : State :=
  match (s.engine e).wait with
  | some (.psave d) => s.endWait e d v
  | _ => s

/-- LANE SNAP ends: bit 63 says that it was refused (R443). -/
def State.endSnap (s : State) (e : Eng) (refused : Bool) : State :=
  match (s.engine e).wait with
  | some (.snapWrite d) => s.endWait e d (placeB 64 63 refused)
  | _ => s

/-- Requests in flight or waiting. -/
def Store.open_ (st : Store) : List StoreReq := st.flight.toList ++ st.waiting

def Store.hasJournal (st : Store) (byK3 : Bool) : Bool := st.open_.any fun r => match r.kind with
  | .journal en => en.byK3 == byK3
  | _ => false

def Store.hasRodRecord (st : Store) : Bool := st.open_.any fun r => match r.kind with
  | .rodRecord _ => true
  | _ => false

def Store.hasRaw (st : Store) : Bool := st.open_.any fun r => match r.kind with
  | .raw => true
  | _ => false

/-- ROD commit ends once the journal entry, and with a binding the rod record, is written (R331). -/
def State.endCommit (s : State) (e : Eng) : State :=
  match (s.engine e).wait with
  | some (.commit binds) =>
    if s.st.hasJournal (e == .k3) || (binds && s.st.hasRodRecord) then s
    else s.modEngine e Engine.done
  | _ => s

/-- A change of protection takes effect: the entry of Table 16-9, and ROLE released at 11 (R468, R583). -/
def State.setBp (s : State) (bp : BitVec 2) : State :=
  let old := s.st.bp
  let s := { s with st.bp := bp, st.bpWait := false }
  let s := if old = bp then s else s.logHw 0x122 (place 32 0 old ||| place 32 2 bp)
  if bp = 3#2 then s.releaseRole else s

/-- A request for a rod record. -/
def rodRecordReq (activation early : Bool) : StoreReq :=
  { kind := .rodRecord activation, payload := [], pages := none, early := early }

/-- The ledger entry that a PSAVE of the survey ledger record keeps through SLUMBER (R283). What its payload says is
firmware's (DESIGN CHOICE, log 72). -/
def ChordSt.ledger (ch : ChordSt) : Ledger :=
  { state := ch.state, probFrom := ch.probFrom, probCount := ch.probCount, lastAccept := ch.lastAccept, seedAt := ch.seedAt,
    dtRef := ch.dtRef, sos := ch.sos, times := ch.times, seedTimes := ch.seedTimes, reacqCount := ch.reacqCount,
    reacqDt := ch.reacqDt }

/-- The owner has saved its ledger: every chord's entry is in the survey ledger record (R283). -/
def State.saveLedger (s : State) : State := s.mapChords fun _ ch => { ch with saved := some ch.ledger }

/-- A request ends, written whole or refused by protection (R467). -/
def State.finishReq (s : State) (r : StoreReq) (refused : Bool) : State :=
  match r.kind with
  | .rodRecord act =>
    let s := if refused then s else s.putRodRecord act
    let s := if s.st.bpWait then s.setBp 3#2 else s
    (s.endCommit .k01).endCommit .k3
  | .journal en =>
    let s := if refused then s
      else
        let s := { s with st := s.st.putJournal en, ab.sinceRecord := s.ab.sinceRecord + 1 }
        if 64 ≤ s.ab.sinceRecord ∧ !s.st.hasRodRecord then
          { s with st.waiting := s.st.waiting ++ [rodRecordReq false false] }
        else s
    (s.endCommit .k01).endCommit .k3
  | .logEntry =>
    if refused then { s with log.staged := s.log.staged.drop 1 }.logLoss
    else
      let bs := ((r.pages.getD []).headD (0, [])).2
      let code := leNat ((bs.drop 14).take 2) / 2 % 4096
      let s := { s with st.logSeq := BitVec.ofNat 32 (leNat (bs.take 4)),
                        st.logHead := BitVec.ofNat 128 (leNat (bs.drop 16)) }
      if code = 0x121 then { s with log.lossNew := false } else { s with log.staged := s.log.staged.drop 1 }
  | .record id by_ =>
    match by_ with
    | .engine e =>
      let s := if id = 0x20#16 ∧ !refused then s.saveLedger else s
      s.endPsave e (if refused then 1#64 else 0#64)
    | .host => { s with st.hostSave := false, st.saveStatus := if refused then 1#3 else 0#3 }
    | .metrology => s
  | .pload _ _ _ _ => s
  | .raw => { s with st.rawBusy := s.st.hasRaw, st.rawRefused := s.st.rawRefused || refused }
  | .interval e => (if refused then s.logLoss else s).endPsave e (if refused then 1#64 else 0#64)
  | .snapshot e _ => s.endSnap e refused

/-! ## PLOAD (R447) -/

/-- The payload that PLOAD delivers, with its status; the rod record's layout is open, so that its bytes and length
are free values. -/
def State.ploadData (s : State) (id : Nat) : State × W64 × List Byte :=
  if id = 0x400 then
    match s.st.intervalNewest with
    | some x => (s, 0#64, x.2)
    | none => (s, 5#64, [])
  else if id = 2 then
    match s.st.rodLoad with
    | some (_, _, conflict) =>
      let n := (s.free 0).toNat % 561
      let bs : List Byte := (List.range n).map fun k => (s.free (k + 1)).setWidth 8
      let s := if conflict then s.noteConflict 2 else s
      (s.usedFree 561, if conflict then 6#64 else 0#64, bs)
    | none => (s, 5#64, [])
  else
    match recordSlots id, loadRule (s.st.copies id).1 (s.st.copies id).2 with
    | none, _ => (s, 2#64, [])
    | some _, none => (s, 5#64, [])
    | some _, some (_, x, conflict) =>
      (if conflict then s.noteConflict id else s, if conflict then 6#64 else 0#64, x.2)

/-- The bank of common SRAM that holds offset `off` answers: its gate is open and no fence is up (Table 14-7, R141, R32). -/
def State.sramRuns (s : State) (off : Nat) : Bool :=
  !s.fenced .memory && (off / 0x10000 == 0 || s.clk.gateOpen.getLsbD (7 + off / 0x10000))

/-- A byte of common SRAM is written; a bank with a closed gate drops it (Table 14-7, R141). -/
def State.putSram (s : State) (off : Nat) (b : Byte) : State :=
  if s.sramRuns off then { s with sram := s.sram.set 0#8 off b } else s

/-- Bytes written from an offset of common SRAM upwards. -/
def State.putSramBytes (s : State) (off : Nat) : List Byte → State
  | [] => s
  | b :: bs => (s.putSram off b).putSramBytes (off + 1) bs

/-- Bytes that an instruction writes into memory go to the engine's data memory or to common SRAM (R393, R447). -/
def State.putBytes (s : State) (e : Eng) (a : Nat) (bs : List Byte) : State :=
  if 0x100000 ≤ a then s.putSramBytes (a - 0x100000) bs
  else s.modEngine e fun x => { x with data := x.data.write 0#8 a bs }

/-- The free values that laying out a request may use. -/
def StoreKind.frees : StoreKind → Nat
  | .snapshot _ _ => 10
  | _ => 0

/-- The engine may write the bank of common SRAM that holds offset `off` (Tables 14-1, 14-7). -/
def mayWriteBank (e : Eng) (off : Nat) : Bool :=
  match off / 0x10000 with
  | 0 => e == .s0 || e == .s1 || e == .k01
  | 1 => e == .k2
  | 2 => true
  | _ => e == .k2 || e == .k3

/-- Bytes of data memory of an engine (R393). -/
def dataSize (e : Eng) : Nat := if isSurveyor e then 0x2000 else 0x10000

/-- The engine may write every byte of a span: in its data memory, or in banks of common SRAM that it may write (R393,
R447). -/
def mayWriteSpan (e : Eng) (a n : Nat) : Bool :=
  n == 0 || decide (a + n ≤ dataSize e) ||
    (decide (0x100000 ≤ a) && decide (a + n ≤ 0x140000) &&
      (List.range 4).all fun k =>
        let lo := 0x100000 + 0x10000 * k
        mayWriteBank e (0x10000 * k) || decide (a + n ≤ lo) || decide (lo + 0x10000 ≤ a))

/-- PLOAD is served: the payload is written where the engine may write its full length, otherwise ACCESS (R447). -/
def State.servePload (s : State) (e : Eng) (d : GReg) (addr : Nat) (id : BitVec 16) : State :=
  let (s, status, bs) := s.ploadData id.toNat
  if (s.engine e).wait ≠ some (.psave d) then s
  else if mayWriteSpan e addr bs.length then
    (s.putBytes e addr bs).endWait e d (status ||| place 64 16 (BitVec.ofNat 16 bs.length))
  else s.trap e .access (BitVec.ofNat 64 addr)

/-- Start requests until a page is in flight: a PLOAD is served at once, and a request whose first page is protected
is refused whole. -/
def State.kickStore : Nat → State → State
  | 0, s => s
  | f + 1, s =>
    if s.st.flight.isSome then s
    else match pickNext s.st.pfw s.withLogRequest with
      | none => s
      | some (r, rest) =>
        match r.kind with
        | .pload e d addr id =>
          State.kickStore f (({ s with st.waiting := rest }).servePload e d addr id)
        | _ =>
          let fresh := match r.kind with
            | .raw => true
            | _ => r.pages.isNone
          let pages := if fresh then s.layOut r else r.pages.getD []
          let s := { s with st.waiting := rest }
          let s := if fresh then s.usedFree r.kind.frees else s
          match pages with
          | [] => State.kickStore f (s.finishReq r false)
          | p :: _ =>
            if pageProtected s.st.bp p.1 then State.kickStore f (s.finishReq r true)
            else
              let s := { s with st.flight := some { r with pages := some pages } }
              match r.kind with
              | .rodRecord _ => if fresh then { s with st := s.st.setRod s.st.rodWrite.1 none } else s
              | .journal en =>
                { s with st.journal := s.st.journal.filter fun e => e.jseq % 128 != en.jseq % 128 }
              | _ => s

/-- The controller takes up waiting work. -/
def State.kick (s : State) : State := State.kickStore (s.st.waiting.length + 2) s

/-- The page in flight is complete; the request's next page waits at the head of its class, or the request ends. -/
def State.finishPage (s : State) : State :=
  match s.st.flight with
  | none => s
  | some r =>
    match r.pages.getD [] with
    | [] => { s with st.flight := none }
    | p :: ps =>
      let s := { s with st := s.st.writePage p }
      if ps.isEmpty then ({ s with st.flight := none }).finishReq r false
      else { s with st.flight := none, st.waiting := { r with pages := some ps } :: s.st.waiting }

/-- STORE_PAGE_COMPLETE (R456): the page in flight finishes, and the next waiting page starts. A staged entry that
found the controller idle is the page in flight. -/
def execStorePageComplete (s : State) : Host.Outcome State Fault Refusal :=
  if s.powered 1 then .next s.kick.finishPage.kick else .next s

/-- The way from the Core die to the store controller is closed, though it is powered: the Keep fence, or the link of the
bridge (R32, R41). -/
def State.keepCut (s : State) : Bool := s.powered 1 && (s.fenced .keep || !s.br.keep.up)

/-- A request that the way refuses is dropped, and whoever waits for it goes on; the status that PSAVE, PLOAD or a save of
the host then shows is stated nowhere: a free value. -/
def State.dropRequest (s : State) (r : StoreReq) : State :=
  match r.kind with
  | .record _ (.engine e) => (s.endPsave e (s.free 0)).usedFree 1
  | .interval e => (s.endPsave e (s.free 0)).usedFree 1
  | .pload e _ _ _ => (s.endPsave e (s.free 0)).usedFree 1
  | .record _ .host => { s with st.hostSave := false, st.saveStatus := (s.free 0).setWidth 3 }.usedFree 1
  | _ => s.finishReq r true

/-- A new request joins those that wait, where its way across the Core–Keep bridge is open (R32, R41). -/
def State.request (s : State) (r : StoreReq) : State :=
  let s := s.kick
  if s.keepCut then (if s.fenced .keep then s else s.bridgeRefuse .keep).dropRequest r
  else ({ s with st.waiting := s.st.waiting ++ [r] }).kick

/-- The rod record is asked for (R334). -/
def State.requestRodRecord (s : State) : State := s.request (rodRecordReq false false)

/-- ROD_RECORD_PERIODIC (R334): every 1.000 s on the elapsed counter, while the Abacus runs. -/
def execRodRecordPeriodic (s : State) : Host.Outcome State Fault Refusal :=
  if s.powered 2 ∧ s.boot.rodsLoaded ∧ !s.ab.frozen then .next s.requestRodRecord else .next s

/-! ## Power-fail warning and loss (R457, R458) -/

/-- The warning reaches the controller: the rod record is asked for, and what R458 names is let through. -/
def State.storeWarning (s : State) : State :=
  let s := s.kick
  let s := if s.powered 2 && s.boot.rodsLoaded && !s.ab.frozen then
      { s with st.waiting := s.st.waiting ++ [rodRecordReq false true] } else s
  let mark (r : StoreReq) : StoreReq := if r.kind.cls = 1 then { r with early := true } else r
  let s := { s with st.waiting := s.st.waiting.map mark, st.pfw := s.pwr.source != Source.vbat }
  s.kick

/-- Held writes resume (R458). -/
def State.storeResume (s : State) : State := ({ s with st.pfw := false }).kick

/-- The store loses power during a page: some bytes of it are new, the byte in flight either, the rest old (R457). How
many is open. -/
def State.tearPage (s : State) : State :=
  let s := s.kick
  match s.st.flight with
  | none => s
  | some r =>
    match r.pages.getD [] with
    | [] => s
    | p :: ps =>
      let n := (s.free 0).toNat % (p.2.length + 1)
      let whole := ps.isEmpty && s.free 1 == 0#64
      let s := { s with st := s.st.writePage (p.1, p.2.take n) }.usedFree 2
      match r.kind with
      | .rodRecord act => if whole then s.putRodRecord act else s
      | .journal en => if whole then { s with st := s.st.putJournal en } else s
      | _ => s

/-- The flash address of slot A (0), slot B (1) and the recovery image (2) (Table 16-11). -/
def flashBase (slot : Nat) : Nat := 0x300000 * slot

/-- Power is lost while a sector of the code store is erased or programmed: the sector is undefined (R479). -/
def State.tearFlash (s : State) : State :=
  if s.upd.job = some UpdJob.block then
    let bs : List Byte := (List.range 4096).map fun k => (s.free k).setWidth 8
    { s with st.code := s.st.code.write 0xFF#8 (flashBase s.upd.slot.toNat + 4096 * s.upd.nextBlock) bs }.usedFree 4096
  else s

/-- What the controller forgets at a reset of PD1. -/
def State.storeReset (s : State) : State :=
  { s with st := { s.st with flight := none, waiting := [], pfw := false, recordConflict := false, hostSave := false,
                             rawBusy := false, saveStatus := 0#3, rawRefused := false, protectRefused := false,
                             logRefused := false, bpWait := false, addr := 0#23, codeSpace := false },
           log := { staged := [], lost := 0#8, lossNew := false, stagedData := Vector.replicate 5 0#32 } }

/-! ## Restore (R154, R474) -/

/-- The entry numbers that the log positions hold, each at its own position. -/
def Store.logNumbers (st : Store) : List Nat :=
  (List.range 8192).filterMap fun p =>
    let n := leNat (st.bytes (0x40000 + 32 * p) 4)
    if n ≠ 0 ∧ n % 8192 = p then some n else none

def Store.linkAt (st : Store) (n : Nat) : BitVec 128 :=
  if n = 0 then 0#128 else BitVec.ofNat 128 (leNat (st.bytes (logAddr n + 16) 16))

/-- The newest entry and its link; a torn one, whose LINK fails, is not written (R474). -/
def Store.findLog (st : Store) : W32 × BitVec 128 :=
  let n := st.logNumbers.foldl max 0
  let n := if st.linkAt n = linkOf (st.linkAt (n - 1)) (st.bytes (logAddr n) 16) then n else n - 1
  (BitVec.ofNat 32 n, st.linkAt n)

/-- The payload of the settings record, empty where it is absent: every field then takes its default (R154). -/
def State.settings (s : State) : List Byte := (s.st.load 1).getD []

/-! ## Rows that only ask (R155, R332, R334) -/

/-- The host's settings save (R155, R464). -/
def State.saveSettings (s : State) : State :=
  ({ s with st.hostSave := true }).request
    { kind := .record 1#16 .host, payload := s.settingsPayload, pages := none, early := false }

/-- SAVE_SETTINGS (R155): HOST_CTRL lies in PD3. -/
def execSaveSettings (q : Requester) (s : State) : Host.Outcome State Fault Refusal :=
  .next (s.byWrite q 6 State.saveSettings)

/-- HOST_SNAPSHOT (R332). -/
def execHostSnapshot (q : Requester) (s : State) : Host.Outcome State Fault Refusal :=
  .next (s.byWrite q 6 fun s => if s.powered 2 then s.snapshot else s)

/-! ## Protection and raw access (R468, R469) -/

/-- A write of 11 is refused by the device state (R468). -/
def State.bp11Refused (s : State) : Bool :=
  let measuring (d : DevState) : Bool := d == .line || d == .vigil
  measuring s.sys.state || (s.sys.state == .hold && measuring s.sys.left) || s.sv.run

/-- BP is written: at once, or after its rod record (R468); `signed` for a signed set. -/
def State.changeBp (s : State) (bp : BitVec 2) (signed : Bool) : State :=
  if (s.sealed && !signed) || (bp == 3#2 && s.bp11Refused) then { s with st.protectRefused := true }
  else if bp = 3#2 ∧ s.st.bp ≠ 3#2 then
    if s.powered 2 && s.boot.rodsLoaded && !s.ab.frozen then ({ s with st.bpWait := true }).requestRodRecord
    else s.setBp 3#2
  else s.setBp bp

/-- STORE_PROTECT_WRITE (R468): the host or a privileged engine; K3 has no SYS. -/
def execStoreProtectWrite (q : Requester) (bp : BitVec 2) (s : State) : Host.Outcome State Fault Refusal :=
  .next (s.byWrite q 42 fun s => s.changeBp bp false)

/-- A byte that a raw read shows (R455, R469); bytes of layouts that no rule gives, and addresses beyond the array,
are free values. -/
def State.rawByte (s : State) (k a : Nat) : Byte :=
  if s.st.codeSpace then (if 0x700000 ≤ a then 0xFF#8 else s.st.code.get 0xFF#8 a)
  else if storeAbacus a ∨ 0x100000 ≤ a then (s.free k).setWidth 8
  else s.st.byte a

/-- ADDR advances by 4 (R469). -/
def State.advanceAddr (s : State) : State := { s with st.addr := s.st.addr + 4#23 }

/-- A read of STORE_DATA (R469). -/
def State.readStoreData (s : State) : State × W32 :=
  let a := s.st.addr.toNat
  let w : W32 := BitVec.ofNat 32 (leNat ((List.range 4).map fun k => s.rawByte k (a + k)))
  ((s.usedFree 4).advanceAddr, w)

/-- STORE_DATA_READ (R469): refused as BUSY while a store access is in progress. -/
def execStoreDataRead (_q : Requester) (s : State) : Host.Outcome State Fault Refusal :=
  .next (({ s with readOut := 0#64 }).onReg 44 fun s =>
    if s.st.rawBusy || s.st.hostSave then s
    else
      let r := s.readStoreData
      { r.1 with readOut := r.2.setWidth 64 })

/-- A raw write is accepted at an address (R469). -/
def State.rawWritable (s : State) (a : Nat) : Bool :=
  !s.sealed && !s.st.codeSpace && decide (a < 0x100000) && !storeAbacus a && !storeReserved a &&
    !(decide (0x800 ≤ a) && decide (a < 0xC00)) && !(decide (0x40000 ≤ a) && decide (a < 0x80000))

/-- A write of STORE_DATA (R469). -/
def State.writeStoreData (s : State) (v : W32) : State :=
  let a := s.st.addr.toNat
  let s := s.advanceAddr
  if s.rawWritable a then
    ({ s with st.rawBusy := true }).request
      { kind := .raw, payload := [], pages := some [(a, leBytes 4 v.toNat)], early := false }
  else { s with st.rawRefused := true }

/-- STORE_DATA_WRITE (R469): refused as BUSY while a store access is in progress. -/
def execStoreDataWrite (q : Requester) (v : W32) (s : State) : Host.Outcome State Fault Refusal :=
  .next (s.byWrite q 44 fun s => if s.st.rawBusy || s.st.hostSave then s else s.writeStoreData v)

/-! ## Staging event-log entries by firmware (R473, R625) -/

/-- The staged DATA of an engine. -/
def stageIdx : Requester → Option (Fin 5)
  | .eng .s0 => some 0
  | .eng .s1 => some 1
  | .eng .k01 => some 2
  | .eng .k2 => some 3
  | .eng .k3 => some 4
  | _ => none

/-- OP 1 stages ARG as DATA[15:0], OP 2 as DATA[31:16]; a host port stages nothing of its own (R625). -/
def State.stageLog (s : State) (q : Requester) (high : Bool) (arg : BitVec 16) : State :=
  match stageIdx q with
  | some k =>
    let d := s.log.stagedData[k]
    let d : W32 := if high then arg ++ field d 0 16 else field d 16 16 ++ arg
    { s with log.stagedData := s.log.stagedData.set k d }
  | none => s

/-- CODE lies in the engine's range: 0x800 to 0xFFF belong to K3 alone, and K3 has no others (R473). -/
def codeAllowed (e : Eng) (code : Nat) : Bool := (e == .k3) == decide (0x800 ≤ code)

/-- An entry of K0–K1 for a fluid-state or dryness event also sets its EVENT_FLAGS bit (R355, R357, R623; DEDUCED, log 40). -/
def State.fluidEvent (s : State) (e : Eng) (code : Nat) : State :=
  if e = .k01 ∧ (code = 0x10A ∨ code = 0x10B) then s.event (code - 0x100) else s

/-- OP 3 hands the entry to the Keep event island, or is dropped (R625). -/
def State.submitLog (s : State) (q : Requester) (code : BitVec 12) : State :=
  match q, stageIdx q with
  | .eng e, some k =>
    let d := s.log.stagedData[k]
    let s := { s with log.stagedData := s.log.stagedData.set k 0#32 }
    if codeAllowed e code.toNat then (s.logFrom (engNum e) code.toNat d).fluidEvent e code.toNat
    else { s with st.logRefused := true }
  | _, _ => { s with st.logRefused := true }

/-- LOG_STAGE_LOW (R625). -/
def execLogStageLow (q : Requester) (arg : BitVec 16) (s : State) : Host.Outcome State Fault Refusal :=
  .next (s.byWrite q 40 fun s => s.stageLog q false arg)

/-- LOG_STAGE_HIGH (R625). -/
def execLogStageHigh (q : Requester) (arg : BitVec 16) (s : State) : Host.Outcome State Fault Refusal :=
  .next (s.byWrite q 40 fun s => s.stageLog q true arg)

/-- LOG_SUBMIT (R625). -/
def execLogSubmit (q : Requester) (code : BitVec 12) (s : State) : Host.Outcome State Fault Refusal :=
  .next (s.byWrite q 40 fun s => s.submitLog q code)

/-- CLR_LOST (R473). -/
def execClrLost (q : Requester) (s : State) : Host.Outcome State Fault Refusal :=
  .next (s.byWrite q 40 fun s => { s with log.lost := 0#8 })

end Sys2Proof.Machine
end

