-- ==== Sys2Proof/Machine/Twin.lean ====
section
/-! DEFINITION. Twin pairing over the Meridian link (ch. 21): frames, pairing, SYNC, the mark, comparison, takeover and
adoption. -/
namespace Sys2Proof.Machine

/-! ## The twin configuration record (R590) -/

/-- The payload of record 0x0010, where it is valid. -/
def State.twinCfg (s : State) : Option (List Byte) := (s.st.load 0x10).filter fun p => decide (0x20 ≤ p.length)

def cfgField (p : List Byte) (off n : Nat) : Nat := leNat ((p.drop off).take n)

/-! ## Frames (R586, R589) -/

/-- A frame joins those that wait for their acknowledgement; SEQ counts modulo 256. -/
def State.sendFrame (s : State) (typ : Byte) (payload : List Byte) : State :=
  { s with tw.out := s.tw.out ++ [{ typ := typ, seq := s.tw.sendSeq, payload := payload, repeats := 0 }],
           tw.sendSeq := s.tw.sendSeq + 1#8 }

/-- The link runs: PD3 powered, its gate open, the PLL locked on XREF or XHF (R585). -/
def State.meridianRuns (s : State) : Bool :=
  s.powered 3 && s.clk.gateOpen.getLsbD 3 && s.clk.pllLock && s.clk.refUse != .ring

/-- Frames can be received. -/
def State.linkOpen (s : State) : Bool := s.meridianRuns && (s.tw.link == .up || s.tw.link == .paired)

/-- SEQ and payload of a frame of type `typ` with at most `limit` payload bytes, `none` where it is discarded (R586). -/
def parseFrame (typ limit : Nat) (bs : List Byte) : Option (Byte × List Byte) :=
  let len := leNat ((bs.drop 2).take 2)
  if bs.length = len + 8 ∧ leNat (bs.take 1) = typ ∧ len ≤ limit ∧
      leNat (bs.drop (len + 4)) = (crc32 (bs.take (len + 4))).toNat then
    some (BitVec.ofNat 8 (leNat ((bs.drop 1).take 1)), (bs.drop 4).take len)
  else none

/-- What a received frame delivers: nothing where it is discarded, or where its SEQ repeats the last one (R586). -/
def State.deliver (s : State) (typ limit : Nat) (bs : List Byte) : Option (State × List Byte) :=
  if !s.linkOpen then none
  else match parseFrame typ limit bs with
    | none => none
    | some (seq, p) =>
      if s.tw.lastSeq = some seq then none else some (({ s with tw.lastSeq := some seq }).hop [31], p)

/-! ## HELLO and the pairing digest (R589, Table 21-7) -/

/-- HELLO: a fresh nonce, which is a free value, and what the device says of itself. LAST_ROLE lies in record 0x0012,
whose layout no rule gives: free where the record is present. -/
def State.helloPayload (s : State) (cfg : List Byte) : List Byte :=
  let nonce : List Byte := (List.range 32).map fun k => (s.free k).setWidth 8
  let last : Nat := if (s.st.load 0x12).isSome then (s.free 32).toNat % 3 else 0
  nonce ++ leBytes 4 Config.devRev.toNat ++ leBytes 4 s.sv.travPeriod ++ [bit 8 s.tw.seat, bit 8 s.sealed] ++
    leBytes 1 last ++ List.replicate 5 0#8 ++ cfg.take 16 ++
    ((List.range 8).map fun r => leBytes 8 (s.ab.closed.toList.getD r RodSt.zero).scale.toNat).flatten

def helloPeriod (h : List Byte) : Nat := leNat ((h.drop 0x24).take 4)
def helloSeat (h : List Byte) : Bool := h.getD 0x28 0#8 != 0#8
def helloSealed (h : List Byte) : Bool := h.getD 0x29 0#8 == 1#8
def helloLast (h : List Byte) : Nat := (h.getD 0x2A 0#8).toNat
def helloMeter (h : List Byte) : List Byte := (h.drop 0x30).take 16
def helloScale (h : List Byte) (r : Nat) : Nat := leNat ((h.drop (0x40 + 8 * r)).take 8)

/-- The digest signed at step 4 of R591: HELLO and certificate of seat 0, then those of seat 1. -/
def pairingDigest (seat : Bool) (own ownCert peer peerCert : List Byte) : List Byte :=
  if seat then sha512 (peer ++ peerCert ++ own ++ ownCert) else sha512 (own ++ ownCert ++ peer ++ peerCert)

/-- Fragments of the certificate (R589). -/
def certFragments (cert : List Byte) : List (List Byte) :=
  (List.range ((cert.length + 1015) / 1016)).map fun k =>
    leBytes 2 cert.length ++ leBytes 2 (1016 * k) ++ leBytes 4 0 ++ (cert.drop (1016 * k)).take 1016

/-! ## Pairing (R591, R592, Table 21-4) -/

/-- Pairing fails with a code. -/
def State.pairFails (s : State) (code : Nat) : State :=
  { s.endPairing with tw.pairFail := BitVec.ofNat 4 code }

/-- Pairing starts: HELLO and the certificate are sent. Refused without the configuration record. -/
def State.startPairing (s : State) : State :=
  if !s.tw.en ∨ s.tw.link ≠ .up ∨ s.tw.pairing.isSome then s
  else match s.twinCfg with
    | none => s.pairFails 1
    | some cfg =>
      let hello := s.helloPayload cfg
      let p : Pairing := { hello := hello, peerHello := none, certPart := [], certTotal := none, peerKey := none,
                           signing := false, proofSent := false, proofOk := false, raised := none }
      let s := ({ s.usedFree 33 with tw.pairing := some p }).sendFrame 0x01#8 hello
      (certFragments Config.identityCert).foldl (fun s f => s.sendFrame 0x02#8 f) s

/-- The twin is fit to take ROLE (R584). -/
def State.twinFit (s : State) : Bool :=
  s.tw.role == .check && (s.sys.state == .line || s.sys.state == .vigil) && decide (s.gradeNow.code ≤ 1) &&
    !s.pt.unlocked && s.st.bp != 3#2 && s.tw.rejoin

/-- ROLE is asserted; a takeover adopts at the next own group closure (R597, R598), the designation does not (R592). -/
def State.assertRole (s : State) (adopts : Bool) : State :=
  ({ s with tw.holds := true, tw.handover := false, tw.adopt := adopts, tw.adoptPaired := false,
            tw.probation := s.tw.probation && !adopts }).updateRole

/-- This twin is the designated one (R592). -/
def designated (seat : Bool) (own peer : List Byte) : Bool :=
  let me := helloLast own == 1
  let you := helloLast peer == 1
  if me != you then me else !seat

/-- The first condition of Table 21-4 that fails, 0 for none. -/
def State.pairingCode (s : State) (own peer : List Byte) : Nat :=
  if helloMeter own ≠ helloMeter peer then 4
  else if helloPeriod own ≠ helloPeriod peer then 5
  else if (List.range 8).any fun r =>
      helloScale own r != 0 && helloScale peer r != 0 && helloScale own r != helloScale peer r then 6
  else if s.tw.seat = helloSeat peer then 7
  else if s.sealed ∧ !helloSealed peer then 8
  else 0

/-- Both proofs stand: the conditions are checked, and the link becomes PAIRED (R591, R592, R599). -/
def State.finishPairing (s : State) (p : Pairing) (peer : List Byte) : State :=
  let c := s.pairingCode p.hello peer
  if c ≠ 0 then s.pairFails c
  else
    let s := { s with tw.pairing := none, tw.pairFail := 0#4, tw.link := .paired, tw.linkErr := 0#8, tw.rejoin := true,
                      tw.firstEdge := true, tw.window := none }
    if s.tw.holds then s
    else if !s.tw.lineLow && designated s.tw.seat p.hello peer && s.twinFit then s.assertRole false
    else { s with tw.adoptPaired := s.tw.role == .check }

/-- The pairing sequencer moves on: the signature begins once the peer's certificate has verified, and pairing ends
once both proofs stand. -/
def State.advancePairing (s : State) (p : Pairing) : State :=
  let s := { s with tw.pairing := some p }
  match p.peerHello with
  | some h => if p.proofSent ∧ p.proofOk then s.finishPairing p h else s.pairSign
  | none => s

/-- HELLO_FRAME (R589). -/
def execHelloFrame (bs : List Byte) (s : State) : Host.Outcome State Fault Refusal :=
  match s.deliver 0x01 128 bs with
  | none => .next s
  | some (s, p) =>
    match s.tw.pairing with
    | some pr => if p.length = 128 then .next (s.advancePairing { pr with peerHello := some p }) else .next s
    | none => .next s

/-- CERT_FRAME (R589): the fragment must follow what has been taken; the whole certificate must verify. -/
def execCertFrame (bs : List Byte) (s : State) : Host.Outcome State Fault Refusal :=
  match s.deliver 0x02 1024 bs with
  | none => .next s
  | some (s, f) =>
    match s.tw.pairing with
    | none => .next s
    | some pr =>
      let total := leNat (f.take 2)
      let off := leNat ((f.drop 2).take 2)
      let part := pr.certPart ++ f.drop 8
      if f.length < 8 ∨ off ≠ pr.certPart.length ∨ total < part.length ∨ (pr.certTotal.getD total) ≠ total then
        .next (s.pairFails 2)
      else
        let pr := { pr with certPart := part, certTotal := some total }
        if part.length < total then .next (s.advancePairing pr)
        else match peerCertKey part with
          | some k => .next (s.advancePairing { pr with peerKey := some k })
          | none => .next (s.pairFails 2)

/-- PROOF_FRAME (R591): the peer's proof is verified against the key in its certificate. -/
def execProofFrame (bs : List Byte) (s : State) : Host.Outcome State Fault Refusal :=
  match s.deliver 0x03 512 bs with
  | none => .next s
  | some (s, sig) =>
    match s.tw.pairing with
    | none => .next s
    | some pr =>
      match pr.peerHello, pr.peerKey with
      | some h, some k =>
        let d := pairingDigest s.tw.seat pr.hello Config.identityCert h pr.certPart
        if pssVerify k d sig then .next (s.advancePairing { pr with proofOk := true }) else .next (s.pairFails 3)
      | _, _ => .next (s.pairFails 3)

/-- PAIRING_SIGNATURE_COMPLETE (R505, R591): the regulator returns, and PROOF is sent. -/
def execPairingSignatureComplete (s : State) : Host.Outcome State Fault Refusal :=
  match s.tw.pairing with
  | some pr =>
    match pr.peerHello with
    | some h =>
      if pr.signing then
        let d := pairingDigest s.tw.seat pr.hello Config.identityCert h pr.certPart
        let pr := { pr with signing := false, proofSent := true }
        let s := (({ s with tw.pairing := some pr }).lowerRail pr.raised).sendFrame 0x03#8 (Config.identitySign d)
        .next (s.advancePairing { pr with raised := none })
      else .next s
    | none => .next s
  | none => .next s

/-- PAIRING_TIMEOUT (R591). -/
def execPairingTimeout (s : State) : Host.Outcome State Fault Refusal :=
  if s.tw.pairing.isSome then .next (s.pairFails 9) else .next s

/-- PAIRING_RETRY (R591): every 10 s while it fails; a twin detached by command waits for PAIR. -/
def execPairingRetry (s : State) : Host.Outcome State Fault Refusal :=
  if s.tw.detached then .next s else .next s.startPairing

/-- TWIN_CTRL.CMD = PAIR (R591). -/
def State.pairCommand (s : State) : State := { s with tw.detached := false }.startPairing

/-- TWIN_PAIR (R591). -/
def execTwinPair (q : Requester) (s : State) : Host.Outcome State Fault Refusal :=
  .next (s.byWrite q 65 State.pairCommand)

/-- LINK_UP (R585, R587, R589, R591): 64 valid characters; SEQ counts from 0, first the frames that waited for the link,
and pairing may start. -/
def execLinkUp (s : State) : Host.Outcome State Fault Refusal :=
  if s.meridianRuns ∧ (s.tw.link = .down ∨ s.tw.link = .lost) then
    let s := { s with tw.link := .up, tw.lastSeq := none, tw.sendSeq := BitVec.ofNat 8 s.tw.out.length,
                      tw.out := s.tw.out.mapIdx fun k f => { f with seq := BitVec.ofNat 8 k } }
    .next (if s.tw.detached then s else s.startPairing)
  else .next s

/-- The link stops running: an UP link is DOWN, a PAIRED one is lost only after 500 ms (R588, Table 21-5). -/
def State.meridianStops (s : State) : State :=
  { s.endPairing with tw.link := if s.tw.link = .up then .down else s.tw.link }

/-! ## Detachment (R588, R596) -/

/-- Detachment: DEV is no longer valid and no window is formed; roles stay. -/
def State.detach (s : State) (l : Link) : State :=
  { s with tw.link := l, tw.devValid := false, tw.window := none, tw.adoptPaired := false }

/-- LINK_LOST (R588): no valid frame for 500 ms. -/
def execLinkLost (s : State) : Host.Outcome State Fault Refusal :=
  if s.tw.link = .paired then .next ((s.detach .lost).event 16) else .next s

/-- DETACH_FRAME (R596). -/
def execDetachFrame (bs : List Byte) (s : State) : Host.Outcome State Fault Refusal :=
  match s.deliver 0x12 0 bs with
  | none => .next s
  | some (s, _) => if s.tw.link = .paired then .next (s.detach .up) else .next s

/-- TWIN_CTRL.CMD = DETACH (R596). -/
def State.detachCommand (s : State) : State :=
  if s.tw.link = .paired then { s.sendFrame 0x12#8 [] with tw.detached := true }.detach .up else s

/-- TWIN_DETACH (R596). -/
def execTwinDetach (q : Requester) (s : State) : Host.Outcome State Fault Refusal :=
  .next (s.byWrite q 65 State.detachCommand)

/-! ## Acknowledgement and repeats (R586, R587) -/

/-- ACK_FRAME (R586): the frame acknowledged is no longer repeated; the ACK of a HANDOVER releases ROLE (R597). -/
def execAckFrame (bs : List Byte) (s : State) : Host.Outcome State Fault Refusal :=
  if !s.linkOpen then .next s
  else match parseFrame 0x3F 1 bs with
    | some (_, [seq]) =>
      let hand := s.tw.out.any fun f => f.seq == seq && f.typ == 0x11#8
      let s := { s with tw.out := s.tw.out.filter fun f => f.seq != seq }
      .next (if hand && s.tw.releasing then s.releaseRole else s)
    | _ => .next s

/-- MERIDIAN_RETRY (R586, R587): the oldest frame is repeated; after 4 repeats, or 10 while the link is down, it is
dropped and counted. -/
def execMeridianRetry (s : State) : Host.Outcome State Fault Refusal :=
  match s.tw.out with
  | [] => .next s
  | f :: fs =>
    let limit := if s.tw.link = .up ∨ s.tw.link = .paired then 4 else 10
    if f.repeats < limit then .next { s with tw.out := { f with repeats := f.repeats + 1 } :: fs }
    else .next { s with tw.out := fs, tw.linkErr := if s.tw.linkErr = 255#8 then 255#8 else s.tw.linkErr + 1#8 }

/-- MERIDIAN_REQUEST (R587): K28.5 activity wakes a twin in DOZE or NAP. -/
def execMeridianRequest (s : State) : Host.Outcome State Fault Refusal :=
  if s.powered 3 then .next (s.wakeEvent .meridian) else .next s

/-! ## SYNC (R593) -/

/-- Lane periods from a SYNC edge to the check twin's boundary. -/
def State.halfPeriod (s : State) : Nat := 200 * s.sv.travPeriod

/-- SYNC_EDGE (R593): in place, within 50 µs, it sets the boundary TRAV_PERIOD / 2 later; the first edge after pairing
moves the boundary once; any other is ignored. -/
def execSyncEdge (s : State) : Host.Outcome State Fault Refusal :=
  if s.tw.role ≠ .check ∨ s.pwr.vioLow then .next s
  else
    let d := ((s.sv.timeBase : Int) - s.halfPeriod).natAbs
    if s.tw.firstEdge ∨ d ≤ 20000 then
      .next { s with sv.timeBase := s.halfPeriod, tw.edgeSeen := true, tw.firstEdge := false, tw.syncFault := false }
    else .next s

/-- The twin's part of a traverse boundary: a check twin without an edge in place sets SYNC_FAULT, a principal drives
SYNC, the mark ages (R593, R598). -/
def State.twinBoundary (s : State) : State :=
  { s with tw.syncFault := s.tw.role == .check && !s.tw.edgeSeen, tw.edgeSeen := false,
           tw.syncDrive := s.tw.holds && s.tw.role == .principal, tw.markAge := s.tw.markAge + 1 }

/-! ## STATUS (R594, Table 21-3) -/

/-- The 20 bytes of a rod in STATUS. -/
def statusRod (v : RodValue) : List Byte :=
  leBytes 10 (v.count % 2 ^ 80).toNat ++ [v.rollover, 0#8] ++ leBytes 8 v.residue.toNat

def roleCode : Role → Nat
  | .solo => 0
  | .principal => 1
  | .check => 2

/-- TWIN_DEVIATION (Table 23-63). -/
def Twin.deviation (t : Twin) : W32 :=
  place 32 0 t.dev ||| placeB 32 24 t.devValid ||| placeB 32 25 t.devAlarm ||| place 32 26 t.wseq

/-- The STATUS payload of the traverse whose group has just closed. -/
def State.statusPayload (s : State) : List Byte :=
  leBytes 8 s.acctTc.toNat ++ leBytes 1 s.acctDest.toNat ++ leBytes 1 s.gradeNow.code ++ leBytes 1 (roleCode s.tw.role) ++
    [bit 8 s.tw.probation] ++ leBytes 4 0 ++ leBytes 4 s.tw.deviation.toNat ++ leBytes 4 0 ++
    ((s.ab.closed.toList.take 8).map fun r => statusRod r.val).flatten

/-- A rod of a STATUS payload. -/
def parseRod (p : List Byte) (r : Nat) : RodValue :=
  let b := p.drop (0x18 + 20 * r)
  { count := leNat (b.take 10), residue := BitVec.ofNat 64 (leNat ((b.drop 12).take 8)), rollover := b.getD 10 0#8,
    sat := false }

/-- A STATUS payload of 184 bytes. -/
def parseStatus (p : List Byte) : Option StatusRec :=
  if p.length = 184 then
    some { tc := BitVec.ofNat 64 (leNat (p.take 8)), dest := p.getD 8 0#8, grade := p.getD 9 0#8, role := p.getD 10 0#8,
           probation := p.getD 11 0#8 != 0#8, dev := BitVec.ofNat 32 (leNat ((p.drop 0x10).take 4)),
           rods := Vector.ofFn fun (r : Fin 8) => parseRod p r.val }
  else none

/-- The check twin takes a principal's STATUS as F(k); the principal copies DEV from the check twin's (R594, R595). -/
def State.takeStatus (s : State) (f : StatusRec) : State :=
  let s := { s with tw.statusIn := true }
  if s.tw.role = .check ∧ f.role = 1#8 then
    let m : TwinMark := { status := f, own := Vector.replicate 8 RodSt.zero, rates := Vector.replicate 4 0#64,
                          dest := 0#2, taken := false }
    { s with tw.mark := some m, tw.markAge := 0 }
  else if s.tw.role = .principal ∧ f.role = 2#8 then
    { s with tw.dev := field f.dev 0 24, tw.devValid := f.dev.getLsbD 24, tw.devAlarm := f.dev.getLsbD 25,
             tw.wseq := field f.dev 26 6 }
  else s

/-- STATUS_FRAME (R594). -/
def execStatusFrame (bs : List Byte) (s : State) : Host.Outcome State Fault Refusal :=
  match s.deliver 0x10 184 bs with
  | none => .next s
  | some (s, p) =>
    match parseStatus p with
    | some f => .next (s.takeStatus f)
    | none => .next s

/-- HANDOVER_FRAME (R597): the mark, and no holdoff. -/
def execHandoverFrame (bs : List Byte) (s : State) : Host.Outcome State Fault Refusal :=
  match s.deliver 0x11 184 bs with
  | none => .next s
  | some (s, p) =>
    match parseStatus p with
    | some f => .next { s.takeStatus f with tw.handover := true }
    | none => .next s

/-! ## Takeover (R597) -/

/-- The level of ROLE as the device sees it: after HANDOVER a fit twin asserts ROLE as soon as it sees it released. -/
def State.seeRole (s : State) (low : Bool) : State :=
  let s := { s with tw.lineLow := low }
  if !low && s.tw.handover && s.twinFit then s.assertRole true else s

/-- ROLE_LINE_CHANGE (R597): the deglitched level; the ball reads released while VIO is low (R67). -/
def execRoleLineChange (low : Bool) (s : State) : Host.Outcome State Fault Refusal :=
  .next (s.seeRole (low && !s.pwr.vioLow))

/-- ROLE_TAKEOVER (R597): a fit check twin, its holdoff passed with ROLE released, asserts ROLE. -/
def execRoleTakeover (s : State) : Host.Outcome State Fault Refusal :=
  .next (if s.twinFit && !s.tw.lineLow then s.assertRole true else s)

/-- REJOIN_WAIT_PASSED (R584): the last condition of fitness is met, and ROLE that has long been released is taken. -/
def execRejoinWaitPassed (s : State) : Host.Outcome State Fault Refusal :=
  let s := { s with tw.rejoin := true }
  .next (if s.twinFit && !s.tw.lineLow then s.assertRole true else s)

/-- HANDOVER_ACK_TIMEOUT (R597): the principal releases ROLE without the ACK. -/
def execHandoverAckTimeout (s : State) : Host.Outcome State Fault Refusal :=
  .next (if s.tw.releasing then s.releaseRole else s)

/-! ## Comparison (R595) -/

/-- Rod 0 minus rod 1 of a STATUS, in 2⁻⁶⁴ quanta. -/
def StatusRec.volume (f : StatusRec) : Int := (f.rods[0]).total - (f.rods[1]).total

/-- DEV in ppm, rounded and limited to ±(2²³ − 1). -/
def deviationOf (vc vp : Int) : BitVec 24 :=
  let n := if vp < 0 then -(1000000 * (vc - vp)) else 1000000 * (vc - vp)
  BitVec.ofInt 24 (max (-8388607) (min 8388607 (roundDiv n vp.natAbs)))

/-- A counted window forms DEV, its alarm and WSEQ. -/
def State.formDeviation (s : State) (cfg : List Byte) (vc vp : Int) : State :=
  if (vp.natAbs : Int) < (cfgField cfg 0x18 5 : Int) * 2 ^ 64 ∨ vp = 0 then s
  else
    let d := deviationOf vc vp
    let alarm := decide (cfgField cfg 0x12 2 < d.toInt.natAbs)
    let s := { s with tw.dev := d, tw.devValid := true, tw.wseq := s.tw.wseq + 1#6, tw.devAlarm := alarm }
    if alarm then s.eventOpen 16 else s

/-- A window that begins after the principal traverse of a STATUS. -/
def StatusRec.window (f : StatusRec) : TwinWindow :=
  { count := 0, startP := f.volume, lastP := f.volume, vc := 0, ok := true, lastTc := f.tc }

/-- One more pair of traverses joins the window, or a window begins after the present pair; without the principal's
STATUS the pair leaves the window uncounted. -/
def State.windowPair (s : State) (cfg : List Byte) (f : Option StatusRec) : State :=
  match s.tw.window with
  | none => { s with tw.window := f.map StatusRec.window }
  | some w =>
    let w := { w with count := w.count + 1, vc := w.vc + s.tw.ownVolume }
    let w := match f with
      | some f => { w with lastP := f.volume, lastTc := f.tc,
                           ok := w.ok && f.dest == 0#8 && s.acctDest == 0#2 && f.tc == w.lastTc + 1#64 }
      | none => { w with ok := false }
    if w.count < cfgField cfg 0x10 2 then { s with tw.window := some w }
    else
      let s := { s with tw.window := f.map StatusRec.window }
      if w.ok then s.formDeviation cfg w.vc (w.lastP - w.startP) else { s with tw.winSkip := true }

/-- The comparison of the traverse whose group has closed (R595); a window is discarded while perturbation is unlocked
(R600). -/
def State.compareTwin (s : State) : State :=
  match s.twinCfg with
  | none => s
  | some cfg =>
    if s.tw.role ≠ .check ∨ s.tw.link ≠ .paired ∨ s.tw.probation then { s with tw.window := none }
    else if s.pt.unlocked then { s with tw.window := none, tw.winSkip := s.tw.winSkip || s.tw.window.isSome }
    else s.windowPair cfg ((s.tw.mark.map TwinMark.status).filter fun _ => s.tw.statusIn)

/-! ## Adoption (R598, R599) -/

/-- The value with a given total, in 2⁻⁶⁴ quanta: COUNT, RESIDUE and ROLLOVER. -/
def valueOfTotal (t : Int) : RodValue :=
  let q := t / 2 ^ 64
  { count := q % countLimit, residue := BitVec.ofInt 64 (t % 2 ^ 64), rollover := BitVec.ofInt 8 (q / countLimit),
    sat := false }

/-- The half-slot increment at a rate, Q31.32 magnitude times TRAV_PERIOD / 2, truncated (R324, R598). -/
def halfSlot (rate : W64) (travPeriod : Nat) : Nat := rate.toInt.natAbs * (200 * travPeriod) / 400000000

/-- G_j in 2⁻⁶⁴ quanta for rod j: the quantity j / 2, in the direction of q (R323, R598). -/
def TwinMark.halfRod (m : TwinMark) (j : Nat) (travPeriod : Nat) (scale : W64) : Int :=
  let rate := m.rates.toList.getD (j / 2) 0#64
  let back := (m.rates.toList.getD 0 0#64).msb
  if m.dest = 0#2 ∧ (j % 2 == 1) = back then ((halfSlot rate travPeriod * scale.toNat : Nat) : Int) else 0

/-- The rods after the adoption with mark `m` (R598). -/
def State.adoptedRods (s : State) (m : TwinMark) : Vector RodSt 16 :=
  Vector.ofFn fun (r : Fin 16) =>
    let x := s.ab.closed[r]
    let line := ((halfSlot (m.rates.toList.getD 0 0#64) s.sv.travPeriod * x.scale.toNat : Nat) : Int)
    if h : r.val < 8 then
      let j : Fin 8 := ⟨r.val, h⟩
      let t := (m.status.rods[j]).total + (x.val.total - (m.own[j]).val.total) + m.halfRod r.val s.sv.travPeriod x.scale
      { x with val := valueOfTotal (t % (256 * countLimit * 2 ^ 64)) }
    else if r.val = 8 then
      (if m.dest = 1#2 then { x with val := x.val.settle 8 (x.val.exact + line) } else x)
    else if r.val = 9 then
      (if m.dest = 0#2 then { x with val := x.val.settle 9 (x.val.exact + line) } else x)
    else if r.val = 11 then
      let d := ((m.status.rods[0]).total - (m.own[0]).val.total) - ((m.status.rods[1]).total - (m.own[1]).val.total)
      { x with val := x.val.settle 11 (x.val.exact + d) }
    else x

/-- The adoption: one group, journaled; EVENT_FLAGS.TWIN is set and the change of rod 11 logged (R598). -/
def State.adoptRods (s : State) (m : TwinMark) : State :=
  let rods := s.adoptedRods m
  let changes : List (Rod × RodValue) :=
    ([0, 1, 2, 3, 4, 5, 6, 7, 8, 9, 11] : List Rod).filterMap fun r =>
      if rods[r] = s.ab.closed[r] then none else some (r, (rods[r]).val)
  let merged : Vector RodSt 16 := Vector.ofFn fun (r : Fin 16) =>
    if s.ab.touched.getLsbD r.val then s.ab.opened[r] else rods[r]
  let shadow (r : RodSt) (add : Nat) : RodSt :=
    { r with val := r.val.settle 0 (r.val.exact + ((add * r.scale.toNat : Nat) : Int)) }
  let q := m.rates.toList.getD 0 0#64
  let line := halfSlot q s.sv.travPeriod
  let sh := if m.dest = 3#2 then
      (if q.msb then s.ab.shadow.set 1 (shadow s.ab.shadow[1] line) else s.ab.shadow.set 0 (shadow s.ab.shadow[0] line))
    else s.ab.shadow
  let s := { s with ab.closed := rods, ab.opened := merged, ab.shadow := sh, ab.jseq := s.ab.jseq + 1 }
  let en : JEntry := { jseq := s.ab.jseq, byK3 := false, changes := changes, fig := some s.ab.fig }
  let s := s.request { kind := .journal en, payload := [], pages := none, early := false }
  s.eventOpen 16

/-- The adoption that is due at a group closure, under R598 for a new principal or R599 for a twin that returns. -/
def State.adoption (s : State) : State :=
  if s.tw.adopt then
    let s := { s with tw.adopt := false }
    match s.tw.mark with
    | some m =>
      let s := { s with tw.staleMark := s.tw.staleMark || decide (2 < s.tw.markAge) }
      s.adoptRods m
    | none => ({ s with tw.noMark := true })
  else if s.tw.adoptPaired ∧ s.tw.statusIn ∧ s.tw.markAge ≤ 1 then
    match s.tw.mark with
    | some m =>
      if s.tw.role = .check then
        ({ s with tw.adoptPaired := false, tw.probation := true, tw.probCount := 0#5 }).adoptRods m
      else s
    | none => s
  else s

/-! ## The twin's part of a group closure (R594, R595, R598, R599) -/

/-- The mark takes its own part at the group of the paired traverse (R594). -/
def State.takeOwn (s : State) : State :=
  match s.tw.mark with
  | some m =>
    if m.taken then s
    else
      let own : Vector RodSt 8 := Vector.ofFn fun (r : Fin 8) => s.ab.closed[(⟨r.val, by omega⟩ : Fin 16)]
      { s with tw.mark := some { m with own := own, rates := s.ab.fig.rates, dest := s.ab.fig.dest, taken := true } }
  | none => s

/-- Probation counts this own traverse (R599). -/
def State.countProbation (s : State) : State :=
  if !s.tw.probation then s
  else if s.acctDest = 0#2 ∧ s.tw.statusIn ∧ s.tw.link = .paired then
    let n := s.tw.probCount + 1#5
    if n = 16#5 then { s with tw.probation := false, tw.probCount := n, tw.window := none }
    else { s with tw.probCount := n }
  else { s with tw.probCount := 0#5 }

/-- After a group closure of K0–K1: the mark, the comparison, an adoption, and STATUS to the peer. -/
def State.twinClosure (s : State) : State :=
  let s := s.takeOwn
  let s := s.countProbation.compareTwin.adoption
  let s := if s.tw.en && s.tw.link == .paired then s.sendFrame 0x10#8 s.statusPayload else s
  { s with tw.statusIn := false, tw.ownVolume := 0 }

/-! ## SERVICE frames (R588) -/

/-- A 16-bit pointer of the SERVICE rings at 0xA000 of K2's port window: receive write and read, transmit write and
read, each counting slots (DESIGN CHOICE: no rule lays them out). -/
def State.ringPtr (s : State) (k : Nat) : Nat := leNat (s.prt.win.bytes 0#8 (0xA000 + 2 * k) 2)

def State.setRingPtr (s : State) (k v : Nat) : State :=
  { s with prt.win := s.prt.win.write 0#8 (0xA000 + 2 * k) (leBytes 2 v) }

/-- SERVICE_FRAME (R588): the payload enters the next of four receive slots; a frame that finds them all taken is not
delivered. -/
def execServiceFrame (bs : List Byte) (s : State) : Host.Outcome State Fault Refusal :=
  match s.deliver 0x20 1016 bs with
  | none => .next s
  | some (s', p) =>
    let w := s.ringPtr 0
    if (w + 65536 - s.ringPtr 1) % 65536 < 4 then
      let a := 0x8000 + 0x400 * (w % 4)
      .next (({ s' with prt.win := s'.prt.win.write 0#8 a (leBytes 8 p.length ++ p) }).setRingPtr 0 (w + 1))
    else .next s

/-- SERVICE frames that K2 has placed in the transmit ring are sent, up to `n` of them. -/
def State.sendService : Nat → State → State
  | 0, s => s
  | n + 1, s =>
    let r := s.ringPtr 3
    if r = s.ringPtr 2 then s
    else
      let a := 0x9000 + 0x400 * (r % 4)
      let len := min 1016 (leNat (s.prt.win.bytes 0#8 a 8))
      State.sendService n ((s.sendFrame 0x20#8 (s.prt.win.bytes 0#8 (a + 8) len)).setRingPtr 3 (r + 1))

end Sys2Proof.Machine
end

