-- ==== Sys2Proof/Machine/Groups.lean ====
section
/-! DEFINITION. Tally groups: what closing a group does to the rods, the journal, the outputs, the delivery and the
twin (R331, R335); the release of ROLE; the restore of the rods (R336). -/
namespace Sys2Proof.Machine

/-! ## Closing a group (R331, R335) -/

/-- The rods that the open group of an engine has changed. -/
def State.groupRods (s : State) (e : Eng) : BitVec 16 := s.ab.touched &&& groupMask e

/-- The closed rods once the group of `e` is closed: every rod's closed value takes its open value, in one step. -/
def State.closedAfter (s : State) (e : Eng) : Vector RodSt 16 :=
  Vector.ofFn fun (r : Fin 16) => if (s.groupRods e).getLsbD r.val then s.ab.opened[r] else s.ab.closed[r]

/-- The changes that the journal entry of a group holds. -/
def State.groupChanges (s : State) (e : Eng) : List (Rod × RodValue) :=
  (List.finRange 16).filterMap fun r =>
    if (s.groupRods e).getLsbD r.val then some (r, (s.ab.opened[r]).val) else none

/-- The group binds the SCALE of some rod (R329). -/
def State.groupBinds (s : State) (e : Eng) : Bool := s.ab.bound &&& groupMask e != 0#16

/-- The closed values take the open ones, and JSEQ advances. -/
def State.takeGroup (s : State) (e : Eng) : State :=
  let m := ~~~(groupMask e)
  { s with ab.closed := s.closedAfter e, ab.touched := s.ab.touched &&& m, ab.bound := s.ab.bound &&& m,
           ab.jseq := s.ab.jseq + 1 }

/-- What the Abacus keeps of the interval that K0–K1 account, the oldest one issued (R331, R335, R336). A group that
accounts none leaves its figures. -/
def State.takeFigures (s : State) : State :=
  match s.fl.incs with
  | [] => { s with fl.acct := none }
  | x :: xs => { s with fl.incs := xs, fl.acct := some x, ab.fig := s.ab.fig.account x }

/-- The journal entry of a closed group is asked for, and the rod record with it where a SCALE is bound. -/
def State.journalGroup (s : State) (e : Eng) (changes : List (Rod × RodValue)) (binds : Bool) : State :=
  let en : JEntry :=
    { jseq := s.ab.jseq, byK3 := e == .k3, changes := changes, fig := if e = .k01 then some s.ab.fig else none }
  let s := s.request { kind := .journal en, payload := [], pages := none, early := false }
  if binds then s.requestRodRecord else s

/-- What follows a closure: the pulse outputs, the delivery controller or its comparison, and the twin. -/
def State.afterClosure (s : State) (e : Eng) (old : Vector RodSt 16) : State :=
  let s := s.pulseClosure old
  if e = .k01 then s.deliveryClosure.twinClosure else s.compareBatch

/-- The group of an engine is closed (R331). A frozen Abacus closes nothing (R34); with BP = 11 nothing can be
journaled and no rod has advanced, so that nothing changes (R330). -/
def State.closeGroup (s : State) (e : Eng) : State :=
  if s.ab.frozen || s.st.bp == 3#2 then s
  else
    let changes := s.groupChanges e
    let binds := s.groupBinds e
    let old := s.ab.closed
    let s := s.takeGroup e
    let s := if e = .k01 then s.takeFigures else s
    (s.journalGroup e changes binds).afterClosure e old

/-! ## RELEASE (R597) -/

/-- TWIN_CTRL.CMD = RELEASE (R597): a principal closes its group, sends HANDOVER with the STATUS layout, stops driving
SYNC, and releases ROLE at the ACK or after 1 ms. An unpaired one, which no ACK can reach, releases at once. -/
def State.releaseCommand (s : State) : State :=
  if s.tw.role = .principal then
    let s := s.closeGroup .k01
    if s.tw.link = .paired then
      let s := s.sendFrame 0x11#8 s.statusPayload
      { s with tw.syncDrive := false, tw.releasing := true }
    else s.releaseRole
  else s

/-- TWIN_RELEASE (R597). -/
def execTwinRelease (q : Requester) (s : State) : Host.Outcome State Fault Refusal :=
  .next (s.byWrite q 65 State.releaseCommand)

/-! ## Restore of the rods (R336) -/

/-- Replays journal entries from number `n` upwards while they are found. -/
def Store.replay (st : Store) : Nat → Nat → Vector RodSt 16 × Figures × Nat → Vector RodSt 16 × Figures × Nat
  | 0, _, x => x
  | f + 1, n, (rods, fig, j) =>
    match st.journalEntry n with
    | none => (rods, fig, j)
    | some en =>
      let put (v : Vector RodSt 16) (c : Rod × RodValue) : Vector RodSt 16 :=
        let r : Rod := c.1
        v.set r { v[r] with val := c.2 }
      Store.replay st f (n + 1) (en.changes.foldl put rods, (en.fig.getD fig), n)

/-- The Abacus with its rods at given closed values and nothing open. -/
def Abacus.load (ab : Abacus) (rods : Vector RodSt 16) (fig : Figures) (jseq : Nat) (act : Bool) : Abacus :=
  { ab with closed := rods, opened := rods, touched := 0#16, bound := 0#16, fig := fig, jseq := jseq, frozen := false,
            sinceRecord := 0, activation := act }

/-- The Abacus restores the rods: record, journal, figures (R336). -/
def State.restoreRods (s : State) : State :=
  match s.st.rodLoad with
  | some (_, (_, r), conflict) =>
    let s := if conflict then s.noteConflict 2 else s
    let (rods, fig, j) := s.st.replay 128 (r.jseq + 1) (r.rods, r.fig, r.jseq)
    { s with ab := s.ab.load rods fig j r.activation, boot.rodsLoaded := true }
  | none =>
    let j := (s.st.journal.map fun e => e.jseq).foldl max 0
    let s := { s with ab := s.ab.load zeroRods Figures.zero j false, boot.rodsLoaded := true }
    (s.logHw 0x129 (BitVec.ofNat 32 j)).putRodRecord false

/-- What a reset of PD2 or of the whole device leaves of the Abacus: shadows zero, open groups lost (R333, R337). -/
def Abacus.reset (ab : Abacus) : Abacus :=
  { ab with opened := ab.closed, touched := 0#16, bound := 0#16, shadow := zeroRods, snap := zeroRods, snapSeq := 0#32,
            lastClose := none, activation := false, frozen := false }

end Sys2Proof.Machine
end

