-- ==== Sys2Proof/Machine/Window.lean ====
section
/-! DEFINITION. What the survey programs and the Reckoners write: the words of a chord window and the bytes of the
result page (R186, R201, R241, R395, R396). -/
namespace Sys2Proof.Machine

/-! ## Chord windows (Table 14-8) -/

/-- The Sense control cluster of a sheet. -/
def senseCtl (south : Bool) : Cluster := if south then .senseCtlS else .senseCtlN

/-- The bridge to a sheet of the Sense die. -/
def sheetBridge (south : Bool) : Bridge := if south then .senseS else .senseN

def chordBridge (c : Chord) : Bridge := if c.val < 10 then .senseN else .senseS

/-- The chord's island answers: its domain is powered, and neither its fence nor that of the Sense control island on
the way is up (R30, R32, R37). -/
def State.chordAnswers (s : State) (c : Chord) : Bool :=
  s.powered (chordDomain c) && !s.fenced (.chord c) && !s.fenced (senseCtl (decide (10 ≤ c.val)))

/-- The gate of the chord's correlator slice, and the offsets that it closes (Table 04-6). -/
def State.sliceOpen (s : State) (c : Chord) : Bool := s.clk.gateOpen.getLsbD (if c.val < 10 then 12 else 13)

def sliceWord (off : Nat) : Bool :=
  (decide (0x100 ≤ off) && decide (off < 0x120)) || (decide (0x800 ≤ off) && decide (off < 0x1000))

/-- A word takes effect in the chord island: a prediction counts for the boundary, and a gain word sets the range
(R186, R205, R261). -/
def ChordSt.applyWord (ch : ChordSt) (off : Nat) (v : W64) : ChordSt :=
  let ch := { ch with live := ch.live.set off v }
  if off = offPREDD then { ch with predFreshD := true }
  else if off = offPREDU then { ch with predFreshU := true }
  else if off = offRXG then { ch with rxgWritten := true, range := rgRange v }
  else ch

/-- A store to an RW word: held to the boundary while the survey runs, at once otherwise (R186, R201, R241, R260). It
takes the place of a write to the same word that is still held; reserved bits are ignored (R15). -/
def ChordSt.storeWord (ch : ChordSt) (run : Bool) (off : Nat) (v : W64) : ChordSt :=
  let v := v &&& chordMask off
  if run then { ch with heldW := ch.heldW.hold off v } else { ch with heldW := ch.heldW.erase off }.applyWord off v

def State.writeChord (s : State) (c : Chord) (off : Nat) (v : W64) : State :=
  if !s.chordAnswers c then s
  else if !(s.br.get (chordBridge c)).up then s.bridgeRefuse (chordBridge c)
  else if sliceWord off && !s.sliceOpen c then s
  else (s.modChord c fun ch => ch.storeWord s.sv.run off v).hop (chordHops c)

/-! ## The result page (Table 23-66) -/

/-- The VALUE field of an auxiliary entry with one byte replaced (R373). -/
def AuxEntry.setValueByte (x : AuxEntry) (k : Nat) (b : Byte) : AuxEntry :=
  { x with value := BitVec.ofNat 64 (leNat ((leBytes 8 x.value.toNat).set k b)) }

/-- A byte that K0–K1 store in the result page; the words of hardware take nothing (R396, R631). -/
def State.putPageByte (s : State) (h : Nat) (b : Byte) : State :=
  if s.fenced .memory then s
  else if h < 0x1580 ∨ 0x1C00 ≤ h then { s with page := s.page.set 0#8 h b }
  else if 0x1800 ≤ h ∧ h < 0x18C0 then
    let j : Fin 6 := ⟨(h - 0x1800) / 32 % 6, Nat.mod_lt _ (by decide)⟩
    { s with aux.entry := s.aux.entry.set j ((s.aux.entry[j]).setValueByte (h % 8) b) }
  else s

def State.putPageBytes (s : State) (h : Nat) : List Byte → State
  | [] => s
  | b :: bs => (s.putPageByte h b).putPageBytes (h + 1) bs

end Sys2Proof.Machine
end

