-- ==== Sys2Proof/Machine/Judge.lean ====
section
/-! DEFINITION. The survey program's judgement (ch. 10): the records that it needs, a traverse from its boundary to its
close, the checks of a pair, the ledger and the chord states. The Breino survey programs apply these rules (R282); the
model applies them as the owner collects its entries (DESIGN CHOICE, log 73). -/
namespace Sys2Proof.Machine

/-! ## Geometry and meter records (R315 to R317) -/

/-- 1 at the scale 2³². -/
def q32One : Int := 2 ^ 32

/-- The geometry record of a payload, where every field is in its range (Table 11-1). -/
def geoOf (bs : List Byte) : Option GeoRec :=
  let g : GeoRec :=
    { len := leIntAt bs 0x00 8, phi := leIntAt bs 0x08 8, weight := leIntAt bs 0x10 8, tau := leAt bs 0x18 5,
      dtau := leIntAt bs 0x20 8, groups := field (BitVec.ofNat 16 (leAt bs 0x28 2)) 0 6,
      lpf := field (BitVec.ofNat 16 (leAt bs 0x28 2)) 6 3 }
  let ok := decide (q32One ≤ 100 * g.len) && decide (g.len ≤ 4 * q32One) && decide (1745 * q32One ≤ 10000 * g.phi) &&
    decide (10000 * g.phi ≤ 13963 * q32One) && decide (0 ≤ g.weight) && decide (g.weight ≤ 2 * q32One) &&
    decide (g.dtau.natAbs ≤ 26214400)
  if ok then some g else none

/-- The meter record of a payload, where MIN_CHORDS and GAP_LIMIT are in their ranges (Table 11-2). -/
def meterOf (bs : List Byte) : Option MeterRec :=
  let m : MeterRec :=
    { area := leIntAt bs 0x00 8, minChords := leAt bs 0x08 1 % 32, gapLimit := leAt bs 0x0A 2 % 1024,
      vSubMin := leIntAt bs 0x10 8, qCutoff := leIntAt bs 0x18 8 }
  if 1 ≤ m.minChords ∧ m.minChords ≤ 20 ∧ 3 ≤ m.gapLimit ∧ m.gapLimit ≤ 600 then some m else none

/-! ## Result entries and pairs (R286, R295, Table 15-5) -/

/-- The marks of an entry, its time in ticks, and of a correlator result CYCLE and SNR (Tables 09-2, 15-5). -/
def Entry.marks (en : Entry) : BitVec 38 := field en.w1 0 38
def Entry.ticks (en : Entry) : Int := (field en.w0 0 40).toNat
def Entry.isUp (en : Entry) : Bool := en.w0.getLsbD 45
def Entry.listens (en : Entry) : Bool := en.w0.getLsbD 47
def Entry.lane (en : Entry) : BitVec 5 := field en.w0 48 5
def Entry.gradeCode (en : Entry) : BitVec 2 := field en.w0 53 2
def Entry.range (en : Entry) : BitVec 3 := field en.w0 55 3
def Entry.peak (en : Entry) : BitVec 6 := field en.w0 58 6
def Entry.cycle (en : Entry) : Int := (field en.w2 40 3).toInt
def Entry.snr (en : Entry) : Nat := (field en.w3 12 10).toNat

/-- The marks of shots that were not fired (Tables 07-10, 08-11, 09-4, 10-1). -/
def marksUnfired : BitVec 38 :=
  Mark.late ||| Mark.profileBad ||| Mark.codeFault ||| Mark.slotClash ||| Mark.noPred ||| Mark.blankSkip ||| Mark.rxBad |||
    Mark.noLane ||| Mark.winBad ||| Mark.corrBad

/-- The marks that make a shot invalid: NO_ARRIVAL in crossing timing alone, UNSURE under code-division firing alone
(Tables 07-10, 08-11, 09-4, 10-1). -/
def marksInvalid (grid cdiv : Bool) : BitVec 38 :=
  marksUnfired ||| Mark.driveFault ||| Mark.aborted ||| Mark.noStop ||| Mark.clipped ||| Mark.clamped ||| Mark.noPeak |||
    Mark.peakLimit ||| Mark.edgeLag ||| markIf (!grid) Mark.noArrival ||| markIf cdiv Mark.unsure

/-- An entry takes its place in the pair, that of an earlier one of its direction such as a NO_PRED entry (R293). -/
def Pair.put (p : Pair) (en : Entry) : Pair := if en.isUp then { p with up := some en } else { p with down := some en }

def Pair.entries (p : Pair) : List Entry := p.down.toList ++ p.up.toList

/-- Both shots have entries, neither of them a NO_PRED that the sequential path has still to replace (R293). -/
def Pair.collected (p : Pair) : Bool :=
  p.down.isSome && p.up.isSome && p.entries.all fun en => !anyMark en.marks Mark.noPred

/-- The two entries of a complete pair (R295). -/
def Pair.complete (p : Pair) (grid cdiv : Bool) : Option (Entry × Entry) :=
  match p.down, p.up with
  | some d, some u => if anyMark (d.marks ||| u.marks) (marksInvalid grid cdiv) then none else some (d, u)
  | _, _ => none

/-! ## A traverse (R284 to R289) -/

/-- The geometry record under which a chord may be judged: valid, and with the LPF of the receive entries (R317). -/
def ChordCfg.usable (k : ChordCfg) : Option GeoRec := if k.lpfOk then k.geo else none

/-- What is fixed for a chord at a boundary. -/
def State.chordCfg (s : State) (c : Chord) : ChordCfg :=
  let ch := s.chord c
  let geo := s.fl.geo[c]
  let lpf (off : Nat) : Nat := rxLpf (ch.live.get off)
  { enabled := s.sv.chordEn.getLsbD c.val, half := dpHalf (ch.live.get (8 * s.sv.band.toNat)),
    snrMin := ccSnrMin (ch.live.get offCORRCFG), geo := geo,
    lpfOk := geo.all fun g => g.lpf.toNat == lpf offRXD && g.lpf.toNat == lpf offRXU }

/-- The traverse that begins at a boundary. -/
def State.newTraverse (s : State) : Traverse :=
  { tc := s.sv.tc, startedAt := s.sv.boundaryAt, ended := none, void := false, grid := s.sv.grid, cdiv := s.sv.cdiv, late := s.sv.lateStart,
    test := s.pt.travTest, abandoned := s.sv.afterWarning, fired := false, order := [], owed := 0,
    pairs := Vector.replicate 20 ⟨none, none⟩, cfg := Vector.ofFn s.chordCfg, meter := s.fl.meter, fluid := s.fl.fluid }

/-- The traverse of a number, changed. -/
def State.modTraverse (s : State) (tc : W64) (f : Traverse → Traverse) : State :=
  { s with sv.traverses := s.sv.traverses.map fun t => if t.tc = tc then f t else t }

/-- The traverse in progress, and every one that has not closed, is abandoned (R289). -/
def State.abandonTraverses (s : State) : State :=
  { s with sv.traverses := s.sv.traverses.map fun t => { t with abandoned := true } }

/-- Shots that the owner has fired join their traverse; the first traverse fired after the power-fail warning is not
abandoned, nor are those after it (R286, R287, R289, R311). -/
def State.scheduleShots (s : State) (cmds : List ShotCmd) : State :=
  let fired := cmds.filter fun c => !c.listen
  match fired with
  | [] => s
  | c :: _ =>
    let resumed := s.sv.afterWarning
    let s : State := { s with sv.afterWarning := false }
    s.modTraverse c.tc fun t =>
      { t with fired := true, order := t.order ++ fired.map fun c => (c.chord, c.up), owed := t.owed + fired.length,
               abandoned := t.abandoned && !(resumed && !t.fired) }

/-- A collected entry joins its traverse; an ARM's is not of a pair. -/
def Traverse.take (t : Traverse) (en : Entry) : Traverse :=
  { t with owed := t.owed - 1, pairs := t.pairs.set en.chord ((t.pairs[en.chord]).put en) }

/-- The owner has collected the entry of every shot scheduled in the traverse, as far as the entries tell: both shots of
every enabled chord, and none owed (R287). In a traverse that started late nothing is scheduled (R288). -/
def Traverse.full (t : Traverse) : Bool :=
  t.owed == 0 && (t.late || allChords.all fun c => !(t.cfg[c]).enabled || (t.pairs[c]).collected)

/-! ## The checks (R297 to R300) -/

/-- Ticks of one second (R13). -/
def tickRate : Int := 26214400000000

/-- One carrier period in ticks, T (R297). -/
def carrier (half : Nat) : Int := 2 * half * 65536

/-- A difference of Δt lies within L_Δ (R298): DT_ABS counts 262.144 ticks, DT_REL 1/256 of |Δt_ref|. -/
def State.dtNear (s : State) (half : Nat) (ref d : Int) : Bool :=
  decide (2 * (d.natAbs : Int) < carrier half) &&
    decide (32000 * d.natAbs < 8388608 * s.sv.dtAbs.toNat + 125 * s.sv.dtRel.toNat * ref.natAbs)

/-- |E_S| < T / 2 for delay-corrected times (R299), in whole numbers: t̄ = a / c̄ with a = L × tickRate. The formula has
no value where a time is not positive: the check then fails (DESIGN CHOICE, log 74). -/
def sumNear (half : Nat) (len sos td tu : Int) : Bool :=
  let a := len * tickRate
  let p := td * tu
  decide (0 < td) && decide (0 < tu) && decide (0 < sos) &&
    decide (2 * ((2 * a * sos * p - a * a * (td + tu)).natAbs : Int) < carrier half * (sos * sos * p))

/-- Which checks a pair passes. -/
structure Checks where
  dt : Bool
  sum : Bool
  cycle : Bool
  deriving DecidableEq, Repr

def Checks.all (k : Checks) : Bool := k.dt && k.sum && k.cycle

/-- The checks of a pair with times `td` and `tu` against a chord's ledger; a check without its reference is not run. -/
def State.checks (s : State) (ch : ChordSt) (half : Nat) (g : GeoRec) (td tu : Int) (cycle : Bool) : Checks :=
  { dt := match ch.dtRef with
      | some r => s.dtNear half r (tu - td - r)
      | none => true,
    sum := match ch.sos with
      | some c => sumNear half g.len c (td - g.tau) (tu - g.tau)
      | none => true,
    cycle := cycle }

/-! ## The judgement (R301, R302, R305) -/

/-- What the judgement says of a pair. -/
inductive Verdict where
  | incomplete | passed | corrected | reacquired | rejected
  deriving DecidableEq, Repr

/-- A judged pair: the accepted times, the checks, and whether it counts toward re-acquisition. -/
structure Judged where
  verdict : Verdict
  td : Int
  tu : Int
  checks : Checks
  counted : Bool
  deriving DecidableEq, Repr

def Judged.none : Judged := ⟨.incomplete, 0, 0, ⟨true, true, true⟩, false⟩

def Judged.accepted (j : Judged) : Bool := j.verdict == .passed || j.verdict == .corrected || j.verdict == .reacquired

/-- The correlator confirms an offset of one whole period on a shot (R270). -/
def Entry.confirms (en : Entry) (snrMin : Nat) : Bool :=
  en.cycle.natAbs == 1 && decide (snrMin ≤ en.snr) &&
    !anyMark en.marks (Mark.noPeak ||| Mark.peakLimit ||| Mark.edgeLag ||| Mark.noNoise)

/-- The times of a pair with a confirmed offset taken off one shot (R270, R301). -/
def correctedTimes (k : ChordCfg) (d u : Entry) : Option (Int × Int) :=
  if d.confirms k.snrMin ∧ u.cycle = 0 then some (d.ticks - d.cycle * carrier k.half, u.ticks)
  else if u.confirms k.snrMin ∧ d.cycle = 0 then some (d.ticks, u.ticks - u.cycle * carrier k.half)
  else none

/-- The pair counts toward re-acquisition: it fails the Δt check alone, and its Δt is near enough (R305). "Within" is read
as the strict comparison of R298 (DEDUCED, log 74). -/
def State.countsReacq (s : State) (ch : ChordSt) (half : Nat) (dt : Int) (k : Checks) : Bool :=
  match ch.dtRef with
  | some r =>
    !k.dt && k.sum && k.cycle && decide (((dt - r).natAbs : Int) < carrier half) &&
      ch.reacqDt.all fun p => s.dtNear half r (dt - p)
  | none => false

/-- The judgement of a complete pair (R302). -/
def State.judgePair (s : State) (t : Traverse) (k : ChordCfg) (g : GeoRec) (ch : ChordSt) (d u : Entry) : Judged :=
  let cyc := !t.grid || (d.cycle == 0 && u.cycle == 0)
  let ck := s.checks ch k.half g d.ticks u.ticks cyc
  let counted := s.countsReacq ch k.half (u.ticks - d.ticks) ck
  let due := counted && s.sv.reacq != 0#3 && decide (s.sv.reacq.toNat ≤ ch.reacqCount.toNat + 1)
  let plain (v : Verdict) : Judged := ⟨v, d.ticks, u.ticks, ck, counted⟩
  if ck.all then plain .passed
  else
    match (if t.grid && !t.cdiv then correctedTimes k d u else none) with
    | some (td, tu) =>
      let c := s.checks ch k.half g td tu true
      if c.dt && c.sum then ⟨.corrected, td, tu, ck, false⟩ else plain (if due then .reacquired else .rejected)
    | none => plain (if due then .reacquired else .rejected)

/-- The judgement of a chord at the close of a traverse; no pair of an abandoned traverse, of one that started late, or
of a chord without a usable geometry record is judged (R288, R289, R317). -/
def State.judgeChord (s : State) (t : Traverse) (c : Chord) (ch : ChordSt) : Judged :=
  let k := t.cfg[c]
  if t.abandoned || t.late || !k.enabled then Judged.none
  else match (t.pairs[c]).complete t.grid t.cdiv, k.usable with
    | some (d, u), some g => s.judgePair t k g ch d u
    | _, _ => Judged.none

/-! ## The ledger (R283, R303 to R305, R308) -/

/-- A chord enters probation: Δt_ref and the re-acquisition count are cleared, and, unless it enters with its ledger
entry kept, everything else of the entry (R308). -/
def ChordSt.enterProbation (ch : ChordSt) (f : ProbFrom) : ChordSt :=
  { ch with state := .probation, probFrom := f, probCount := 0#4, seedAt := none, seedTimes := none, dtRef := none,
            reacqCount := 0#3, reacqDt := none, sos := if f = .held then ch.sos else none,
            times := if f = .held then ch.times else none, lastAccept := if f = .held then ch.lastAccept else none }

/-- c̄ after an accepted pair with delay-corrected times (R303), in 2⁻³² m/s; the spec states neither its width nor its
rounding: a free direction. Without positive times the pair has no speed of sound, and c̄ stays. -/
def State.nextSos (s : State) (c : Chord) (len td tu : Int) (old : Option Int) : Option Int :=
  if td ≤ 0 ∨ tu ≤ 0 then old
  else
    let n := len * tickRate * (td + tu)
    let d := 2 * td * tu
    match old with
    | none => some (s.roundFree c.val n.toNat d.toNat)
    | some x =>
      let k := s.sv.sosShift.toNat
      some (s.roundFree c.val (x * (2 ^ k - 1) * d + n).toNat (d * 2 ^ k).toNat)

/-- An accepted pair updates Δt_ref, c̄ and the re-acquisition count (R303). -/
def State.acceptPair (s : State) (c : Chord) (g : GeoRec) (j : Judged) (ch : ChordSt) : ChordSt :=
  { ch with dtRef := some (j.tu - j.td), sos := s.nextSos c g.len (j.td - g.tau) (j.tu - g.tau) ch.sos,
            reacqCount := 0#3, reacqDt := none }

/-- A pair that is not accepted changes nothing but the re-acquisition count (R303, R305). -/
def ChordSt.refusePair (ch : ChordSt) (j : Judged) : ChordSt :=
  if j.counted then { ch with reacqCount := if ch.reacqCount = 7#3 then 7#3 else ch.reacqCount + 1#3,
                              reacqDt := some (j.tu - j.td) }
  else { ch with reacqCount := 0#3, reacqDt := none }

/-- HOLD_TIME has passed between two readings of the elapsed counter; the field counts 0.1 s and is limited to 1 to 600.
The counter's periods are converted with the trim (R304, R339, R513, Table 23-30). -/
def State.holdPassed (s : State) (since : BitVec 48) : Bool :=
  decide ((32768 * max 1 (min 600 s.sv.holdTime.toNat) : Int) * (2097152 - s.rtc.trimNow.toInt) ≤
    10 * 2097152 * (s.rtc.elapsed - since).toNat)

/-- HOLD_TIME has passed since a moment, or there is none. -/
def State.holdOver (s : State) (since : Option (BitVec 48)) : Bool := (since.map s.holdPassed).getD true

/-- A probation chord (R308): the first accepted pair seeds; each later one accepted without CORRECTED or REACQUIRED
counts, any other outcome clears the count. -/
def State.judgeProbation (s : State) (t : Traverse) (c : Chord) (g : GeoRec) (ch : ChordSt) (j : Judged) : ChordSt :=
  let ch := if ch.probFrom = ProbFrom.held ∧ s.holdOver ch.lastAccept then { ch with probFrom := ProbFrom.failed } else ch
  if j.accepted then
    let n : BitVec 4 := if ch.seedAt.isNone || j.verdict != .passed then 0#4
      else if ch.probCount = 8#4 then 8#4 else ch.probCount + 1#4
    { s.acceptPair c g j ch with probCount := n, seedAt := some t.startedAt, seedTimes := some (j.td - g.tau, j.tu - g.tau) }
  else if ch.seedAt.isSome ∧ s.holdOver ch.seedAt then
    ch.enterProbation (if ch.probFrom = ProbFrom.held then ProbFrom.failed else ch.probFrom)
  else { ch.refusePair j with probCount := 0#4 }

/-- ACTIVE and HELD chords (Table 10-5). -/
def State.judgeHeld (s : State) (t : Traverse) (c : Chord) (g : GeoRec) (ch : ChordSt) (j : Judged) : ChordSt :=
  if j.accepted then
    { s.acceptPair c g j ch with state := .active, lastAccept := some t.startedAt, times := some (j.td - g.tau, j.tu - g.tau) }
  else { ch.refusePair j with state := if s.holdOver ch.lastAccept then .failed else .held }

/-- What a chord's pair is judged by: from FAILED, by the cycle check alone, with an empty ledger (R308; DEDUCED, log
74). -/
def ChordSt.judgedAs (ch : ChordSt) : ChordSt := if ch.state = .failed then ch.enterProbation .failed else ch

/-- The verdict on a chord: nothing is corrected or re-acquired from FAILED, where a pair either passes or does not. -/
def State.verdictOn (s : State) (t : Traverse) (c : Chord) (ch : ChordSt) : Judged :=
  let j := s.judgeChord t c ch.judgedAs
  if ch.state = .off then Judged.none
  else if ch.state = .failed ∧ j.verdict = .corrected then { j with verdict := .rejected }
  else j

/-- One chord at the close of a traverse (Table 10-5). -/
def State.judge (s : State) (t : Traverse) (c : Chord) (ch : ChordSt) (j : Judged) : ChordSt :=
  let g := (t.cfg[c]).usable.getD ⟨0, 0, 0, 0, 0, 0#6, 0#3⟩
  match ch.state with
  | .off => ch
  | .active => s.judgeHeld t c g ch j
  | .held => s.judgeHeld t c g ch j
  | .failed => if j.accepted then s.judgeProbation t c g ch.judgedAs j else ch
  | .probation => s.judgeProbation t c g ch j

/-- Eight counted traverses: the chord is ACTIVE from this boundary on (R309). -/
def ChordSt.activate (ch : ChordSt) : ChordSt :=
  if ch.state = .probation ∧ ch.probCount = 8#4 then
    { ch with state := .active, lastAccept := ch.seedAt, times := ch.seedTimes, seedAt := none, seedTimes := none }
  else ch

/-- The ledger entry is taken from a copy, where there is one. -/
def ChordSt.reload (ch : ChordSt) (l : Option Ledger) : ChordSt :=
  match l with
  | some k =>
    { ch with state := k.state, probFrom := k.probFrom, probCount := k.probCount, lastAccept := k.lastAccept,
              seedAt := k.seedAt, dtRef := k.dtRef, sos := k.sos, times := k.times, seedTimes := k.seedTimes,
              reacqCount := k.reacqCount, reacqDt := k.reacqDt }
  | none => ch

/-- The chord as a traverse judges it: a chord that has been turned OFF since it was fired has its entry of that moment
(R310). -/
def ChordSt.judgedIn (ch : ChordSt) (t : Traverse) (c : Chord) : ChordSt :=
  if ch.state = .off ∧ (t.cfg[c]).enabled then ch.reload ch.last else ch

/-- A judged chord goes back: that of an OFF chord only into the entry kept aside. -/
def ChordSt.putJudged (ch w : ChordSt) : ChordSt :=
  if ch.state = .off then { ch with last := ch.last.map fun _ => w.ledger } else { w with saved := none }

/-- The ledger of a chord is lost (R281, R308, R407). A chord that stands in probation from OFF stays so. -/
def ChordSt.emptyLedger (ch : ChordSt) : ChordSt :=
  if ch.state = .off then ch
  else if ch.state = .probation ∧ ch.probFrom = .off then ch.enterProbation .off
  else ch.enterProbation .failed

/-! ## The traverse block (R307, R311) -/

/-- The chord contributes held values: HELD, or in probation with its held times (Table 10-4, R308). -/
def ChordSt.isHeld (ch : ChordSt) : Bool :=
  ch.state == .held || (ch.state == .probation && ch.probFrom == .held)

/-- The times of a chord in the block, before τ is removed (R311, R629): the held times, or the accepted ones. -/
def blockTimes (g : GeoRec) (ch : ChordSt) (j : Judged) : Option (BitVec 40 × BitVec 40) :=
  if ch.isHeld then ch.times.map fun p => (BitVec.ofInt 40 (p.1 + g.tau), BitVec.ofInt 40 (p.2 + g.tau))
  else if j.accepted then some (BitVec.ofInt 40 j.td, BitVec.ofInt 40 j.tu)
  else none

/-- The lowest grade among the shots of a traverse that were fired (R124); with none, the grade in force. -/
def State.traverseGrade (s : State) (t : Traverse) : BitVec 2 :=
  let fired := (t.pairs.toList.flatMap Pair.entries).filter fun en => !anyMark en.marks marksUnfired
  match fired with
  | [] => BitVec.ofNat 2 s.gradeNow.code
  | l => l.foldl (fun g en => if g < en.gradeCode then en.gradeCode else g) 0#2

/-- One chord of the block, its state as it is after the judgement. The gain range is that of the down shot where it has
an entry, that of the up shot otherwise; without a shot it is free. -/
def State.chordRec (s : State) (t : Traverse) (c : Chord) (ch : ChordSt) (j : Judged) (grade : BitVec 2) : ChordRec :=
  let p := t.pairs[c]
  let k := t.cfg[c]
  let bad := j.verdict == .rejected
  { times := blockTimes (k.geo.getD ⟨0, 0, 0, 0, 0, 0#6, 0#3⟩) ch j,
    laneDn := p.down.map Entry.lane, laneUp := p.up.map Entry.lane,
    range := (p.entries.head?.map Entry.range).getD (field (s.free (20 + c.val)) 0 3),
    state := ch.state, probFrom := ch.probFrom, probCount := ch.probCount, grade := grade,
    peakDn := (p.down.map Entry.peak).getD 0#6, peakUp := (p.up.map Entry.peak).getD 0#6,
    corrected := j.verdict == .corrected, rejected := bad, dtFail := bad && !j.checks.dt, sumFail := bad && !j.checks.sum,
    cycleFail := bad && !j.checks.cycle, reacquired := j.verdict == .reacquired, held := ch.isHeld,
    noGeom := k.enabled && k.usable.isNone, fenced := s.fenced (.chord c),
    marksDn := ((p.down.map Entry.marks).getD 0#38).setWidth 64, marksUp := ((p.up.map Entry.marks).getD 0#38).setWidth 64,
    accepted := j.accepted }

/-- The chords that are ACTIVE or HELD (R307). -/
def validChords (recs : Vector ChordRec 20) : Nat :=
  recs.toList.countP fun r => r.state == .active || r.state == .held

/-- The prediction words of an accepted pair (R261, R303). -/
def State.writePredictions (s : State) (c : Chord) (j : Judged) : State :=
  let word (t : Int) : W64 := place 64 0 (BitVec.ofInt 40 t) ||| placeB 64 40 true
  if j.accepted then (s.writeChord c offPREDD (word j.td)).writeChord c offPREDU (word j.tu) else s

/-- The owner judges every chord of a traverse and forms its block (R302, R311). -/
def State.judgeTraverse (s : State) (t : Traverse) : State × TravBlock :=
  let ws : Vector ChordSt 20 := Vector.ofFn fun c => (s.chord c).judgedIn t c
  let js : Vector Judged 20 := Vector.ofFn fun c => s.verdictOn t c ws[c]
  let ws : Vector ChordSt 20 := Vector.ofFn fun c => s.judge t c ws[c] js[c]
  let recs : Vector ChordRec 20 := Vector.ofFn fun c => s.chordRec t c ws[c] js[c] (s.traverseGrade t)
  let r := s.mapChords fun c ch => ch.putJudged ws[c]
  let r := allChords.foldl (fun r c => r.writePredictions c js[c]) r
  (r.usedFree 40,
    { tc := t.tc, order := t.order, grade := s.traverseGrade t, abandoned := t.abandoned, late := t.late, test := t.test,
      validChords := validChords recs, recs := recs })

end Sys2Proof.Machine
end

