-- ==== Sys2Proof/Machine/Flow.lean ====
section
/-! DEFINITION. The flow computation of K0–K1 (ch. 11): the records in force, velocities, quadrature, substitution and
contour figures, the destination of a traverse, the result page, and the increments of the intervals. Breino metrology
firmware, fixed in the image, does this; the model does it as the traverse closes (DESIGN CHOICE, log 73). -/
namespace Sys2Proof.Machine

/-! ## The records in force (R315 to R317, R341, R367) -/

/-- What a record says now; a conflict of its copies is noted where that has changed (R462). -/
def State.reread {α : Type} [DecidableEq α] (s : State) (id : Nat) (parse : List Byte → Option α) (old : Option α) :
    State × Option α :=
  let new := (s.st.load id).bind parse
  (if new = old then s else (s.loadRecord id).1, new)

/-- A chord's geometry record; a change discards its blocks (R320). -/
def State.loadGeo (s : State) (c : Chord) : State :=
  let (s, g) := s.reread (0x300 + c.val) geoOf s.fl.geo[c]
  if g = s.fl.geo[c] then s
  else { s with fl.geo := s.fl.geo.set c g, fl.subs := s.fl.subs.set c SubChord.empty }

def State.loadMeter (s : State) : State :=
  let (s, m) := s.reread 0x314 meterOf s.fl.meter
  { s with fl.meter := m }

/-- The fluid record, its defaults where it is absent; a change sets DI_s to 1000 (R341, R342, R357). -/
def State.loadFluid (s : State) : State :=
  let (s, r) := s.reread 0x315 fluidOf (if s.fl.fluid = FluidRec.default then none else some s.fl.fluid)
  let new := r.getD FluidRec.default
  if new = s.fl.fluid then s else { s with fl.fluid := new, fl.fs.diS := 1000 * 2 ^ 16 }

def State.loadFront (s : State) : State :=
  let (s, f) := s.reread 0x316 (fun bs => some (frontOf bs)) s.fl.front
  { s with fl.front := f }

/-- The metrological records as they are at a boundary (R317, R341). -/
def State.loadRecords (s : State) : State :=
  ((allChords.foldl (fun (s : State) c => s.loadGeo c) s).loadMeter.loadFluid).loadFront

/-! ## The substitution record (R320, Table 11-6) -/

/-- The slot of the `k`-th complete block, the newest being the 0th. -/
def SubChord.slot (x : SubChord) (k : Nat) : Nat := (x.newest + 10 - k) % 10

/-- The block in slot `b`. -/
def SubChord.at (x : SubChord) (b : Nat) : Option SubBlock := x.done[(x.newest + 10 - b) % 10]?

/-- The payload; the sums of a slot that holds no block are free values. -/
def State.subPayload (s : State) : List Byte :=
  let sums (c : Chord) (b : Nat) : List Byte :=
    match (s.fl.subs[c]).at b with
    | some k => leBytes 8 (BitVec.ofInt 64 k.v).toNat ++ leBytes 8 (BitVec.ofInt 64 k.g).toNat
    | none =>
      let i := 2 * (10 * c.val + b)
      leBytes 8 (s.free i).toNat ++ leBytes 8 (s.free (i + 1)).toNat
  allChords.flatMap (fun c => (List.range 10).flatMap (sums c)) ++
    allChords.flatMap (fun c => leBytes 1 (s.fl.subs[c]).done.length) ++
    allChords.flatMap (fun c => leBytes 1 (s.fl.subs[c]).newest) ++ List.replicate 24 0#8

/-- One chord of the record. -/
def subOf (bs : List Byte) (c : Chord) : SubChord :=
  let newest := leAt bs (0xC94 + c.val) 1 % 10
  let block (k : Nat) : SubBlock :=
    let off := 0xA0 * c.val + 0x10 * ((newest + 10 - k) % 10)
    ⟨leIntAt bs off 8, leIntAt bs (off + 8) 8⟩
  { count := 0, cur := ⟨0, 0⟩, done := (List.range (min 10 (leAt bs (0xC80 + c.val) 1))).map block, newest := newest }

/-- The blocks are restored at boot. -/
def State.loadSubs (s : State) : State :=
  match s.loadRecord 3 with
  | (s, some bs) => { s with fl.subs := Vector.ofFn fun c => subOf bs c }
  | (s, none) => s

/-! ## Velocity and speed of sound (R312 to R314) -/

/-- n / d for a divisor of either sign, rounded freely; without a value, and so free, at a zero divisor. -/
def State.quotFree (s : State) (i : Nat) (n d : Int) : Int :=
  if d = 0 then (s.free i).toInt else s.roundFreeInt i (n * d.sign) d.natAbs

/-- cos φ at the scale 2⁶⁴, as sin (π / 2 − φ). -/
def GeoRec.cosine (g : GeoRec) : Int := fxSin (fxPi / 2 - g.phi * 2 ^ 32)

/-- v and c of a chord from its times in ticks, with the deviation of the crystal in 10⁻⁷: t″ = n / D (R312, R313). Each
is within 2⁻³² m/s of the formula by a free direction (R314). -/
def State.chordSpeed (s : State) (c : Chord) (g : GeoRec) (dev : Int) (td tu : Int) : Int × Int :=
  let f := 10 ^ 7 + dev
  let d := 2 * f
  let nd := 2 * 10 ^ 7 * td + (g.dtau - 2 * g.tau) * f
  let nu := 2 * 10 ^ 7 * tu - (g.dtau + 2 * g.tau) * f
  let k := g.len * tickRate * d
  (s.quotFree (2 * c.val) (k * (nu - nd) * 2 ^ 64) (2 * g.cosine * nd * nu),
   s.quotFree (2 * c.val + 1) (k * (nd + nu)) (2 * nd * nu))

/-- ε of a traverse in 10⁻⁷: XHF_DEV in CRYSTAL, 0 in every other grade (R312). -/
def State.traverseDev (s : State) (grade : BitVec 2) : Int := if grade = 1#2 then s.clk.xhfDev.toInt else 0

/-! ## The flow set (R318, R321) -/

/-- What a chord contributes: nothing, its own v and c, or a substitution (Table 10-4). -/
inductive Part where
  | absent
  | own (v c : Int)
  | substituted
  | subNone
  deriving DecidableEq, Repr

/-- A chord whose v is substituted: FAILED, or in probation from FAILED. -/
def ChordRec.failed (r : ChordRec) : Bool := r.state == .failed || (r.state == .probation && r.probFrom == .failed)

/-- The part of a chord in the flow of a traverse. A chord in probation with its held values counts with the HELD ones in
flow (R308, Table 10-4). -/
def State.chordPart (s : State) (k : ChordCfg) (dev : Int) (c : Chord) (r : ChordRec) : Part :=
  match k.usable with
  | none => .absent
  | some g =>
    if r.failed then (if (s.fl.subs[c]).done.isEmpty then .subNone else .substituted)
    else match r.times with
      | some (td, tu) =>
        let p := s.chordSpeed c g dev td.toNat tu.toNat
        .own p.1 p.2
      | none => .absent

def Part.v? : Part → Option Int
  | .own v _ => some v
  | _ => none

def Part.c? : Part → Option Int
  | .own _ c => some c
  | _ => none

/-- r_i × v̄ with v̄ = `sum` / `n` (R320, R321); without a value, and so free, where the sums of the blocks have none. -/
def State.substitute (s : State) (c : Chord) (sum : Int) (n : Nat) : Int :=
  let b := (s.fl.subs[c]).done
  s.quotFree c.val ((b.map SubBlock.v).sum * sum) ((b.map SubBlock.g).sum * n)

/-- What the flow computation finds in a traverse. -/
structure Figured where
  parts : Vector Part 20
  /-- v and c as each chord contributes them. -/
  v : Vector (Option Int) 20
  /-- q before the cutoff, `none` without a meter record. -/
  q : Option Int
  sos : Option Int
  spread : Int
  pf : Option Int
  sym : Option Int
  sw : Option Int
  deriving DecidableEq, Repr

/-- The sum and the number of the velocities of a list of chords that have their own. -/
def ownSum (parts : Vector Part 20) (sel : Chord → Bool) : Int × Nat :=
  let vs := (allChords.filter sel).filterMap fun c => (parts[c]).v?
  (vs.sum, vs.length)

/-- q = A × Σ w v × W_D / W_S in 2⁻³² m³/s; where W_S is zero the formula has no value: it is free (R318). -/
def State.lineRate (s : State) (t : Traverse) (m : MeterRec) (v : Vector (Option Int) 20) : Int :=
  let weight (c : Chord) : Int := (((t.cfg[c]).geo.map fun g => g.weight).getD 0)
  let wd := (allChords.map weight).sum
  let ws := (allChords.map fun c => if (v[c]).isSome then weight c else 0).sum
  let wv := (allChords.map fun c => weight c * (v[c]).getD 0).sum
  s.quotFree 0 (m.area * wd * wv) (ws * 2 ^ 64)

/-- The ratio of two sums over groups as Q15.16, `none` where a group is empty or the mean below is under V_SUB_MIN
(R319). -/
def State.meanRatio (s : State) (i : Nat) (vMin : Int) (above : Int × Nat) (below : Int × Nat) : Option Int :=
  if above.2 = 0 ∨ below.2 = 0 ∨ (below.1.natAbs : Int) < vMin * below.2 then none
  else some (s.quotFree i (above.1 * below.2 * 65536) (below.1 * above.2))

/-- The difference of the means of two groups, over their common count. -/
def groupDiff (a b : Int × Nat) : Int × Nat := (a.1 * b.2 - b.1 * a.2, a.2 * b.2)

/-- A contour group of the geometry records (Table 11-1). -/
def Traverse.inGroup (t : Traverse) (k : Nat) (c : Chord) : Bool := (t.cfg[c]).geo.any fun g => g.groups.getLsbD k

/-- Velocities, quadrature and contour figures of a traverse (R312 to R321). A figure that needs V_SUB_MIN is invalid
without a meter record (DESIGN CHOICE, log 76). -/
def State.figure (s : State) (t : Traverse) (b : TravBlock) : State × Figured :=
  let dev := s.traverseDev b.grade
  let parts : Vector Part 20 := Vector.ofFn fun c => s.chordPart t.cfg[c] dev c b.recs[c]
  let s := s.usedFree 40
  let all := ownSum parts fun _ => true
  let v : Vector (Option Int) 20 := Vector.ofFn fun c =>
    match parts[c] with
    | .own v _ => some v
    | .substituted => some (s.substitute c all.1 all.2)
    | _ => none
  let s := s.usedFree 20
  let cs := allChords.filterMap fun c => (parts[c]).c?
  let group (k : Nat) : Int × Nat := ownSum parts (t.inGroup k)
  let vMin (f : Int → Option Int) : Option Int := t.meter.bind fun m => f m.vSubMin
  let swirl := groupDiff (group 4) (group 5)
  (s.usedFree 5,
    { parts := parts, v := v, q := t.meter.map fun m => s.lineRate t m v,
      sos := if cs.isEmpty then none else some (s.quotFree 1 cs.sum cs.length),
      spread := cs.foldl max (cs.headD 0) - cs.foldl min (cs.headD 0),
      pf := vMin fun x => s.meanRatio 2 x (group 0) (group 1),
      sym := vMin fun x => s.meanRatio 3 x (group 2) (group 3),
      sw := vMin fun x => s.meanRatio 4 x swirl all })

/-! ## Learning of the substitution ratios (R320) -/

/-- A qualifying traverse joins the block of a chord; the hundredth completes it. -/
def SubChord.learn (x : SubChord) (v g : Int) : SubChord :=
  let cur : SubBlock := ⟨x.cur.v + v, x.cur.g + g⟩
  if x.count = 99 then
    { count := 0, cur := ⟨0, 0⟩, done := (cur :: x.done).take 10, newest := (x.newest + 1) % 10 }
  else { x with count := x.count + 1, cur := cur }

/-- The block sums of all chords are written as a block completes. -/
def State.saveSubs (s : State) : State :=
  (({ s with freeCtr := s.freeCtr + 400 } : State)).request
    { kind := .record 3#16 .metrology, payload := s.subPayload, pages := none, early := false }

/-- The chords that are ACTIVE with an accepted pair. -/
def TravBlock.good (b : TravBlock) (c : Chord) : Bool := (b.recs[c]).state == .active && (b.recs[c]).accepted

/-- What a traverse teaches; one marked TEST teaches nothing (R605). -/
def State.learn (s : State) (t : Traverse) (b : TravBlock) (f : Figured) : State :=
  let good := ownSum f.parts b.good
  match t.meter with
  | none => s
  | some m =>
    if good.2 = 0 ∨ b.validChords < m.minChords ∨ (good.1.natAbs : Int) < m.vSubMin * good.2 then s
    else
      let g := s.quotFree 0 good.1 good.2
      let subs : Vector SubChord 20 := Vector.ofFn fun c =>
        match (f.parts[c]).v? with
        | some v => if b.good c then (s.fl.subs[c]).learn v g else s.fl.subs[c]
        | none => s.fl.subs[c]
      let complete := allChords.any fun c => decide ((subs[c]).newest ≠ (s.fl.subs[c]).newest)
      let s := ({ s with fl.subs := subs } : State).usedFree 1
      if complete then s.saveSubs else s

/-! ## Destination and rates (R322, R323, R603, R605) -/

/-- The traverse is marked TEST: unlocked at some moment of it, or closed in SERVICE. -/
def State.travTested (s : State) (b : TravBlock) : Bool := b.test || s.pt.unlocked || s.sys.state == .service

/-- The destination of a traverse (Table 11-3). -/
def State.destOf (s : State) (t : Traverse) (b : TravBlock) : Dest :=
  if s.travTested b then .test
  else if b.abandoned || b.late || b.validChords == 0 || t.meter.isNone then .gap
  else if 2 ≤ b.grade.toNat ∨ b.validChords < (t.meter.map fun m => m.minChords).getD 0 then .error
  else .legal

/-- A word of the flow record (Table 23-69). -/
def State.flowWord (s : State) (off : Nat) : W64 := s.page.word64 0#8 (0x1500 + off)

/-- What the fluid state gives a traverse (R344 to R357). -/
structure FluidOut where
  stat : FsStat
  eval : Option FsEval
  rates : Rates
  eNeg : Bool
  eDomain : Bool
  sosHigh : Bool
  diNone : Bool
  diPartial : Bool
  deriving DecidableEq, Repr

/-- The fluid state, the derived rates and the dryness index of a traverse that is not a gap. -/
def State.fluidClose (s : State) (t : Traverse) (b : TravBlock) (q : Int) (sos : Option Int) : State × FluidOut :=
  let (s, st, e) := s.fluidState t.fluid
  let d := s.deriveRates t.fluid ((t.meter.map fun m => m.qCutoff).getD 0) q st e
  let s := s.usedFree 3
  let wet := (t.fluid.fluid == .water || t.fluid.fluid == .steam) && (st == .ok || st == .held)
  let (s, high, dnone, dpart) := s.drynessStep t.fluid b sos (if wet then e.map FsEval.w else none)
  (s.noteFsStat st,
    { stat := st, eval := e, rates := d.rates, eNeg := d.eNeg, eDomain := d.eDomain, sosHigh := high, diNone := dnone,
      diPartial := dpart })

/-! ## The result page (R629, Tables 23-67 and 23-69) -/

def fsCode : FsStat → BitVec 3
  | .ok => 0#3
  | .held => 1#3
  | .noInput => 2#3
  | .outOfDomain => 3#3
  | .wrongPhase => 4#3
  | .noFluid => 5#3

def wordsBytes (ws : List W64) : List Byte := ws.flatMap fun w => leBytes 8 w.toNat

/-- The chord record of a traverse. A field for which the rules give no value, such as the times of a chord without any,
is free. -/
def State.chordRecWords (s : State) (c : Chord) (tc : W64) (r : ChordRec) (f : Figured) : List W64 :=
  let w (k : Nat) : W64 := s.free (4 * c.val + k)
  let td := (r.times.map Prod.fst).getD (field (w 0) 0 40)
  let tu := (r.times.map Prod.snd).getD (field (w 1) 0 40)
  let sub (p : Part) : Bool := f.parts[c] == p
  [place 64 0 td ||| place 64 40 (r.laneDn.getD (field (w 0) 40 5)) ||| place 64 45 (r.laneUp.getD (field (w 1) 40 5)) |||
     place 64 50 r.range ||| place 64 53 (chordCode r.state) ||| place 64 56 (probCode r.probFrom) |||
     place 64 58 r.probCount ||| place 64 62 r.grade,
   place 64 0 tu ||| place 64 40 r.peakDn ||| place 64 46 r.peakUp ||| placeB 64 52 r.corrected |||
     placeB 64 53 r.rejected ||| placeB 64 54 r.dtFail ||| placeB 64 55 r.sumFail ||| placeB 64 56 r.cycleFail |||
     placeB 64 57 r.reacquired ||| placeB 64 58 r.held ||| placeB 64 59 r.noGeom ||| placeB 64 60 (sub .substituted) |||
     placeB 64 61 (sub .subNone) ||| placeB 64 62 r.fenced,
   r.marksDn, r.marksUp, ((f.v[c]).map (BitVec.ofInt 64)).getD (w 2),
   (((f.parts[c]).c?).map (BitVec.ofInt 64)).getD (w 3), BitVec.ofInt 64 (tu.toNat - td.toNat), tc]

def State.putChordRec (s : State) (c : Chord) (tc : W64) (r : ChordRec) (f : Figured) : State :=
  s.putPageBytes (0x1000 + 0x40 * c.val) (wordsBytes (s.chordRecWords c tc r f))

/-- Ten words of the flow record from `i` on hold numbers; one without a value is free. -/
def State.numWord (s : State) (i : Nat) (x : Option Int) : W64 := (x.map (BitVec.ofInt 64)).getD (s.free i)

/-- A mask of chords. -/
def chordMaskOf (p : Chord → Bool) : BitVec 20 :=
  allChords.foldl (fun (m : BitVec 20) c => if p c then m ||| (1#20 <<< c.val) else m) 0#20

/-- A contour figure, 0 where it is invalid. -/
def contourField (x : Option Int) : BitVec 32 := BitVec.ofInt 32 (x.getD 0)

/-- The bits of word 0x60 and the words 0x28 to 0x48 that the fluid state gives: those of the last traverse that was not
a gap stay in a gap (R354). -/
def State.fluidWords (s : State) (o : Option FluidOut) : List W64 × W64 :=
  match o with
  | none => ((List.range 5).map fun k => s.flowWord (0x28 + 8 * k), s.flowWord 0x60 &&& (0x3FFFF#64 <<< 16))
  | some o =>
    let valid := o.eval.filter fun e => (o.stat == .ok || o.stat == .held) && e.stat == .ok
    let n (i : Nat) (p : FsEval → Int) : W64 := s.numWord i (valid.map p)

    ([n 5 FsEval.rho, n 6 FsEval.enth, n 7 FsEval.w, n 8 FsEval.t, n 9 FsEval.p],
      place 64 16 (fsCode o.stat) ||| placeB 64 17 o.eNeg ||| placeB 64 18 o.eDomain |||
        placeB 64 19 (valid.any FsEval.satUsed) ||| placeB 64 20 (o.eval.any FsEval.baseDomain) ||| placeB 64 21 o.sosHigh |||
        placeB 64 22 o.diNone ||| placeB 64 23 o.diPartial ||| place 64 24 (BitVec.ofNat 10 s.fl.fs.di))

/-- The flow record of a traverse, with the rates that it uses. -/
def State.flowWords (s : State) (t : Traverse) (b : TravBlock) (f : Figured) (d : Dest) (r : Option Rates)
    (o : Option FluidOut) : List W64 :=
  let fw := s.fluidWords o
  let recs (p : ChordRec → Bool) : BitVec 20 := chordMaskOf fun c => p b.recs[c]
  let parts (p : Part) : BitVec 20 := chordMaskOf fun c => f.parts[c] == p
  [s.numWord 0 (r.map Rates.q), s.numWord 1 (r.bind Rates.qb), s.numWord 2 (r.bind Rates.qm), s.numWord 3 (r.bind Rates.qe),
   s.numWord 4 f.sos] ++ fw.1 ++
  [b.tc, place 64 0 (recs ChordRec.held) ||| place 64 20 (parts .substituted) ||| place 64 40 (parts .subNone),
   place 64 0 (BitVec.ofNat 5 b.validChords) ||| place 64 5 (destCode d) ||| place 64 7 b.grade |||
     placeB 64 9 f.pf.isNone ||| placeB 64 10 f.sym.isNone ||| placeB 64 11 f.sw.isNone ||| placeB 64 12 t.meter.isNone |||
     fw.2 ||| place 64 34 s.aux.rhInForce,
   place 64 0 (BitVec.ofInt 32 (s.roundFreeInt 10 f.spread 65536)) ||| place 64 32 (contourField f.pf),
   place 64 0 (contourField f.sym) ||| place 64 32 (contourField f.sw), 0#64]

/-- RESULT_SEQ takes the next even value after an odd one (R396). -/
def nextResultSeq (x : W32) : W32 := if x.getLsbD 0 then x + 1#32 else x + 2#32

/-- K0–K1 write the results of a traverse. -/
def State.writeResults (s : State) (t : Traverse) (b : TravBlock) (f : Figured) (d : Dest) (r : Option Rates)
    (o : Option FluidOut) : State :=
  let s := (allChords.foldl (fun (s : State) c => s.putChordRec c b.tc b.recs[c] f) s).usedFree 80
  let s := (s.putPageBytes 0x1500 (wordsBytes (s.flowWords t b f d r o))).usedFree 11
  { s with sv.resultSeq := nextResultSeq s.sv.resultSeq }

/-! ## Increments (R324, R325, R339, R340) -/

/-- Parts of a second in which intervals are counted. -/
def unitRate : Int := 12800000000


/-- The units of a number of X32 periods, corrected with the RTC trim (R339). -/
def State.x32Units (s : State) (i : Nat) (n : Nat) : Nat :=
  s.roundFree i (n * 390625 * 2097152) (2097152 - s.rtc.trimNow.toInt).toNat

/-- Milliseconds of a span, limited to 32 bits (Table 16-9). -/
def msOf (units : Nat) : W32 := BitVec.ofNat 32 (min (2 ^ 32 - 1) (units / 12800000))

/-- The run of gaps ends: its unmetered part is logged (R325). -/
def State.endGapRun (s : State) : State :=
  let s := if s.fl.unmetered = 0 then s else s.logFrom 2 0x125 (msOf s.fl.unmetered)
  { s with fl.gapRun := 0, fl.unmetered := 0 }

/-- A rate over a time with the remainder carried: the increment truncated, and the new remainder. -/
def integrate (rate : Int) (units : Nat) (rem : Int) : Int × Int :=
  let n := rate * units + rem
  (n.tdiv unitRate, n.tmod unitRate)

/-- What an interval of a length gives at rates, for a destination: the line volume alone goes to rod 8; a rate that is
not yielded is not tallied and keeps its remainder (R322, R324). -/
def State.increment (s : State) (tc : W64) (r : Option Rates) (d : Dest) (gap : Bool) (units : Nat) (endAt : BitVec 48) :
    Increment :=
  let back := r.any fun r => decide (r.q < 0)
  let sign (x : Int) : Int := if back then -x else x
  let part (k : Fin 4) (x : Option Int) : Option (Int × Int) := x.map fun x => integrate x units s.fl.rems[k]
  let line := part 0 (r.map Rates.q)
  let others (k : Fin 4) (x : Option Int) : Option (Int × Int) := if d = .error then none else part k (x.map sign)
  let base := others 1 (r.bind Rates.qb)
  let mass := others 2 (r.bind Rates.qm)
  let energy := others 3 (r.bind Rates.qe)
  let mag (x : Option (Int × Int)) : Option Int := x.map fun p => (p.1.natAbs : Int)
  let left (k : Fin 4) (x : Option (Int × Int)) : Int := (x.map Prod.snd).getD s.fl.rems[k]
  { tc := tc, rates := r, dest := d, isGap := gap, reverse := back, line := mag line, base := mag base, mass := mag mass,
    energy := mag energy, rems := #v[left 0 line, left 1 base, left 2 mass, left 3 energy], intervalEnd := endAt }

/-- An increment is issued: it waits for its group of K0–K1. -/
def State.issueIncrement (s : State) (x : Increment) : State := { s with fl.incs := s.fl.incs ++ [x], fl.rems := x.rems }

/-- The flow record of the traverse shows that its interval was timed on a failed X32 (R340). -/
def State.markTimedFail (s : State) (tc : W64) : State :=
  if s.flowWord 0x50 = tc then s.putPageBytes 0x1560 (leBytes 8 (s.flowWord 0x60 ||| placeB 64 13 true).toNat) else s

/-- A gap of a number of units (R325): at the rates of the last traverse that was not a gap, for at most GAP_LIMIT of the
run; without such a traverse, or without a meter record, it is unmetered. -/
def State.issueGap (s : State) (tc : W64) (limit : Option Nat) (units : Nat) (bad : Bool) (endAt : BitVec 48) : State :=
  let prior := match limit with
    | some _ => s.fl.prior
    | none => none
  let room := if prior.isNone then 0 else 1280000000 * limit.getD 0 - s.fl.gapRun
  let got := min units room
  let dest := (prior.map TravFlow.dest).getD .gap
  let x := s.increment tc (prior.bind TravFlow.rates) (if bad then .error else dest) true got endAt
  let s := s.issueIncrement x
  { s with fl.gapRun := s.fl.gapRun + got, fl.unmetered := s.fl.unmetered + (units - got) }

/-- The increment of a traverse whose interval has ended (R322 to R325, R340). -/
def State.issue (s : State) (f : TravFlow) (p : Span) : State :=
  let bad := p.x32Bad && !p.lane
  let s := if bad then s.markTimedFail f.tc else s
  let units := if p.lane then (s.quotFree 0 (p.units * 10 ^ 7) (10 ^ 7 + f.dev)).toNat else p.units
  let s := s.usedFree 1
  let dest := if s.pt.unlocked then .test else f.dest
  if dest = .gap then s.issueGap f.tc f.gapLimit units bad p.endAt
  else
    let s := s.endGapRun
    let s := s.issueIncrement (s.increment f.tc f.rates (if bad then .error else dest) false units p.endAt)
    { s with fl.prior := some { f with dest := dest } }

/-! ## The close of a traverse (R287, R302, R311) -/

/-- What a traverse leaves for its interval. A gap has no rates of its own; a traverse marked TEST without a meter record
has none either. -/
def State.travFlow (s : State) (t : Traverse) (b : TravBlock) (d : Dest) (r : Option Rates) : TravFlow :=
  { tc := t.tc, rates := r, dest := d, dev := s.traverseDev b.grade, gapLimit := t.meter.map fun m => m.gapLimit }

/-- A traverse that is not a gap has closed: for R493, and for the direction output (R569). One without a rate, marked
TEST without a meter record, leaves the last one. -/
def State.noteClosed (s : State) (q : Option Int) : State :=
  let q := q.getD s.fl.lastQ
  { s with ab.lastClose := some s.rtc.elapsed, fl.lastQ := q,
           out.reverse := if s.outputsRun then decide (q < 0) else s.out.reverse }

/-- K0–K1 take a traverse block (R282, R312 to R323). -/
def State.flowOf (s : State) (t : Traverse) (b : TravBlock) : State × TravFlow :=
  let (s, f) := s.figure t b
  let d := s.destOf t b
  let s := if d = .test then s else s.learn t b f

  match (if d = .gap then none else f.q) with
  | none =>
    let used := if d = .gap ∧ t.meter.isSome then s.fl.prior.bind TravFlow.rates else none
    let s := if d = .gap then s else s.noteClosed none
    (s.writeResults t b f d used none, s.travFlow t b d none)
  | some q =>
    let (s, o) := s.fluidClose t b q f.sos
    let s := (s.noteClosed (some o.rates.q)).writeResults t b f d (some o.rates) (some o)
    (s, s.travFlow t b d (some o.rates))

/-- A flow whose interval has ended is issued; one whose interval goes on waits for its end. -/
def State.settleFlow (s : State) (t : Traverse) (f : TravFlow) : State :=
  if t.void then s
  else match t.ended with
    | some p => s.issue f p
    | none => { s with fl.waiting := some f }

/-- The owner has collected every entry of a traverse: it is judged, and K0–K1 compute from its block. A fenced or
unpowered metrology cluster computes nothing. -/
def State.closeTrav (s : State) (t : Traverse) : State :=
  let s := s.takeAllAux
  let (s, b) := s.judgeTraverse t
  let s := { s with sv.traverses := s.sv.traverses.filter fun x => x.tc != t.tc, fl.block := some b }
  if s.metrologyUp then
    let (s, f) := s.flowOf t b
    s.settleFlow t f
  else s

/-- The first traverse that satisfies `p` closes, as far as anything closes: nothing does in HOLD (R326). -/
def State.closeWhere (s : State) (p : Traverse → Bool) : State :=
  if s.sys.state = .hold then s
  else match s.sv.traverses.find? p with
    | some t => s.closeTrav t
    | none => s

/-- Traverses that are complete close, oldest first, up to `n` of them. -/
def State.closeAll (p : Traverse → Bool) : Nat → State → State
  | 0, s => s
  | n + 1, s => State.closeAll p n (s.closeWhere p)

/-- An entry that the owner has collected: its traverse closes with it where it was the last (R287). -/
def State.collected (s : State) (en : Entry) : State :=
  if en.listens then s
  else (s.modTraverse en.tc fun t => t.take en).closeWhere fun t => t.tc == en.tc && t.full

/-! ## The boundary (R324, R326, R337, R339) -/

/-- The interval that a boundary ends: in lane periods where the PLL ran in lock throughout, in X32 periods otherwise;
where X32 failed in it, in RING periods of 160 units where RING runs (DEDUCED, log 93), and TRAV_PERIOD otherwise. -/
def State.spanNow (s : State) (ring : W64) (since : BitVec 48) : Span :=
  { units :=
      if s.fl.locked then 32 * s.fl.ticks
      else if !s.fl.x32Bad then s.x32Units 0 (s.rtc.elapsed - since).toNat
      else if s.powered 4 && s.clocksRun && !s.clk.ringFail then 160 * ring.toNat
      else 12800 * s.sv.travPeriod,
    lane := s.fl.locked, x32Bad := s.fl.x32Bad, endAt := s.rtc.elapsed }

/-- The interval in progress ends: the increment of a closed traverse is issued, an open one keeps its length. -/
def State.endInterval (s : State) (ring : W64) : State :=
  let p := s.spanNow ring s.sv.boundaryAt
  let s := s.usedFree 1
  let close (t : Traverse) : Traverse := if t.ended.isNone then { t with ended := some p } else t
  let s := { s with sv.traverses := s.sv.traverses.map close }
  match s.fl.waiting with
  | some f => ({ s with fl.waiting := none } : State).issue f p
  | none => s

/-- The first boundary after SLUMBER or after a reset ends the span that began with the interval end restored
(R325, R337, R497). A reset span goes to rod 8 for its first GAP_LIMIT; one of unknown length accrues nothing. An
activation pause is a gap, and its length is logged. -/
def State.endSpan (s : State) (from_ : Option (BitVec 48)) : State :=
  let reset := s.fl.spanReset && !s.ab.activation
  let limit := s.fl.meter.map fun m => m.gapLimit
  let s := { s with fl.spanFrom := none }
  match from_ with
  | none => s.logFrom 2 0x126 0#32
  | some t =>
    let units := s.x32Units 0 (s.rtc.elapsed - t).toNat
    let s := s.usedFree 1
    let s := if s.fl.spanReset && s.ab.activation then s.logFrom 2 0x127 (msOf units) else s
    if reset then
      let got := min units (1280000000 * limit.getD 0)
      let r : Option Rates := s.fl.prior.bind fun p => p.rates.map fun r => ⟨r.q, none, none, none⟩
      let s := s.issueIncrement (s.increment s.sv.tc r .error true got s.rtc.elapsed)
      if got < units then s.logFrom 2 0x125 (msOf (units - got)) else s
    else s.issueGap s.sv.tc limit units s.fl.x32Bad s.rtc.elapsed

/-- RUN has been 0 since a moment: the span is unmetered, and logged as RUN is set again (R326). -/
def State.endStop (s : State) (since : BitVec 48) : State :=
  let units := s.x32Units 0 (s.rtc.elapsed - since).toNat
  ({ s with fl.stopped := none } : State).usedFree 1 |>.logFrom 2 0x125 (msOf units)

/-- What a boundary ends: a span without traverses, or the interval in progress, in which RING made `ring` periods. -/
def State.flowBoundary (s : State) (ring : W64) : State :=
  let s := match s.fl.spanFrom, s.fl.stopped with
    | some x, _ => ({ s with fl.stopped := none } : State).endSpan x
    | none, some t => s.endStop t
    | none, none => s.endInterval ring
  { s with fl.ticks := 0, fl.locked := s.clk.pllLock, fl.x32Bad := s.clk.x32Fail }

/-- RUN is cleared: the interval in progress does not accrue, and the span that begins with it is unmetered (R285, R326;
DEDUCED, log 76). -/
def State.flowStops (s : State) : State :=
  let stop (t : Traverse) : Traverse := if t.ended.isNone then { t with void := true } else t
  { s with fl.waiting := none, fl.stopped := some s.sv.boundaryAt, sv.traverses := s.sv.traverses.map stop }

/-- HOLD is entered: the interval in progress becomes part of the gap that the first boundary after the release ends,
timed on X32 (R326). -/
def State.flowHolds (s : State) : State :=
  { s with fl.waiting := s.fl.waiting.map fun f => { f with dest := .gap, rates := none }, fl.locked := false }

/-- Perturbation is unlocked: every traverse whose TALLYs are still to come is marked TEST (R605). -/
def State.flowTested (s : State) : State :=
  { s with sv.traverses := s.sv.traverses.map fun t => { t with test := true },
           fl.waiting := s.fl.waiting.map fun f => { f with dest := .test },
           fl.incs := s.fl.incs.map fun x => { x with dest := .test } }

/-! ## The start of the metrology firmware (R320, R336, R337) -/

/-- K0–K1 start with what the Abacus has restored: rates, destination and remainders, and the interval end from which the
first interval runs. After a backup power-on reset its length is unknown; where SLUMBER ends with RUN = 0, the span is one
without intervals (R326). -/
def State.startFlow (s : State) (reset : Bool) : State :=
  let g := s.ab.fig
  let rate (k : Fin 4) : Int := (g.rates[k]).toInt
  let known := if s.fault.code = 1#8 ∧ reset then none else g.intervalEnd
  let prior : TravFlow :=
    { tc := g.tc, rates := some ⟨rate 0, some (rate 1), some (rate 2), some (rate 3)⟩, dest := destOfCode g.dest, dev := 0,
      gapLimit := none }
  let fl := { Flow.reset with
    prior := g.intervalEnd.map fun _ => prior, rems := g.rems.map BitVec.toInt, spanReset := reset,
    spanFrom := if reset || s.sv.run then some known else none, stopped := if reset || s.sv.run then none else known }
  (({ s with fl := fl } : State).loadRecords).loadSubs

end Sys2Proof.Machine
end

