-- ==== Sys2Proof/Machine/Grid.lean ====
section
/-! DEFINITION. Grid timing (ch. 09): the end of a capture, and the correlator slice with its result words. -/
namespace Sys2Proof.Machine

/-! ## Captures (R213 to R217) -/

/-- The correlator word that a direction starts with, as correlation starts (R271): DONE = 0, the next SEQ. -/
def corrStartWord (old : W64) (sh : Shot) : W64 :=
  placeB 64 44 sh.cmd.up ||| place 64 46 sh.trav ||| place 64 60 (field old 60 4 + 1#4)

/-- The stored samples of a capture: the voltages that the ADC took, in nanovolts, each with whether the limiter acted
(R196, R213, R214). -/
def Shot.samples (sh : Shot) (vs : List (Int × Bool)) : List (BitVec 16) :=
  (vs.take (sh.sampleLimit (2 ^ 40))).zipIdx.map fun x => storeSample (sh.sampleBlank x.2) (adcCode x.1.1) x.1.2

/-- The capture of `sh` ends with the given samples; correlation starts (R213, R217, R262, R271). -/
def State.endCapture (s : State) (sh : Shot) (samples : List (Int × Bool)) : State × Shot :=
  let c := sh.cmd.chord
  let xs := sh.samples samples
  let sh := { sh with cap := .done, capEnd := (s.sv.timeBase : Int), peak := capPeak xs,
                      marks := sh.marks ||| markIf (xs.any fun x => x.getLsbD 14) Mark.clipped }
  let s := s.modChord c fun ch =>
    let ch := ch.putCapture sh xs false
    if sh.cmd.up then { ch with corr2 := corrStartWord ch.corr2 sh } else { ch with corr0 := corrStartWord ch.corr0 sh }
  (s, sh)

/-- The first shot of a list whose capture is open, changed by `f`. -/
def changeFirst (p : Shot → Bool) (f : Shot → Shot) : List Shot → List Shot
  | [] => []
  | x :: xs => if p x then f x :: xs else x :: changeFirst p f xs

/-- CAPTURE_END (R213): a grid capture ends with the samples that the ADC took, those of LEN at most that lie before the
close of the window. Where the window has closed already, the peak is settled now (R205 to R207). -/
def execCaptureEnd (c : Chord) (samples : List (Int × Bool)) (s : State) : Host.Outcome State Fault Refusal :=
  let ch := s.chord c
  match ch.correlating.find? (fun sh => sh.cap == .open) with
  | some sh =>
    let (s, sh') := s.endCapture sh samples
    let (s, sh') := s.settlePeak sh'
    .next (((s.modChord c fun ch =>
      { ch with correlating := changeFirst (fun x => x.cap == .open) (fun _ => sh') ch.correlating }).boostQuietEnd
        ).laneComparison sh')
  | none =>
    match ch.cur with
    | some sh =>
      if sh.cap = .open then
        let (s, sh') := s.endCapture sh samples
        .next ((s.modChord c fun ch => { ch with cur := some sh' }).boostQuietEnd)
      else .next s
    | none => .next s

/-! ## Correlation (R262 to R269) -/

/-- The stored samples of a shot's capture, COUNT of them (R215). -/
def captured (cap : WMap) (sh : Shot) : List (BitVec 16) :=
  let n := (field (cap.get (capDesc sh.cmd.up (rxLen sh.rx))) 0 13).toNat
  (List.range n).map fun i =>
    field (cap.get (capBase sh.cmd.up (rxLen sh.rx) + i / 4)) (16 * (i % 4)) 16

/-- A template of a shot, TLEN signed values from a bank at window offset `off` (R259). -/
def template (sh : Shot) (off : Nat) : List Int :=
  (List.range (ccTlen sh.corrcfg)).map fun j =>
    (field (sh.templates.get (off + 8 * (j / 4))) (16 * (j % 4)) 16).toInt

/-- Samples N of the ADC divider, and 2 HALF: together P = (2 HALF) / N samples (R260). -/
def Shot.divN (sh : Shot) : Nat := rxDiv sh.rx
def Shot.twoHalf (sh : Shot) : Nat := 2 * dpHalf sh.drive

/-- The grid interval G (R255). -/
def Shot.gridInterval (sh : Shot) : Nat :=
  match sh.tp with
  | some tg => (tg - sh.ts).toNat
  | none => 0

/-- The lag centre (R262). -/
def Shot.lagCentre (sh : Shot) : Int :=
  let m := if predValid sh.pred then
      roundDiv (16 * ((predTicks sh.pred : Int) - sh.gridInterval) - (ccAnchor sh.corrcfg * sh.divN * 65536 : Nat))
        (16 * (sh.divN * 65536))
    else (ccLagCentre sh.corrcfg : Int)
  max 0 (min 4095 m)

/-- One correlation sum at position `p` of the capture: Σ t[j] x[p + j], x zero outside (R262). -/
def corrSum (xs : List Int) : List Int → Int → Int
  | [], _ => 0
  | t :: ts, p => t * (if p < 0 then 0 else xs.getD p.toNat 0) + corrSum xs ts (p + 1)

/-- The lags −256 to 256, in order (R262). -/
def lags : List Int := (List.range 513).map fun (i : Nat) => (i : Int) - 256

/-- The value at lag `k` of a list over `lags`. -/
def atLag (r : List Int) (k : Int) : Int := r.getD (k + 256).toNat 0

/-- The lag of the largest value, the smaller lag where two tie (R263, R266). -/
def bestLag (r : List Int) : Int :=
  (lags.foldl (fun b k => if atLag r b < atLag r k then k else b) (-256))

/-- What the slice computes of one shot, before packing (R263 to R268). -/
structure CorrOut where
  lag : Int
  arrival : BitVec 40
  cycle : Int
  margin : Nat
  snr : Nat
  peak : Nat
  floor : Nat
  noPeak : Bool
  peakLimit : Bool
  edgeLag : Bool
  noFloor : Bool
  noNoise : Bool
  deriving DecidableEq, Repr

/-- A free value within ±½ sample, at the scale 2¹⁶, for a fine offset that the formula leaves without a value. -/
def halfFree (w : W64) : Int := (w.toNat % 65537 : Nat) - 32768

/-- The fine offset δ at the scale 2¹⁶, limited to ±½ (R264). -/
def fineOffset (sh : Shot) (r : List Int) (k : Int) (free : W64) : Int :=
  if k = 256 ∨ k = -256 then 0
  else if atLag r k = 0 then halfFree free
  else
    let omega := fxPi * (2 * sh.divN : Nat) / (sh.twoHalf : Nat)
    let y := (atLag r (k + 1) - atLag r (k - 1)) * fxOne * fxOne / (2 * atLag r k * fxSin omega)
    let d := roundDiv (fxAtan y * 65536) omega.toNat
    max (-32768) (min 32768 d)

/-- The envelope offset δe as a fraction with positive denominator, limited to ±½ (R266). `e2` lists the squares
e(k)². All three values are taken times e(k), so that δe is exact wherever it is rational; otherwise the roots are
taken at the scale 2³². -/
def envOffset (e2 : List Int) (k : Int) (free : W64) : Int × Nat :=
  if k = 256 ∨ k = -256 then (0, 1)
  else
    let b := atLag e2 k
    let root (j : Int) : Int := isqrt ((atLag e2 j * b).toNat * 2 ^ 64)
    let num := root (k - 1) - root (k + 1)
    let den := 2 * (root (k - 1) - 2 * (b * 2 ^ 32) + root (k + 1))
    if den = 0 then (halfFree free, 65536)
    else if den.natAbs ≤ 2 * num.natAbs then (if (0 ≤ num) == decide (0 < den) then 1 else -1, 2)
    else (if 0 < den then num else -num, den.natAbs)

/-- The largest rI over the lags within one sample of `k ± P` (R267). -/
def neighbour (sh : Shot) (r : List Int) (k : Int) (sign : Int) : Option Int :=
  (lags.filter fun j =>
    decide ((((sign * (j - k)) * sh.divN - sh.twoHalf : Int)).natAbs ≤ sh.divN)).foldl
    (fun m j => some (match m with
      | none => atLag r j
      | some x => max x (atLag r j))) none

/-- MARGIN with 8 fraction bits (R267). -/
def State.marginOf (s : State) (sh : Shot) (r : List Int) (k : Int) : Nat :=
  match neighbour sh r k 1, neighbour sh r k (-1) with
  | none, none => 4095
  | some a, none => pick a
  | none, some b => pick b
  | some a, some b => pick (max a b)
where
  pick (m : Int) : Nat :=
    if m ≤ 0 then 4095 else min 4095 (s.roundFree 2 ((atLag r k).toNat * 256) m.toNat)

/-- FLOOR with 12 fraction bits, or `none` for NO_FLOOR (R268). -/
def State.floorOf (s : State) (sh : Shot) (r : List Int) (k : Int) : Option Nat :=
  let far := (3 * sh.twoHalf + 2 * sh.divN - 1) / (2 * sh.divN)
  let ls := lags.filter fun j => decide (far ≤ (j - k).natAbs)
  let n := ls.length
  if n < 16 then none
  else if atLag r k ≤ 0 then some 0
  else
    let sq := (ls.map fun j => (atLag r j * atLag r j).toNat).sum
    let m := (atLag r k).toNat
    let q := isqrt (sq * 2 ^ 24 / (n * (m * m)))
    some (min 4095 (if q * q * (n * (m * m)) = sq * 2 ^ 24 then q
      else if Config.roundUp (s.freeCtr + 3) then q + 1 else q))

/-- 80 log₁₀ √(n / d), the number of 0.25 dB steps of 20 log₁₀ of the root, rounded down and limited to 0 to 1023; `true`
where it is exact: 10^q is compared with (n / d)^40. -/
def quarterDb (n d : Nat) : Nat × Bool :=
  let q := (List.range 1023).countP fun q => decide (10 ^ (q + 1) * d ^ 40 ≤ n ^ 40)
  (q, 10 ^ q * d ^ 40 == n ^ 40)

/-- SNR in 0.25 dB steps, or `none` for NO_NOISE (R268); where it is no whole step, rounded in a free direction. -/
def State.snrOf (s : State) (sh : Shot) (xs : List (BitVec 16)) (pos : Int) : Option Nat :=
  let n := 16 * ccNseg sh.corrcfg
  let seg := (xs.take n).filter fun x => !x.getLsbD 15
  if n = 0 ∨ pos < n ∨ seg.length < 8 then none
  else
    let a := (((List.range (ccTlen sh.corrcfg)).map fun (j : Nat) =>
      let i := pos + (j : Int)
      if i < 0 then 0 else (sampleCode (xs.getD i.toNat 0#16)).natAbs)).foldl max 0
    let sq := (seg.map fun x => (sampleCode x).natAbs * (sampleCode x).natAbs).sum
    if a = 0 then some 0
    else
      let (n, d) : Nat × Nat := if 4 * sq < seg.length then (4 * a * a, 1) else (a * a * seg.length, sq)
      let (q, exact) := quarterDb n d
      if n < d then some 0
      else some (min 1023 (if !exact && Config.roundUp (s.freeCtr + 4) then q + 1 else q))

/-- The correlation of a completed capture (R262 to R268). -/
def State.correlate (s : State) (sh : Shot) : CorrOut :=
  let xs := captured (s.chord sh.cmd.chord).cap sh
  let x := xs.map sampleCode
  let ti := template sh 0x800
  let tq := template sh 0xC00
  let mc := sh.lagCentre
  let r := lags.map fun k => corrSum x ti (mc + k)
  let q := lags.map fun k => corrSum x tq (mc + k)
  let e2 := (r.zip q).map fun p => p.1 * p.1 + p.2 * p.2
  let k := bestLag r
  let ke := bestLag e2
  let lf := k * 65536 + fineOffset sh r k (s.free 0)
  let de := envOffset e2 ke (s.free 1)
  let ticks := (mc * 65536 + lf + (ccAnchor sh.corrcfg * 4096 : Nat)) * sh.divN
  let fl := s.floorOf sh r k
  let sn := s.snrOf sh xs (mc + k)
  let sumT := (ti.map Int.natAbs).sum
  { lag := k,
    arrival := BitVec.ofInt 40 ((sh.gridInterval : Int) + ticks),
    cycle := max (-3) (min 3 (roundDiv (((lf - ke * 65536) * de.2 - de.1 * 65536) * sh.divN)
      (sh.twoHalf * 65536 * de.2))),
    margin := s.marginOf sh r k,
    snr := sn.getD 0,
    peak := if atLag r k ≤ 0 then 0 else min 65535 (s.roundFree 5 ((atLag r k).toNat * 65536) (8192 * sumT)),
    floor := fl.getD 0,
    noPeak := decide (atLag r k ≤ 0),
    peakLimit := decide (k = 256) || decide (k = -256),
    edgeLag := decide (mc + k < 0) || decide ((x.length : Int) < mc + k + ccTlen sh.corrcfg),
    noFloor := fl.isNone,
    noNoise := sn.isNone }

/-- FLOOR exceeds FLOOR_MAX under code-division firing (R269). -/
def CorrOut.floorHigh (o : CorrOut) (sh : Shot) : Bool :=
  sh.cdiv && decide (16 * ccFloorMax sh.corrcfg < o.floor)

/-- The result is SURE (R269). -/
def CorrOut.sure (o : CorrOut) (sh : Shot) : Bool :=
  !o.noPeak && !o.peakLimit && !o.edgeLag && !o.noNoise && o.cycle == 0 &&
    decide (16 * ccMarginMin sh.corrcfg ≤ o.margin) && decide (ccSnrMin sh.corrcfg ≤ o.snr) &&
    (!sh.cdiv || (!o.noFloor && !o.floorHigh sh))

/-- Word 0 of the result (Table 09-2), with the SEQ of the start word. -/
def CorrOut.word0 (o : CorrOut) (sh : Shot) (start : W64) : W64 :=
  place 64 0 o.arrival ||| place 64 40 (BitVec.ofInt 3 o.cycle) ||| placeB 64 43 (o.sure sh) |||
    placeB 64 44 sh.cmd.up ||| placeB 64 45 true ||| place 64 46 sh.trav ||| placeB 64 54 o.noPeak |||
    placeB 64 55 o.peakLimit ||| placeB 64 56 o.edgeLag ||| placeB 64 57 o.noFloor ||| placeB 64 58 o.noNoise |||
    placeB 64 59 (o.floorHigh sh) ||| place 64 60 (field start 60 4)

/-- Word 1 of the result (Table 09-2). -/
def CorrOut.word1 (o : CorrOut) : W64 :=
  place 64 0 (BitVec.ofNat 12 o.margin) ||| place 64 12 (BitVec.ofNat 10 o.snr) |||
    place 64 22 (BitVec.ofNat 16 o.peak) ||| place 64 38 (BitVec.ofNat 12 o.floor) ||| place 64 50 (BitVec.ofInt 10 o.lag)

/-- The marks that the result gives the shot (Tables 09-2, 09-4). -/
def CorrOut.marks (o : CorrOut) (sh : Shot) : BitVec 38 :=
  markIf o.noPeak Mark.noPeak ||| markIf o.peakLimit Mark.peakLimit ||| markIf o.edgeLag Mark.edgeLag |||
    markIf (!o.sure sh) Mark.unsure ||| markIf o.noFloor Mark.noFloor ||| markIf o.noNoise Mark.noNoise |||
    markIf (o.floorHigh sh) Mark.floorHigh

/-- Write the result words of a direction (R271). -/
def ChordSt.setCorr (ch : ChordSt) (up : Bool) (w0 w1 : W64) : ChordSt :=
  if up then { ch with corr2 := w0, corr3 := w1 } else { ch with corr0 := w0, corr1 := w1 }

def ChordSt.corrStart (ch : ChordSt) (up : Bool) : W64 := if up then ch.corr2 else ch.corr0

/-- CORRELATION_COMPLETE (R272): the slice writes its result words and queues the result entry. Where the window of
the shot is still open, the entry is formed at its close. -/
def execCorrelationComplete (c : Chord) (s : State) : Host.Outcome State Fault Refusal :=
  let ch := s.chord c
  match ch.correlating with
  | sh :: rest =>
    if sh.cap = .done then
      let o := s.correlate sh
      let w0 := o.word0 sh (ch.corrStart sh.cmd.up)
      let s := s.modChord c fun ch => { ch.setCorr sh.cmd.up w0 o.word1 with correlating := rest }
      .next ((s.finishGrid { sh with marks := sh.marks ||| o.marks sh } w0 o.word1).usedFree 6)
    else .next s
  | [] =>
    match ch.cur with
    | some sh =>
      if sh.cap = .done ∧ sh.res.isNone then
        let o := s.correlate sh
        let w0 := o.word0 sh (ch.corrStart sh.cmd.up)
        .next ((s.modChord c fun ch =>
          { ch.setCorr sh.cmd.up w0 o.word1 with
            cur := some { sh with marks := sh.marks ||| o.marks sh, res := some (w0, o.word1) } }).usedFree 6)
      else .next s
    | none => .next s

end Sys2Proof.Machine
end

