-- ==== Sys2Proof/Machine/Panel.lean ====
section
/-! DEFINITION. The legal register display (ch. 19): commands, passes and frames, DC accounts, the CRC of the shown
image and interruption. -/
namespace Sys2Proof.Machine

/-! ## Images and waveforms -/

/-- The 12 bytes of an image, byte j holding segments 8j to 8j + 7 (R545). -/
def imageBytes (v : BitVec 96) : List Byte := (List.range 12).map fun j => field v (8 * j) 8

/-- The CRC of an image (R545). -/
def imageCrc (v : BitVec 96) : BitVec 16 := crc16 (imageBytes v)

/-- LEN of band `b` (Table 19-1). -/
def Panel.len (p : Panel) (b : Nat) : Nat := (field (p.wave.get 0x20) (8 * b) 8).toNat

/-- Entry `f` of band `b`, halfword f mod 4 of its word (Table 19-1). -/
def Panel.entry (p : Panel) (b f : Nat) : BitVec 16 :=
  field (p.wave.get (0x400 + 128 * b + 8 * (f / 4))) (16 * (f % 4)) 16

def Panel.entries (p : Panel) (b : Nat) : List (BitVec 16) := (List.range (p.len b)).map (p.entry b)

/-- No level code of the entry is 0b11 (R534). -/
def entryOk (w : BitVec 16) : Bool := (List.range 5).all fun k => field w (2 * k) 2 != 3#2

/-- The band is valid: LEN from 1 to 64, and no invalid code in its first LEN entries (Table 19-1, R534). -/
def Panel.bandOk (p : Panel) (b : Nat) : Bool :=
  decide (1 ≤ p.len b) && decide (p.len b ≤ 64) && (p.entries b).all entryOk

/-- The level of a code in units of 15 V (R534). -/
def levelOf (c : BitVec 2) : Int := if c = 1#2 then 1 else if c = 2#2 then -1 else 0

def lvDK (w : BitVec 16) : Int := levelOf (field w 0 2)
def lvLT (w : BitVec 16) : Int := levelOf (field w 2 2)
def lvHD (w : BitVec 16) : Int := levelOf (field w 4 2)
def lvHL (w : BitVec 16) : Int := levelOf (field w 6 2)
def lvTop (w : BitVec 16) : Int := levelOf (field w 8 2)

/-! ## Bands (R537, R538) -/

/-- The lower edge of panel band `k` in 1/128 °C (Table 19-3), for k from 1. -/
def panelEdge (k : Nat) : Int := (-13 + 12 * ((k : Int) - 1)) * 128

/-- The band after a reading: it changes only past a boundary by 1 °C (R537). -/
def nextPanelBand : Nat → Nat → Int → Nat
  | 0, b, _ => b
  | f + 1, b, t =>
    if b < 7 ∧ panelEdge (b + 1) + 128 ≤ t then nextPanelBand f (b + 1) t
    else if 0 < b ∧ t < panelEdge b - 128 then nextPanelBand f (b - 1) t
    else b

/-- The band in force: BAND_SEL where it is forced, that of the sensor otherwise (R538). -/
def Panel.bandInForce (p : Panel) : BitVec 3 := if p.bandForce then p.bandSel else p.sensorBand

/-- PANEL_TEMPERATURE_SAMPLE (R537, R538): the Drive die's sensor, in 1/128 °C, every 10 ms. It is also the last reading
that an OT_CLEAR is judged by (R81, log 60). -/
def execPanelTemperatureSample (t : Int) (s : State) : Host.Outcome State Fault Refusal :=
  if s.powered 6 then
    let p := { s.pn with reading := t, sensorBand := BitVec.ofNat 3 (nextPanelBand 8 s.pn.sensorBand.toNat t) }
    .next { s with pn := { p with bandShift := p.bandShift || (p.run.isSome && p.bandInForce != p.band) },
                   pwr.driveHot := decide (130 * 128 ≤ t) }
  else .next s

/-! ## Commands (R539, R540) -/

def Panel.busy (p : Panel) : Bool := p.run.isSome

/-- The first row of Table 19-4 that applies, or 0 for an accepted command. -/
def State.panelRefusal (s : State) (c : PanelCmd) : BitVec 3 :=
  let p := s.pn
  if p.busy then 1#3
  else if !s.powered 7 then 2#3
  else if s.tw.role = .check then 3#3
  else if c ≠ .balance ∧ imageCrc (p.next.setWidth 96) ≠ p.crc then 4#3
  else if c ≠ .clearRedraw ∧ (!p.shownValid ∨ p.interrupted) then 5#3
  else if !p.bandOk p.bandInForce.toNat then 6#3
  else 0#3

/-- BAL_FRAMES of the command (R542). -/
def Panel.frames (p : Panel) : Nat := p.balFrames.toNat

/-- A write of PANEL_CTRL.CMD by K0–K1 (R539, R540). -/
def State.panelCommand (s : State) (c : PanelCmd) : State :=
  let p := s.pn
  let r := s.panelRefusal c
  if r ≠ 0#3 then { s with pn.reason := r }
  else
    let b := p.bandInForce
    let unlocked := s.pt.unlocked
    let i : BitVec 96 := p.next.setWidth 96
    let i := if unlocked then i &&& ~~~(1#96 <<< 95) else i
    let run : PanelRun := { cmd := c, image := i, wave := p.entries b.toNat, phase := .pumping, pass := 0, frame := 0,
                            frames := p.frames, cut := false }
    { s with pn := { p with
        run := some run, band := b, reason := 0#3, markSuppressed := unlocked,
        tempRange := p.tempRange || decide (p.reading < -25 * 128) || decide (70 * 128 < p.reading) } }

/-- PANEL_CTRL.CMD is written: K0–K1 alone may (R539); the write crosses to port-guard north (R620). -/
def State.panelBy (s : State) (q : Requester) (c : PanelCmd) : State :=
  if q = .eng .k01 then s.onReg 58 fun s => s.panelCommand c else s

/-- PANEL_UPDATE (R541). -/
def execPanelUpdate (q : Requester) (s : State) : Host.Outcome State Fault Refusal :=
  .next (s.panelBy q .update)

/-- CLEAR_REDRAW (R541). -/
def execClearRedraw (q : Requester) (s : State) : Host.Outcome State Fault Refusal :=
  .next (s.panelBy q .clearRedraw)

/-- BALANCE (R542). -/
def execBalance (q : Requester) (s : State) : Host.Outcome State Fault Refusal :=
  .next (s.panelBy q .balance)

/-! ## Frames and DC accounts (R541, R542, R544) -/

/-- The next pass of a command after pass `k`, 4 when none is left (Table 19-5). -/
def PanelRun.passAfter (r : PanelRun) (shown : BitVec 96) (k : Nat) : Nat :=
  if k < 1 ∧ (r.cmd = .clearRedraw ∨ shown.getLsbD 95) then 1
  else if k < 2 then 2
  else if k < 3 ∧ r.image.getLsbD 95 then 3
  else 4

/-- Level minus TOP of output `k` in frame entry `w`; output 96 is COM (Table 19-5). -/
def PanelRun.drive (r : PanelRun) (shown : BitVec 96) (w : BitVec 16) (k : Nat) : Int :=
  let up := r.cmd == .update
  if r.pass = 1 then
    if up then (if k = 95 then lvLT w - lvTop w else 0) else lvLT w - lvTop w
  else if r.pass = 2 then
    if k = 95 then 0
    else if k = 96 then lvHL w - lvTop w
    else if up then
      match shown.getLsbD k, r.image.getLsbD k with
      | false, true => lvDK w - lvTop w
      | true, false => lvLT w - lvTop w
      | true, true => lvHD w - lvTop w
      | false, false => lvHL w - lvTop w
    else (if r.image.getLsbD k then lvDK w else lvHL w) - lvTop w
  else if r.pass = 3 then (if k = 95 then lvDK w - lvTop w else 0)
  else 0

/-- BALANCE against the account of output `k` (R542). -/
def balanceDrive (shown : BitVec 96) (acct : BitVec 16) (k : Nat) : Int :=
  let dark := decide (k < 96) && shown.getLsbD k
  if dark ∧ acct.toInt < 0 then 1 else if !dark ∧ 0 < acct.toInt then -1 else 0

/-- An account with `d` added, saturated at ±32,767 (R544). -/
def addAcct (a : BitVec 16) (d : Int) : BitVec 16 := BitVec.ofInt 16 (max (-32767) (min 32767 (a.toInt + d)))

/-- One frame is booked in every account, and DC_WARN is judged (R544). -/
def Panel.bookFrame (p : Panel) (r : PanelRun) : Panel :=
  let w := r.wave.getD r.frame 0#16
  let acct := Vector.ofFn fun (k : Fin 97) =>
    addAcct p.acct[k] (if r.cmd = .balance then balanceDrive p.shown p.acct[k] k.val else r.drive p.shown w k.val)
  let warn := p.dcMax != 0#8 && acct.toList.any fun a => decide (16 * p.dcMax.toNat ≤ a.toInt.natAbs)
  { p with acct := acct, dcWarn := p.dcWarn || warn }

/-- The run after one more frame (R541, R542). -/
def PanelRun.advance (r : PanelRun) (shown : BitVec 96) : PanelRun :=
  if r.cmd = .balance then
    if r.frame + 1 < r.frames then { r with frame := r.frame + 1 } else { r with phase := .discharging }
  else if r.frame + 1 < r.wave.length then { r with frame := r.frame + 1 }
  else
    let k := r.passAfter shown r.pass
    if k = 4 then { r with phase := .discharging, pass := 0, frame := 0 } else { r with pass := k, frame := 0 }

/-- PUMP_OK (R532, R547): the pump is within 0.5 V, and the first frame starts at the next X32 edge; an UPDATE or
CLEAR_REDRAW sets PANEL_INT there. -/
def execPumpOk (s : State) : Host.Outcome State Fault Refusal :=
  match s.pn.run with
  | some r =>
    if r.phase = .pumping ∧ s.powered 7 ∧ !s.fenced .panel then
      let draws := r.cmd != .balance
      let r := { r with phase := .driving, pass := if draws then r.passAfter s.pn.shown 0 else 0 }
      .next { s with pn.run := some r, pn.pumpOk := true, rtc.panelInt := s.rtc.panelInt || draws }
    else .next s
  | none => .next s

/-- PANEL_FRAME_END (R531, R544): the frame is booked and the pass advances. -/
def execPanelFrameEnd (s : State) : Host.Outcome State Fault Refusal :=
  match s.pn.run with
  | some r =>
    if r.phase = .driving then
      let p := s.pn.bookFrame r
      .next { s with pn := { p with run := some (r.advance p.shown) } }
    else .next s
  | none => .next s

/-! ## The CRC of SHOWN (R546) -/

/-- The check of SHOWN against SHOWN_CRC; a mismatch is logged, with DATA that no rule states. -/
def State.checkShown (s : State) : State :=
  if imageCrc s.pn.shown = s.pn.shownCrc then s
  else
    let s := { s with pn.shownValid := false, pn.shownFail := true }
    s.eventOpen 15

/-- SHOWN_CRC_CHECK (R546): a check that falls due while BUSY = 1 is made when BUSY falls. -/
def execShownCrcCheck (s : State) : Host.Outcome State Fault Refusal :=
  if !s.powered 6 then .next s
  else if s.pn.busy then .next { s with pn.checkDue := true }
  else .next s.checkShown

/-! ## End of a command (R535, R543, R549) -/

/-- BUSY falls: held writes apply, a held close of CLK_GATE.PANEL acts, a due check is made. -/
def State.panelIdle (s : State) : State :=
  let p := s.pn
  let p := { p with run := none, pumpOk := false, wave := p.wave.apply p.waveHeld, waveHeld := [] }
  let s := { s with pn := { p with checkDue := false } }.settleGates
  if p.checkDue then s.checkShown else s

/-- PANEL_DISCHARGE_END (R543): a drawn image becomes SHOWN; outputs float and the pump stops. -/
def execPanelDischargeEnd (s : State) : Host.Outcome State Fault Refusal :=
  match s.pn.run with
  | some r =>
    if r.phase = .discharging then
      let s := if r.cmd = .balance ∨ r.cut then s
        else
          { s with pn.shown := r.image, pn.shownCrc := imageCrc r.image, pn.shownValid := true, rtc.panelInt := false,
                   pn.interrupted := s.pn.interrupted && r.cmd != .clearRedraw }
      .next s.panelIdle
    else .next s
  | none => .next s

/-! ## Interruption (Table 19-6) -/

/-- PD7 loses its power: the glass stays as it is and the command ends. -/
def State.panelPowerLost (s : State) : State := if s.pn.busy then s.panelIdle else { s with pn.pumpOk := false }

/-- The panel fence rises: a command goes to its discharge, cut short. -/
def State.panelFenced (s : State) : State :=
  match s.pn.run with
  | some r =>
    { s with pn.run := some { r with phase := .discharging, pass := 0, cut := true }, pn.interrupted := true,
             pn.shownValid := false }
  | none => s

end Sys2Proof.Machine
end

