-- ==== Sys2Proof/Machine/Fences.lean ====
section
/-! DEFINITION. Entries on their way to the Surveyors, fences and what their rise and fall do, and the bridges between
the dies (R30 to R41, R47, R48, R435). -/
namespace Sys2Proof.Machine

/-! ## Result entries of the Surveyors (R431, R435) -/

/-- The entries delivered to a Surveyor and not collected. -/
def State.entriesOf (s : State) (e : Eng) : List Entry := if e = .s1 then s.sv.resS1 else s.sv.resS0

def State.setEntries (s : State) (e : Eng) (l : List Entry) : State :=
  if e = .s1 then { s with sv.resS1 := l } else { s with sv.resS0 := l }

/-- The entry is of the kind and chord that STAMP or CORR asks for (R435). -/
def entryMatches (grid : Bool) (slot : BitVec 8) (en : Entry) : Bool :=
  en.grid == grid && (slot == 0xFF#8 || en.chord.val == slot.toNat)

/-- The oldest entry that satisfies `p`, and the others in their order. -/
def takeEntry (p : Entry → Bool) : List Entry → Option (Entry × List Entry)
  | [] => none
  | en :: l => if p en then some (en, l) else (takeEntry p l).map fun r => (r.1, en :: r.2)

/-- The four posted stores of an entry. -/
def entryStores (en : Entry) (a : Nat) : List StoreTarget :=
  [.word64 a en.w0, .word64 (a + 8) en.w1, .word64 (a + 16) en.w2, .word64 (a + 24) en.w3]

/-- An entry is collected: it leaves the list, its words are posted, and g[d] receives the chord number (R435). Its
traverse closes where it was the last (R287). -/
def State.collect (s : State) (e : Eng) (d : GReg) (addr : Nat) (en : Entry) (rest : List Entry) : State :=
  let s := (s.setEntries e rest).modEngine e fun x =>
    ({ x with stores := x.stores ++ entryStores en addr }.setReg d (BitVec.ofNat 64 en.chord.val)).done
  s.collected en

/-- A STAMP or CORR that waits takes an entry that matches, if there is one. -/
def State.serveEntry (s : State) (e : Eng) : State :=
  match (s.engine e).wait with
  | some (.entry grid d addr slot) =>
    match takeEntry (entryMatches grid slot) (s.entriesOf e) with
    | some (en, rest) => s.collect e d addr en rest
    | none => s
  | _ => s

/-- An entry reaches the Surveyor that issued its shot (R47). -/
def State.deliverEntry (s : State) (en : Entry) : State :=
  let e : Eng := if en.toS1 then .s1 else .s0
  (s.setEntries e (s.entriesOf e ++ [en])).serveEntry e

/-- The oldest entry of a Sense result queue is delivered, and a held entry of the sheet may enter (R47, R48, R613). -/
def State.deliverOne (s : State) (south : Bool) : State :=
  match (if south then s.sv.queueS else s.sv.queueN) with
  | [] => s
  | en :: rest =>
    let s := if south then { s with sv.queueS := rest } else { s with sv.queueN := rest }
    (allChords.filter fun c => decide (10 ≤ c.val) == south).foldl (fun s c => s.sendUnsent c) (s.deliverEntry en)

/-- The chord's entry for a command that its island never accepted (R286). -/
def State.abortCommand (s : State) (cmd : ShotCmd) : Entry :=
  (cmd.blank s.sv.grid (Mark.aborted ||| cmd.marks) (s.chord cmd.chord).range (s.assignedLane cmd.chord)
    s.gradeNow).entry 0#40 0#64 0#64

/-- Everything that a chord still owes becomes an entry: the shot in flight and those correlated are cut short, those
accepted or on their way are not fired (R94, R192). -/
def State.drainChord (s : State) (c : Chord) : State :=
  let s := s.cutShots c
  let ch := s.chord c
  let s := (s.setChord c { ch with waiting := [] }).abortShots c ch.waiting
  let cmds := s.sv.inTransit.filter fun m => m.chord == c
  let s := { s with sv.inTransit := s.sv.inTransit.filter fun m => m.chord != c }
  cmds.foldl (fun s m => s.pushEntry c (s.abortCommand m)) s

/-- Up to `n` entries of a queue are delivered. -/
def State.deliverUpTo (s : State) (south : Bool) : Nat → State
  | 0 => s
  | n + 1 => (s.deliverOne south).deliverUpTo south n

/-- The Sense control island of a sheet drains its result queue (R94): a stall ends, and every entry owed is
delivered. -/
def State.drainSheet (s : State) (south : Bool) : State :=
  let q : Fin 7 := if south then 1 else 0
  let chords := allChords.filter fun c => decide (10 ≤ c.val) == south
  let s := { s with pt.stalled := s.pt.stalled.set q false }
  let s := chords.foldl (fun s c => s.drainChord c) s
  let held := (chords.map fun c => (s.chord c).unsent.length).sum
  (s.deliverUpTo south (held + (if south then s.sv.queueS else s.sv.queueN).length)).boostQuietEnd

/-! ## Stalls (R613) -/

/-- A stall ends: results of the sheet may enter its queue again, or senders to the engine's queue go on. -/
def State.endStall (s : State) (q : Fin 7) : State :=
  let s := { s with pt.stalled := s.pt.stalled.set q false }
  if q.val < 2 then
    (allChords.filter fun c => decide (10 ≤ c.val) == decide (q.val = 1)).foldl (fun s c => s.sendUnsent c) s
  else match engOfNum (q.val - 2) with
    | some e => s.serveSends e
    | none => s

/-- Shot commands on their way through a path that closes are refused there, and none is delivered late (R32, R35,
R41). The Core bridge port answers each with an ABORTED entry (R286), unless its own fence is what closes the path. -/
def State.refuseInTransit (s : State) (p : Chord → Bool) (answer : Bool) : State :=
  let cmds := s.sv.inTransit.filter fun m => p m.chord
  let s := { s with sv.inTransit := s.sv.inTransit.filter fun m => !p m.chord }
  if answer then cmds.foldl (fun s m => s.deliverEntry (s.abortCommand m)) s else s

def State.endStalls (s : State) : State := ([0, 1, 2, 3, 4, 5, 6] : List (Fin 7)).foldl (fun s q => s.endStall q) s

/-! ## Fences (R31 to R35) -/

def allClusters : List Cluster :=
  allChords.map Cluster.chord ++
    [.spare, .aux, .clock, .metrology, .survey, .service, .customer, .port, .twin, .memory, .test, .drive, .panel, .keep,
     .backup, .senseCtlN, .senseCtlS, .bridge]


/-- The chord returns through probation when its fence falls (R33, R308). -/
def ChordSt.fenceFell (ch : ChordSt) : ChordSt :=
  match ch.state with
  | .off => ch
  | .active => ch.enterProbation .held
  | .held => ch.enterProbation .held
  | .failed => ch.enterProbation .failed
  | .probation =>
    { ch with probCount := 0#4, seedAt := none, seedTimes := none, dtRef := none, reacqCount := 0#3, reacqDt := none }

/-- A die is held in reset (R39). -/
def State.dieReset (s : State) : Die → Bool
  | .drive => s.boot.driveReset
  | .sense => s.boot.senseReset
  | .core => s.boot.coreReset
  | .keep => s.boot.keepReset

/-- The far die of a bridge. -/
def bridgeDie : Bridge → Die
  | .senseN => .sense
  | .senseS => .sense
  | .keep => .keep
  | .drive => .drive

/-- The domain of the far end of a bridge (Tables 01-2, 01-4). -/
def bridgeDomain : Bridge → Nat
  | .senseN => 4
  | .senseS => 5
  | .keep => 1
  | .drive => 6

/-- A chord whose commands and results cross a bridge. -/
def crosses (b : Bridge) (c : Chord) : Bool := b == sheetBridge (decide (10 ≤ c.val))

/-- The link of a bridge goes down: what is pending on it is refused (R41). -/
def State.linkDown (s : State) (b : Bridge) (answer : Bool) : State :=
  let s := { s with br := s.br.set b { (s.br.get b) with up := false, repeated := false, held := [] } }
  s.refuseInTransit (crosses b) answer

/-- Both ends of a bridge have left reset and the bridge cluster's fence is down (R35, R41). -/
def State.mayLink (s : State) (b : Bridge) : Bool :=
  !s.dieReset .core && !s.dieReset (bridgeDie b) && !s.fenced .bridge && s.powered 3

/-- The link handshake of a bridge: link-up where both ends can answer (R41). -/
def State.linkUp (s : State) (b : Bridge) : State :=
  if s.mayLink b then { s with br := s.br.set b { (s.br.get b) with up := true, repeated := false } } else s

def allBridgeEnds : List Bridge := [.senseN, .senseS, .keep, .drive]

/-- Every bridge whose ends have left reset goes link-up. -/
def State.linkAll (s : State) : State := allBridgeEnds.foldl (fun s b => s.linkUp b) s

/-- The Core end of every bridge is link-down (R35). -/
def State.unlinkAll (s : State) : State := allBridgeEnds.foldl (fun s b => s.linkDown b false) s

/-- What the rise of a fence does to its cluster (R32 to R35, Table 13-8, Table 19-6, Table 20-10). -/
def State.fenceRises (s : State) (cl : Cluster) : State :=
  match cl with
  | .chord c => (s.cutShots c).boostQuietEnd
  | .spare => s.interruptStep false
  | .aux => s.abandonConversions false
  | .metrology => ({ s with ab.frozen := true }).abortDelivery 3
  | .customer => s.abortDelivery 3
  | .panel => s.panelFenced
  | .bridge => s.unlinkAll.event 3
  | .senseCtlN => s.refuseInTransit (crosses .senseN) true
  | .senseCtlS => s.refuseInTransit (crosses .senseS) true
  | _ => s

/-- What the fall of a fence does. -/
def State.fenceFalls (s : State) (cl : Cluster) : State :=
  match cl with
  | .chord c => s.modChord c ChordSt.fenceFell
  | .aux => s.excitationReturns
  | .metrology => s.releaseAo
  | .customer => s.releaseAo
  | _ => s

/-- A cause raises a fence (R31). -/
def State.raiseFence (s : State) (cl : Cluster) (f : Fence → Fence) : State :=
  let was := s.fenced cl
  let s := s.modFence cl f
  if !was && s.fenced cl then s.fenceRises cl else s

/-- A cause ends; the fence falls unless another one holds it. -/
def State.lowerFence (s : State) (cl : Cluster) (f : Fence → Fence) : State :=
  let was := s.fenced cl
  let s := s.modFence cl f
  if was && !s.fenced cl then s.fenceFalls cl else s

def setParity (b : Bool) (f : Fence) : Fence := { f with parity := b }
def setLockstep (b : Bool) (f : Fence) : Fence := { f with lockstep := b }
def setWatchdog (b : Bool) (f : Fence) : Fence := { f with watchdog := b }
def setClockCause (b : Bool) (f : Fence) : Fence := { f with clock := b }
def setDown (b : Bool) (f : Fence) : Fence := { f with down := b }
def setSys (b : Bool) (f : Fence) : Fence := { f with sys := b }

/-- The clusters of a domain, and the fences that the safe state raises (R31, R136). -/
def clustersOf (pd : Nat) : List Cluster := allClusters.filter fun cl => clusterDomain cl == pd

def measuringClusters : List Cluster := allChords.map Cluster.chord ++ [.spare, .aux]

/-! ## Bridges (R40, R41) -/

/-- A transfer is acknowledged (R40). -/
def State.acknowledge (s : State) (b : Bridge) (payload : W64) (tag : Byte) : State :=
  let x := s.br.get b
  ({ s with br := s.br.set b { x with repeated := false, last := some (payload, tag) } }).hop (bridgeHops b)

/-- BRIDGE_TRANSFER (R40): the payload and its tag cross, and are acknowledged. Towards an unpowered sheet the isolation
cell gives no acknowledge and nothing arrives (R36, R37); on a link that is down the transfer is refused (R41); while
the clocks of the far island stand still it is held (R28). -/
def execBridgeTransfer (b : Bridge) (payload : W64) (tag : Byte) (s : State) : Host.Outcome State Fault Refusal :=
  let x := s.br.get b
  if !s.powered 3 ∨ !s.powered (bridgeDomain b) then .next s
  else if !x.up then .next (s.bridgeRefuse b)
  else if !s.clocksRun then .next { s with br := s.br.set b { x with held := x.held ++ [(payload, tag)] } }
  else .next (s.acknowledge b payload tag)

/-- The clocks run again: the transfers held on a bridge are acknowledged in their order (R24, R28). -/
def State.releaseTransfers (s : State) (b : Bridge) : State :=
  let held := (s.br.get b).held
  let s := { s with br := s.br.set b { (s.br.get b) with held := [] } }
  held.foldl (fun s t => s.acknowledge b t.1 t.2) s

def State.releaseBridges (s : State) : State := allBridgeEnds.foldl (fun s b => s.releaseTransfers b) s

/-- BRIDGE_PARITY_ERROR (R41): the sender repeats the transfer once; a second error refuses it. -/
def execBridgeParityError (b : Bridge) (s : State) : Host.Outcome State Fault Refusal :=
  let x := s.br.get b
  if !x.up ∨ !s.powered (bridgeDomain b) then .next s
  else if x.repeated then
    .next (({ s with br := s.br.set b { x with repeated := false } }.event 3).faultNoReset 0x0D#8 (bridgeUnit b))
  else .next { s with br := s.br.set b { x with repeated := true } }

/-- BRIDGE_LINK_DOWN (R41): the link is found down, and pending transfers are refused. -/
def execBridgeLinkDown (b : Bridge) (s : State) : Host.Outcome State Fault Refusal :=
  if (s.br.get b).up then .next ((s.linkDown b true).bridgeRefuse b) else .next s

/-- BRIDGE_LINK_UP (R41): both ends have left reset and exchanged the handshake. -/
def execBridgeLinkUp (b : Bridge) (s : State) : Host.Outcome State Fault Refusal := .next (s.linkUp b)

end Sys2Proof.Machine
end

