-- ==== Sys2Proof/Machine/Reset.lean ====
section
/-! DEFINITION. Resets and the domains (ch. 03, ch. 05): what each domain forgets, power-up and power-down of a domain,
the commit sequence, and the reset kinds of Table 05-1. -/
namespace Sys2Proof.Machine

/-! ## Locking of the perturbations (R607) -/

/-- PERTURB_STAT (Table 23-65): UNLOCKED, KEY_HALF or PT_REFUSED, and the counts. -/
def perturbStatWord (p : Perturb) : W32 :=
  placeB 32 0 p.unlocked ||| placeB 32 1 p.bit1 ||| place 32 2 p.delayed ||| place 32 8 p.offset ||| place 32 14 p.drops |||
    place 32 20 p.stalls ||| place 32 26 p.synths

/-- Perturbation is locked: the timing settings and the stalls cease at once, the flow settings at the next boundary;
an entry holds PERTURB_STAT at the lock (R607). No rule gives its CODE: a free value. -/
def State.lockPerturb (s : State) : State :=
  if !s.pt.unlocked then s
  else
    let w := perturbStatWord s.pt
    let s := { s with pt.unlocked := false, pt.bit1 := false, pt.delay := Vector.replicate 32 0#8,
                      pt.flow := [], pt.lockPending := true }.endStalls.releaseAo
    (s.logHw ((s.free 0).setWidth 12).toNat w).usedFree 1

/-! ## What a domain forgets (R153, R619, R620) -/

/-- An engine of a domain that loses its state: as after reset, halted or not as before. -/
def Engine.forget (x : Engine) : Engine := { Engine.reset x.halt 0#32 with wait := none }


/-- PD1: the store controller, the event stage and the update controller; keys and arrays stay. -/
def State.forgetKeep (s : State) : State :=
  { s.tearFlash.storeReset with upd := Update.reset, pwr.saveArea := [] }

/-- PD2: the survey and metrology clusters. RUN and the traverse timer lie in PD0; what the Sense die holds of the band
and of its queues stays. Who owns the chords follows from DEV_STATE, which stays too (R280). -/
def State.forgetMetrology (s : State) : State :=
  let v := s.sv
  let sv : Survey := { Survey.reset with
    run := v.run, tc := v.tc, timeBase := v.timeBase, travPeriod := v.travPeriod, travNext := v.travNext,
    sleepCount := v.sleepCount, senseTemp := v.senseTemp, sensorBand := v.sensorBand, band := v.band,
    chordEn := v.chordEn, queueN := v.queueN, queueS := v.queueS, vdrvOk := v.vdrvOk, ownerS1 := v.ownerS1,
    boundaryAt := v.boundaryAt, lateStart := v.lateStart }
  let s := { s with eng.s0 := s.eng.s0.forget, eng.s1 := s.eng.s1.forget, eng.k01 := s.eng.k01.forget, sv := sv,
                    fl := Flow.reset, stats := Vector.replicate 20 none,
                    ab := { Abacus.cleared with jseq := s.ab.jseq }, boot.rodsLoaded := false }
  s.mapChords fun _ ch => ch.emptyLedger

/-- PD3: service and customer engines, the hub, ports, outputs, delivery, the twin, perturbation, SRAM, result page. The
I²C matcher of PD0 keeps I2C_STRETCH. -/
def State.forgetService (s : State) : State :=
  let s := s.lockPerturb
  { s with eng.k2 := s.eng.k2.forget, eng.k3 := s.eng.k3.forget, er := EngineRegs.reset,
           sys := { SysRegs.reset with state := s.sys.state, left := s.sys.left }, clk.gateReg := 0x3FFF#14,
           clk.gateOpen := 0x3FFF#14, cr := Crypt.reset, prt := { Ports.reset with i2cStretch := s.prt.i2cStretch }, out := Outputs.reset,
           dl := Delivery.reset, tw := { Twin.reset with lineLow := s.tw.lineLow }, pt := { Perturb.reset with
             lockPending := s.pt.lockPending, stopOffset := s.pt.stopOffset, drop := s.pt.drop, synth := s.pt.synth },
           sram := [], page := [], aux.entry := Vector.replicate 6 AuxEntry.reset }

/-- A chord island: its words, captures and results; what the survey knows of the chord stays. -/
def ChordSt.forget (ch : ChordSt) : ChordSt :=
  { ChordSt.reset with
    state := ch.state, probFrom := ch.probFrom, probCount := ch.probCount, perturbed := ch.perturbed,
    lastAccept := ch.lastAccept, seedAt := ch.seedAt, dtRef := ch.dtRef, sos := ch.sos, times := ch.times,
    seedTimes := ch.seedTimes, reacqCount := ch.reacqCount, reacqDt := ch.reacqDt, saved := ch.saved, last := ch.last }

/-- PD4: clocks, chords 0 to 9, their lanes, L20, L21 and the auxiliary front end; gates and X32 lie elsewhere, and so do
the auxiliary entries of the result page. -/
def State.forgetSenseN (s : State) : State :=
  let k := s.clk
  let clk : Clock := { Clock.reset with
    gateReg := k.gateReg, gateOpen := k.gateOpen, x32Run := k.x32Run, ovnrdy := k.ovnrdy,
    holdOnExit := k.holdOnExit }
  let s := s.abandonStep
  let s := { s with clk := clk,
                    aux := { Aux.reset with blankLevel := s.aux.blankLevel, entry := s.aux.entry },
                    sv.queueN := [] }
  let s := s.mapChords fun c ch => if c.val < 10 then ch.forget else ch
  (s.mapLanes fun l x => if 10 ≤ l.val ∧ l.val < 20 then x else LaneSt.reset).checkCalAll

/-- PD5: chords 10 to 19 and their lanes. -/
def State.forgetSenseS (s : State) : State :=
  let s : State := { s with sv.queueS := [] }
  let s := if s.lr.step.any fun st => 10 ≤ st.lane.val && st.lane.val < 20 then s.abandonStep else s
  let s := s.mapChords fun c ch => if c.val < 10 then ch else ch.forget
  (s.mapLanes fun l x => if 10 ≤ l.val ∧ l.val < 20 then LaneSt.reset else x).checkCalAll

/-- PD6: port-guard north and south, the boost and the valve stages. -/
def State.forgetDrive (s : State) : State :=
  let s := s.valvesOff.abortDelivery 5
  let s := { s with pn := Panel.reset }
  s.mapChords fun _ ch => { ch with portA := .park, portB := .park }

def State.forget (s : State) (pd : Nat) : State :=
  match pd with
  | 1 => s.forgetKeep
  | 2 => s.forgetMetrology
  | 3 => s.forgetService
  | 4 => s.forgetSenseN
  | 5 => s.forgetSenseS
  | 6 => s.forgetDrive
  | 7 => s.panelPowerLost
  | _ => s

/-! ## Power-down and power-up of one domain (R94, Tables 03-5, 03-6) -/

/-- The power-down of a domain begins: the Sense control island of PD4 or PD5 drains its result queue (R94). -/
def State.domainFalling (s : State) (pd : Nat) : State :=
  if pd = 4 then s.drainSheet false else if pd = 5 then s.drainSheet true else s

/-- The domain is powered down: what has come since its drain began is drained too, then it is fenced, isolated, and its
supply switch opened. -/
def State.domainOff (s : State) (pd : Nat) : State :=
  let s := s.domainFalling pd
  let s := (clustersOf pd).foldl (fun s cl => s.raiseFence cl (setDown true)) s
  let s := s.forget pd
  let m : Byte := ~~~(1#8 <<< pd)
  let s := { s with pwr.on := s.pwr.on &&& m, pwr.ready := s.pwr.ready &&& m }
  match pd with
  | 1 => { s with boot.keepReset := true }.linkDown .keep true
  | 4 => ({ s with boot.senseReset := true }.linkDown .senseN true).linkDown .senseS true
  | 6 => { s with boot.driveReset := true }.linkDown .drive true
  | _ => s

/-- The soft start of a domain begins. -/
def State.domainRising (s : State) (pd : Nat) : State := { s with pwr.on := s.pwr.on ||| (1#8 <<< pd) }

/-- The survey comes up: tc takes the boundaries counted meanwhile (R389). A traverse in progress has begun before the
survey was up: it started late (R108, R288). -/
def State.surveyUp (s : State) : State :=
  { s with sv.tc := s.sv.tc + BitVec.ofNat 64 s.sv.sleepCount, sv.sleepCount := 0,
           sv.lateStart := s.sv.lateStart || (s.sv.run && s.sv.sleepCount != 0) }

/-- The domain reports ready: its RWT fields have been restored outside BOOT, its isolation opens, its fences fall, and
the die that waits for it leaves reset, which lets its bridges link (R39, R41, R94, R154, R157). -/
def State.domainOn (s : State) (pd : Nat) : State :=
  let s := { s with pwr.on := s.pwr.on ||| (1#8 <<< pd), pwr.ready := s.pwr.ready ||| (1#8 <<< pd) }
  let s := if s.boot.restored then s.restoreDomains s.settings [pd] else s
  let s := (clustersOf pd).foldl (fun s cl => s.lowerFence cl (setDown false)) s
  match pd with
  | 1 => { s with boot.keepReset := false }.linkUp .keep
  | 2 => s.surveyUp
  | 3 => s.linkAll
  | 4 => ({ s with boot.senseReset := false }.linkUp .senseN).linkUp .senseS
  | 6 => { s with boot.driveReset := false }.linkUp .drive
  | _ => s

/-- The next queued change of a domain begins (R94). -/
def State.nextChange (s : State) : State :=
  match s.pwr.changes with
  | [] => { s with pwr.change := none }
  | c :: cs =>
    let s := { s with pwr.change := some c, pwr.changes := cs }
    if c.up then s.domainRising c.pd.val else s.domainFalling c.pd.val

/-! ## Resets of the whole device (R144 to R149) -/

/-- The source that the power path selects (R82). -/
def selectSource (pathBat vinOk vbatOk : Bool) : Source :=
  if pathBat then (if vbatOk then .vbat else if vinOk then .vin else .none)
  else if vinOk then .vin
  else if vbatOk then .vbat
  else .none

/-- PD1 to PD7 are reset and unpowered: what PD0, the key store and the arrays hold stays (Tables 05-1, 05-3). Of
PWR_MODE the path selection takes its reset value AUTO, and the path selects by it (R82, R153). -/
def State.resetIslands (s : State) : State :=
  let s := s.tearFlash
  let p := s.pwr
  let pwr : Power := { Power.reset with
    driveOt := p.driveOt, otRefused := p.otRefused, driveHot := p.driveHot, wakeCause := p.wakeCause, wakeEn := p.wakeEn,
    wakeLead := p.wakeLead, vbatLowTh := p.vbatLowTh, vinOk := p.vinOk, vbatOk := p.vbatOk, vbkOk := p.vbkOk,
    vbatLow := p.vbatLow, pfail := p.pfail, source := selectSource false p.vinOk p.vbatOk, vinIlim := p.vinIlim,
    vbatIlim := p.vbatIlim, vioLow := p.vioLow, vinFell := p.vinFell, change := none, changes := [] }
  let shadow (x : RtcShadow) : RtcShadow := { x with stale := true }
  { s with
    eng := Engines.reset, er := EngineRegs.reset, br := Bridges.reset,
    fences := (Vector.replicate 38 Fence.unpowered).set 34 Fence.clear, sys := { SysRegs.reset with state := .backup },
    pwr := pwr,
    boot := { Boot.reset with pinLow := s.boot.pinLow, backupReset := s.boot.backupReset, ftest := s.boot.ftest },
    clk := { Clock.reset with x32Run := s.clk.x32Run, ovnrdy := s.clk.ovnrdy },
    chords := Vector.replicate 20 ChordSt.reset, lanes := Vector.replicate 22 LaneSt.reset, lr := LaneRegs.reset,
    fl := Flow.reset,
    sv := { Survey.reset with sleepCount := s.sv.sleepCount }, stats := Vector.replicate 20 none, aux := { Aux.reset with blankLevel := s.aux.blankLevel },
    pt := Perturb.reset, log := EventLog.reset, st := s.storeReset.st, ab := Abacus.cleared, upd := Update.reset,
    cr := Crypt.reset, prt := Ports.reset, out := Outputs.reset, dl := Delivery.reset,
    tw := { Twin.reset with lineLow := s.tw.lineLow }, pn := Panel.reset, sram := [], page := [],
    rtc.shadow := s.rtc.shadow.map shadow }

/-- BOOT begins: the regulator runs in HP and PD1, PD3, PD2, PD4 and PD6 come up in that order (R157). The factory test
state does not measure (R62): nothing boots in it. -/
def State.startBoot (s : State) : State :=
  if s.boot.pinLow || s.boot.backupReset || s.boot.ftest || s.pwr.source == .none then s
  else
    { s with sys.state := .boot,
             pwr.change := some ⟨1, true⟩, pwr.changes := [⟨3, true⟩, ⟨2, true⟩, ⟨4, true⟩, ⟨6, true⟩],
             pwr.on := s.pwr.on ||| 2#8 }

/-- The reset without a commit: brown-out, supply loss, metrology fence (Table 05-1). A page in flight is torn. -/
def State.hardReset (s : State) : State := (if s.powered 1 then s.tearPage else s).resetIslands.startBoot

/-- The rods are committed in the sequence of R145, unless the Abacus holds nothing newer than the store. -/
def State.commitRods (s : State) (activation : Bool) : State :=
  if s.powered 2 && s.boot.rodsLoaded && !s.ab.frozen && s.st.bp != 3#2 then s.putRodRecord activation else s

/-- The sequence of R145: the page in flight is finished, the rods are committed, PD1 to PD7 enter reset. -/
def State.commitReset (s : State) (activation : Bool) : State :=
  let s := if s.powered 1 then s.kick.finishPage else s
  ((s.commitRods activation).resetIslands).startBoot

/-- A reset by command (R146): the cause is latched first. No rule names a unit for HOST_RESET and FW_RESET, so that
UNIT is 0x00 (DESIGN CHOICE, log 61). -/
def State.deviceReset (s : State) (code : Byte) (activation : Bool) : State :=
  (s.faultReset code 0#8).commitReset activation

/-- DEV_RESET (R146, R399): ignored from engines. HOST_CTRL lies in PD3. -/
def execDevReset (q : Requester) (s : State) : Host.Outcome State Fault Refusal :=
  match q with
  | .eng _ => .next s
  | _ => .next (s.byWrite q 6 fun s => s.deviceReset 0x09#8 false)

/-- RESET_N_ASSERT (R145): an accepted low. While it stays low the device is in BACKUP. -/
def execResetNAssert (s : State) : Host.Outcome State Fault Refusal :=
  if s.boot.pinLow then .next s
  else
    let s := { s.faultReset 0x05#8 0#8 with boot.pinLow := true }
    .next (s.commitReset false)

/-- RESET_N_RELEASE (R145, R62): the filtered rising edge starts BOOT, or the factory test state where FTEST is high. The
ball is tied, so that every later release of a reset finds the same level. -/
def execResetNRelease (ftest : Bool) (s : State) : Host.Outcome State Fault Refusal :=
  if s.boot.pinLow then .next ({ s with boot.pinLow := false, boot.ftest := ftest }).startBoot else .next s

/-- BACKUP_POWER_ON_RESET (R144): the backup rail falls below its threshold; PD0 and every other domain are reset. -/
def execBackupPowerOnReset (s : State) : Host.Outcome State Fault Refusal :=
  let s := if s.powered 1 then s.tearPage else s
  let s := { s with boot.backupReset := true }.resetIslands
  let pwr : Power := { s.pwr with
    on := 0#8, ready := 0#8, driveOt := false, otRefused := false, wakeCause := 0#8, wakeEn := 0#7, wakeLead := 4#8,
    vbatLowTh := 4#4, vinFell := false, source := .none }
  .next { s with pwr := pwr, rtc := Rtc.reset, fault := FaultLatch.powerOn, clk.x32Run := false, sys.state := .off,
                 sv.sleepCount := 0,
                 fences := s.fences.set 34 Fence.unpowered }

/-- BACKUP_RESET_RELEASE (R84): PD0 is powered; BOOT begins where a source qualifies. -/
def execBackupResetRelease (s : State) : Host.Outcome State Fault Refusal :=
  if s.boot.backupReset then
    let s := { s with boot.backupReset := false, pwr.on := 1#8, pwr.ready := 1#8, sys.state := .backup,
                      pwr.source := selectSource s.pwr.pathBat s.pwr.vinOk s.pwr.vbatOk,
                      fences := s.fences.set 34 Fence.clear }
    .next s.startBoot
  else .next s

/-- A brown-out (R91): the mode of the regulator names the cause, the acting current limits are recorded. -/
def State.brownOut (s : State) (code unit : Byte) : State :=
  (s.latchFault code unit true s.pwr.vinIlim s.pwr.vbatIlim).hardReset

/-- The regulator runs in HP: by REG_MODE, but in NAP retention it runs in LP (R88, Table 03-11). -/
def State.regRunsHP (s : State) : Bool := s.pwr.regHP && s.pwr.sleep != SleepPhase.asleep false

/-- BROWN_OUT (R91). -/
def execBrownOut (s : State) : Host.Outcome State Fault Refusal :=
  if s.pwr.on &&& 0xFE#8 = 0#8 then .next s
  else .next (s.brownOut (if s.regRunsHP then 0x04#8 else 0x03#8) 0#8)

/-- DIE_POWER_ON_RESET (R144): as a brown-out of the whole device, the die named. -/
def execDiePowerOnReset (d : Die) (s : State) : Host.Outcome State Fault Refusal :=
  if s.pwr.on &&& 0xFE#8 = 0#8 then .next s else .next (s.brownOut 0x04#8 (dieUnit d))

/-- METROLOGY_FENCE_RESET (R147): 20 µs after the fence rose; the cause has been latched. -/
def execMetrologyFenceReset (s : State) : Host.Outcome State Fault Refusal :=
  if s.boot.fenceReset then .next s.hardReset else .next s

/-! ## Causes of fences (R31, R405 to R407) -/

/-- The metrology fence rises: the cause is latched as one that resets (R34, R147). -/
def State.metrologyFence (s : State) (code unit : Byte) (f : Fence → Fence) : State :=
  let s := (s.faultReset code unit).raiseFence .metrology f
  { s with boot.fenceReset := true }

/-- LOCKSTEP_MISMATCH (R405). -/
def execLockstepMismatch (s : State) : Host.Outcome State Fault Refusal :=
  if s.powered 2 then .next (s.metrologyFence 0x06#8 (clusterUnit .metrology) (setLockstep true)) else .next s

/-- The flash address of an image slot (Table 16-11). -/
def slotBase : ImageSource → Nat
  | .slotA => flashBase 0
  | .slotB => flashBase 1
  | .recovery => flashBase 2

/-- A little-endian word of the code store. -/
def Store.codeWord (st : Store) (a : Nat) : Nat := leNat (st.code.bytes 0xFF#8 a 4)

/-- The image entry point of an engine (Table 17-2). -/
def State.entryPoint (s : State) (e : Eng) : W32 :=
  match s.boot.running with
  | some src => BitVec.ofNat 32 (s.st.codeWord (slotBase src + 0x20 + 4 * engNum e))
  | none => 0#32

/-- An engine restarts at its entry point with its data memory and registers clear (R407). -/
def State.restartEngine (s : State) (e : Eng) : State :=
  let pc := s.entryPoint e
  s.modEngine e fun x =>
    { Engine.reset x.halt pc with prog := x.prog, loaded := x.loaded, wdEn := x.wdEn, inbox := x.inbox }

/-- The engines of a cluster. -/
def clusterEngines : Cluster → List Eng
  | .survey => [.s0, .s1]
  | .metrology => [.k01]
  | .service => [.k2]
  | .customer => [.k3]
  | _ => []

/-- A watchdog or parity fence outside the metrology cluster restarts the cluster's engines and falls again (R407); a
restart of the survey cluster leaves no ledger. -/
def State.restartCluster (s : State) (cl : Cluster) (f : Fence → Fence) : State :=
  let s := (clusterEngines cl).foldl (fun s e => s.restartEngine e) s
  let s := if cl = .survey then s.mapChords fun _ ch => ch.emptyLedger else s
  s.lowerFence cl f

/-- WATCHDOG_EXPIRY (R406): the fence of the engine's cluster rises with cause WATCHDOG. -/
def execWatchdogExpiry (e : Eng) (s : State) : Host.Outcome State Fault Refusal :=
  let x := s.engine e
  if !s.powered (clusterDomain (engCluster e)) ∨ !x.wdEn ∨ x.halt ∨ x.brkHalt ∨ x.wait = some .doze then .next s
  else if e = .k01 then .next (s.metrologyFence 0x07#8 (engUnit e) (setWatchdog true))
  else
    let s := (s.raiseFence (engCluster e) (setWatchdog true)).faultNoReset 0x07#8 (engUnit e)
    .next (s.restartCluster (engCluster e) (setWatchdog false))

/-- PARITY_ERROR (R31, R35, R407): the metrology and bridge clusters lead to a reset; a program memory leads to a
firmware reset; other engines restart; any other cluster keeps its fence up. -/
def execParityError (cl : Cluster) (inProgram : Bool) (s : State) : Host.Outcome State Fault Refusal :=
  if !s.powered (clusterDomain cl) then .next s
  else
    match cl with
    | .metrology => .next (s.metrologyFence 0x08#8 (clusterUnit .metrology) (setParity true))
    | .bridge =>
      let s := (s.faultReset 0x08#8 (clusterUnit .bridge)).raiseFence .bridge (setParity true)
      .next { s with boot.fenceReset := true, ab.frozen := true }
    | _ =>
      let s := (s.raiseFence cl (setParity true)).faultNoReset 0x08#8 (clusterUnit cl)
      if (clusterEngines cl).isEmpty then .next s
      else if inProgram then .next (s.deviceReset 0x0A#8 false)
      else .next (s.restartCluster cl (setParity false))

end Sys2Proof.Machine
end

