-- ==== Sys2Proof/Machine/Clock.lean ====
section
/-! DEFINITION. Domain enables (R93 to R95), clock sources, the PLL, monitors, the safe state and HOLD, and the clock
gates (ch. 04). -/
namespace Sys2Proof.Machine

/-! ## Domain enables (R93, R94, Table 03-7) -/

/-- Every prerequisite of a domain, those of its prerequisites included (Table 03-4). -/
def prerequisites : Nat → List Nat
  | 2 => [1, 3]
  | 3 => [1]
  | 4 => [1, 3]
  | 5 => [1, 3, 4]
  | 6 => [1, 3]
  | 7 => [1, 3, 6]
  | _ => []

/-- The domains that depend on a domain. -/
def dependents (k : Nat) : List Nat := [1, 2, 3, 4, 5, 6, 7].filter fun j => (prerequisites j).contains k

def maskOf (ks : List Nat) : Byte := ks.foldl (fun m k => m ||| (1#8 <<< k)) 0#8

/-- One enable with its missing prerequisites, unless it needs a domain that the same write disables. -/
def applyEnable (dis en : Byte) (k : Nat) : Byte :=
  let m := maskOf (prerequisites k)
  if m &&& dis = 0#8 then en ||| m ||| (1#8 <<< k) else en

/-- The enables after a write: the disables first, each with its dependents, then the enables (R93). -/
def enablesAfter (old w : Byte) : Byte :=
  let dis := old &&& ~~~w &&& 0xFE#8
  let off := [1, 2, 3, 4, 5, 6, 7].foldl
    (fun m k => if dis.getLsbD k then m ||| (1#8 <<< k) ||| maskOf (dependents k) else m) 0#8
  let add := w &&& ~~~old
  [1, 3, 2, 4, 5, 6, 7].foldl (fun en k => if add.getLsbD k then applyEnable dis en k else en) (old &&& ~~~off)

/-- The changes that lead from one set of enables to another, in the order of R94. -/
def domainChanges (old new : Byte) : List DomainChange :=
  let downs : List (Fin 8) := [7, 6, 5, 4, 2, 3, 1]
  let ups : List (Fin 8) := [1, 3, 2, 4, 5, 6, 7]
  ((downs.filter fun k => old.getLsbD k.val && !new.getLsbD k.val).map fun k => ⟨k, false⟩) ++
    ((ups.filter fun k => !old.getLsbD k.val && new.getLsbD k.val).map fun k => ⟨k, true⟩)

/-- The enables become `new`, and the changes are queued (R94). -/
def State.setEnables (s : State) (new : Byte) : State :=
  let s := { s with pwr.en := new, pwr.changes := s.pwr.changes ++ domainChanges s.pwr.en new }
  if s.pwr.change.isNone then s.nextChange else s

/-! ## The regulator of a device state (R88, R164, Table 03-7) -/

/-- The mode of the regulator in a device state, where Table 03-7 gives one. VIGIL: LP, since no capture runs as HOLD
ends. -/
def State.stateRegulator (s : State) : DevState → Option Bool
  | .line => some true
  | .vigil => some false
  | .service => some (s.pwr.source != Source.vbat)
  | _ => none

/-- The regulator takes the mode of a device state; where QSIGN holds it raised, it returns to that mode (R505). -/
def State.takeRegulator (s : State) (d : DevState) : State :=
  match s.stateRegulator d with
  | none => s
  | some hp =>
    if s.regulatorHeld then s.returnTo hp else s.setRegMode hp

/-- The enables of a device state, with the domains "as used" left as they are (Table 03-7). -/
def State.stateEnables (s : State) (d : DevState) : Byte :=
  match d with
  | .line => 0xFF#8
  | .vigil =>
    let en := s.pwr.en ||| 0x5F#8
    if field s.sv.chordEnReg 10 10 = 0#10 then en &&& 0xDF#8 else en ||| 0x20#8
  | .service => s.pwr.en ||| 0x0F#8
  | _ => s.pwr.en

/-- DEV_STATE becomes `d`, with its domains (R95, Table 03-7); SERVICE releases ROLE, as every state but LINE and VIGIL
does (R583). The clamps that a reset of the Sense die has left armed are disarmed on entry to LINE and VIGIL (R163). The
Regulator column of Table 03-7 is firmware's to set (R102), but at the release of a HOLD (R164): DEDUCED, log 62. -/
def State.enterState (s : State) (d : DevState) : State :=
  let was := s.clampsArmed
  let s := { s with sys.state := d }.setEnables (s.stateEnables d)
  (if d = .line ∨ d = .vigil then { s with aux.clampReset := false } else s.releaseRole).clampsMoved was

/-! ## Grades (R123, R124) -/

/-- A shot in flight takes the lower of its grade and the grade now in force. -/
def State.refreshGrades (s : State) : State :=
  let g := s.gradeNow
  s.mapChords fun _ ch =>
    { ch with cur := ch.cur.map fun (sh : Shot) => if sh.fired then { sh with grade := sh.grade.lower g } else sh }

/-! ## Oscillators and references (R114, R117, R118, R127) -/

/-- A reference runs (R114, R115). -/
def Clock.running (k : Clock) : PllRef → Bool
  | .xref => k.xrefRun
  | .xhf => k.xhfRun
  | .ring => true


/-- The PLL works: enabled, and not stopped by a sleep level (R113, R132). -/
def State.pllActive (s : State) : Bool := s.powered 4 && s.clk.pllEn && s.clocksRun

/-- The reference multiplexer begins its switch; the loss of lock is planned (R121, R127). -/
def State.startRefSwitch (s : State) : State :=
  ({ s with clk.refBusy := true, clk.refHeld := false, clk.pllLock := false, fl.locked := false, clk.qualMet := false,
            clk.relocking := s.clk.pllEn }).refreshGrades

/-- CFG_REFUSED. -/
def State.cfgRefused (s : State) : State := { s with clk.cfgRefused := true }

def refOf : Nat → Option PllRef
  | 0 => some .xref
  | 1 => some .xhf
  | 2 => some .ring
  | _ => none

/-- An accepted selection of the PLL reference: held to the boundary while the survey runs outside HOLD (R131). -/
def State.selectRef (s : State) (r : PllRef) : State :=
  let s := { s with clk.refSel := r, clk.qualMet := false, clk.fellBack := s.clk.fellBack || (s.sys.state == DevState.hold) }
  if s.sv.run && s.sys.state != DevState.hold then { s with clk.refHeld := decide (r ≠ s.clk.refUse) }
  else if r = s.clk.refUse then { s with clk.refHeld := false }
  else s.startRefSwitch

/-- AUTO_SWITCH holds the reference at XHF: it is on, XREF is enabled, and the oven source is cold (R125). HOLD follows
R139 instead. -/
def State.heldAtXhf (s : State) : Bool :=
  s.clk.autoSwitch && s.clk.xrefEn && !s.clk.ovenWarm && s.sys.state != DevState.hold

/-- CLK_SRC.PLL_REF is written (R117, R130, R131). While AUTO_SWITCH holds the reference at XHF, a write of another
source leaves it there (R125). A change that waits for a boundary which no longer comes acts at once when it is written
again. -/
def State.writeRef (s : State) (n : Nat) : State :=
  match refOf n with
  | none => s.cfgRefused
  | some r =>
    if s.clk.refBusy ∨ (r = .xref ∧ !s.clk.ovenFitted) then s.cfgRefused
    else
      let r := if s.heldAtXhf then PllRef.xhf else r
      if r = s.clk.refSel ∧ !(s.clk.refHeld && (!s.sv.run || s.sys.state == DevState.hold)) then s
      else s.selectRef r

/-- CLK_SRC.ENG_SRC is written (R120, R130). In HOLD the engines run on RING (R137): a selection of the PLL is refused
(DEDUCED, log 63). -/
def State.writeEngSrc (s : State) (pll : Bool) : State :=
  if s.clk.engBusy then s.cfgRefused
  else if pll = s.clk.engPll then s
  else if (pll ∧ s.sys.state = .hold) ∨ !clocksOk pll s.clk.kdiv s.clk.sdiv s.pwr.vset then s.cfgRefused
  else { s with clk.engPll := pll, clk.engBusy := true }

/-- CLK_STAT.OVEN_WARM takes a value; AUTO_SWITCH acts on its changes at boundaries (R122, R125). -/
def State.setWarm (s : State) (warm : Bool) : State :=
  { s with clk.ovenWarm := warm, clk.warmMoved := s.clk.warmMoved || (warm != s.clk.ovenWarm) }

/-- XREF_EN, XHF_EN and XHF_LP are written (R114, R116, R117). -/
def State.writeOscEnables (s : State) (xref xhf lp : Bool) : State :=
  let s := { s with clk.xhfEn := xhf, clk.xhfLp := lp, clk.xhfRun := s.clk.xhfRun && xhf }
  if xref && !s.clk.ovenFitted then s.cfgRefused
  else { s with clk.xrefEn := xref, clk.xrefRun := s.clk.xrefRun && xref }.setWarm (s.clk.ovenWarm && xref)

/-- OVEN_CFG has been written: without an oven source OVNRDY is ignored, so that the source does not count as warm
(R117). -/
def State.ovenChecked (s : State) : State := (s.setWarm (s.clk.ovenWarm && s.clk.ovenFitted)).refreshGrades

/-- A write of CLK_SRC. -/
def State.writeClkSrc (s : State) (v : W32) : State :=
  (((s.writeOscEnables (v.getLsbD 0) (v.getLsbD 1) (v.getLsbD 2)).writeRef (field v 3 2).toNat).writeEngSrc
    (v.getLsbD 5)).refreshGrades

/-- CLK_SRC_WRITE (R127). -/
def execClkSrcWrite (q : Requester) (v : W32) (s : State) : Host.Outcome State Fault Refusal :=
  .next (s.byWrite q 16 fun s => s.writeClkSrc v)

/-- A divider field: kept, with CFG_REFUSED, where out of range or above the limit (R120). The limit binds while the
engines run on the PLL or are about to. -/
def State.writeDivider (s : State) (isK : Bool) (d : BitVec 7) : State :=
  let k := if isK then d else s.clk.kdiv
  let f := if isK then s.clk.sdiv else d
  if d.toNat < (if isK then 8 else 10) ∨ 80 < d.toNat ∨
      !clocksOk (s.clk.engPll || s.clk.engUse) k f s.pwr.vset then s.cfgRefused
  else { s with clk.kdiv := k, clk.sdiv := f }

/-- PLL_CFG.EN is written: clearing it is a planned loss of lock (R121). -/
def State.writePllEn (s : State) (en : Bool) : State :=
  if en then { s with clk.pllEn := true }
  else
    ({ s with clk.pllEn := false, clk.pllLock := false, fl.locked := false, clk.qualMet := false,
              clk.relocking := false }).refreshGrades

def State.writePllCfg (s : State) (v : W32) : State :=
  ((s.writePllEn (v.getLsbD 0)).writeDivider true (field v 1 7)).writeDivider false (field v 8 7)

/-- PLL_CFG_WRITE (R120). -/
def execPllCfgWrite (q : Requester) (v : W32) (s : State) : Host.Outcome State Fault Refusal :=
  .next (s.byWrite q 18 fun s => s.writePllCfg v)

/-- The boot ROM selects XHF and enables the PLL at the first moment at which XHF runs (R159). -/
def State.romTakesXhf (s : State) : State :=
  if s.boot.romMapped && !s.boot.coreReset && s.boot.attempt.isSome && s.clk.xhfRun && !s.boot.romXhf then
    ({ s with boot.romXhf := true, clk.pllEn := true }).selectRef .xhf
  else s

/-- OSCILLATOR_START (R114): a source has started and passes its monitor. -/
def execOscillatorStart (o : Osc) (s : State) : Host.Outcome State Fault Refusal :=
  match o with
  | .xref =>
    if s.powered 4 ∧ s.clk.xrefEn then .next { s with clk.xrefRun := true, clk.xrefFail := false } else .next s
  | .xhf =>
    if s.powered 4 ∧ s.clk.xhfEn then
      .next ({ s with clk.xhfRun := true, clk.xhfFail := false }).romTakesXhf
    else .next s
  | .x32 => if s.powered 0 then .next { s with clk.x32Run := true, rtc.x32Seen := true } else .next s

/-- PLL_LOCK (R118): lock on a running reference. -/
def execPllLock (s : State) : Host.Outcome State Fault Refusal :=
  if s.pllActive ∧ !s.clk.refBusy ∧ s.clk.running s.clk.refUse then
    .next { s with clk.pllLock := true, clk.pllStopped := false, clk.relocking := false }
  else .next s

/-- CLOCK_SWITCH_COMPLETE (R127, R128): the output is released on the new clock. -/
def execClockSwitchComplete (m : Mux) (oldDead : Bool) (s : State) : Host.Outcome State Fault Refusal :=
  match m with
  | .pllRef =>
    if s.clk.refBusy then
      .next { s with clk.refBusy := false, clk.refUse := s.clk.refSel, clk.oldDead := s.clk.oldDead || oldDead }
    else .next s
  | .engSrc =>
    if s.clk.engBusy then
      .next { s with clk.engBusy := false, clk.engUse := s.clk.engPll, clk.oldDead := s.clk.oldDead || oldDead }
    else .next s

/-- The VCO gives edges: the PLL is enabled in a powered PD4, no sleep level has stopped it and its output has not been
found still (Tables 04-1, 04-5). It does so locked or not. -/
def State.vcoRuns (s : State) : Bool := s.powered 4 && s.clk.pllEn && s.clocksRun && !s.clk.pllStopped

/-- CLOCK_SWITCH_ABANDON (R129): no edge of the new clock within 1 ms. The engine multiplexer falls back to RING where
the old clock, the PLL, has stopped as well. -/
def execClockSwitchAbandon (m : Mux) (s : State) : Host.Outcome State Fault Refusal :=
  match m with
  | .pllRef =>
    if s.clk.refBusy then
      .next { s with clk.refBusy := false, clk.refSel := s.clk.refUse, clk.switchFail := true }
    else .next s
  | .engSrc =>
    if s.clk.engBusy then
      let s := { s with clk.engBusy := false, clk.switchFail := true }
      if s.clk.engUse && !s.vcoRuns then
        .next { s with clk.engUse := false, clk.engPll := false, clk.ringForced := true }
      else .next { s with clk.engPll := s.clk.engUse }
    else .next s

/-! ## Oven and crystal deviation (R122, R126) -/

/-- OVNRDY reads as a level: low while VIO is low (R67). -/
def State.takeOvnrdy (s : State) (high : Bool) : State :=
  let s := { s with clk.ovnrdy := high }
  if high then s else (s.setWarm false).refreshGrades

/-- OVNRDY_CHANGE (R122): the deglitched level; the source counts as cold from its fall. The ball reads low while VIO is
low (R67). -/
def execOvnrdyChange (high : Bool) (s : State) : Host.Outcome State Fault Refusal :=
  .next (s.takeOvnrdy (high && !s.pwr.vioLow))

/-- OVEN_WARM_QUALIFIED (R117, R122): WARM_QUAL has passed. -/
def execOvenWarmQualified (s : State) : Host.Outcome State Fault Refusal :=
  if s.powered 4 ∧ s.clk.ovenFitted ∧ s.clk.ovnrdy ∧ s.clk.xrefRun ∧ !s.clk.xrefFail then .next (s.setWarm true)
  else .next s

/-- The deviation of XHF from `count` periods in 2³⁰ lane periods, in 0.1 ppm; where it is not whole either neighbour,
since no rule states a rounding. -/
def State.xhfDeviation (s : State) (count : Nat) : BitVec 16 :=
  let n : Int := (50 * count - 2 ^ 30 : Int) * 10000000
  let q := n / 2 ^ 30
  let q := if n % 2 ^ 30 = 0 then q else if Config.roundUp s.freeCtr then q + 1 else q
  BitVec.ofInt 16 (max (-32768) (min 32767 q))

/-- XHF_DEV_MEASURE (R126): only while the grade is OVEN-WARM and XHF runs. -/
def execXhfDevMeasure (count : Nat) (s : State) : Host.Outcome State Fault Refusal :=
  if s.gradeNow = .ovenWarm ∧ s.clk.xhfRun then
    .next (({ s with clk.xhfDev := s.xhfDeviation count, clk.xhfDevAge := 0#6 }).usedFree 1)
  else .next s

/-- XHF_DEV_AGE_ADVANCE (R126): the age saturates at 63 days. -/
def execXhfDevAgeAdvance (s : State) : Host.Outcome State Fault Refusal :=
  if s.powered 4 ∧ s.clk.xhfDevAge ≠ 63#6 then .next { s with clk.xhfDevAge := s.clk.xhfDevAge + 1#6 } else .next s

/-! ## Safe state (R132 to R137, R140) -/

/-- The outputs of the safe state that wait for no clock: damp-force, valves, blanking, fences (R136 steps 1 to 3). -/
def State.dampForce (s : State) : State :=
  let s := ({ s with clk.damp := true }).abortDelivery 2
  let s := s.valvesOff.cutAllShots.stepInterrupted
  measuringClusters.foldl (fun s cl => s.raiseFence cl (setClockCause true)) s

/-- The engine multiplexer goes to RING (R136). -/
def State.enginesToRing (s : State) : State :=
  if s.clk.engPll then { s with clk.engPll := false, clk.engBusy := true } else s

/-- Every powered engine receives a clock-fail event (R136, R415); a waiting instruction in progress ends at once with
all ones, WAIT resumes. -/
def Engine.endedByEvent (x : Engine) : Engine :=
  let ended (d : GReg) : Engine := ({ x with sysEvent := false }.setReg d (BitVec.allOnes 64)).done
  match x.wait with
  | some (.recv d) => ended d
  | some (.entry _ d _ _) => ended d
  | some (.atTarget d _) => ended d
  | some (.atBoundary d) => ended d
  | some (.calAll d) => ended d
  | some .doze => ({ x with sysEvent := false }).done
  | _ => { x with sysEvent := true }

/-- A system event reaches one engine (R415). -/
def State.sysEventTo (s : State) (e : Eng) : State :=
  if s.powered (clusterDomain (engCluster e)) then s.modEngine e Engine.endedByEvent else s

/-- HOLD is entered, from BOOT too; LEFT keeps the state left. A HOLD that stands already keeps LEFT (R136, R138,
R140). -/
def State.enterHold (s : State) : State :=
  if s.sys.state = .hold then s
  else ({ s with sys.left := s.sys.state, sys.leftReq := false, sys.state := .hold }).flowHolds.releaseRole

/-- A failure of the measurement reference (R132, R136, R140). In a sleep entry HOLD waits for the exit. No rule names a
unit for REF_LOST and PLL_UNLOCK: UNIT is 0x00 (DESIGN CHOICE, log 61). -/
def State.measurementFailure (s : State) (code : Byte) : State :=
  let s := { s with clk.qualMet := false, clk.fellBack := false, clk.relocking := false, clk.pllLock := false, fl.locked := false }
  let s := s.dampForce.refreshGrades
  let s := ((s.enginesToRing).faultNoReset code 0#8).event 2
  let s := s.abandonTraverses
  match s.pwr.sleep with
  | .awake => allEngines.foldl (fun s e => s.sysEventTo e) s.enterHold
  | _ => { s with clk.holdOnExit := true }

/-- The selected reference no longer runs. -/
def State.refStopped (s : State) : State :=
  match s.clk.refUse with
  | .xref => { s with clk.xrefRun := false }.setWarm false
  | .xhf => { s with clk.xhfRun := false }
  | .ring => s

/-- MISSING_EDGE_TRIP (R132): REF_LOST for the reference, PLL_UNLOCK for the PLL output. -/
def execMissingEdgeTrip (onOutput : Bool) (s : State) : Host.Outcome State Fault Refusal :=
  if !s.pllActive then .next s
  else if onOutput then .next (({ s with clk.pllStopped := true }).measurementFailure 0x0C#8)
  else .next (s.refStopped.measurementFailure 0x0B#8)

/-- PLL_LOCK_LOSS (R132): a loss that R121 does not plan. -/
def execPllLockLoss (s : State) : Host.Outcome State Fault Refusal :=
  if s.pllActive ∧ s.clk.pllLock then .next (s.measurementFailure 0x0C#8) else .next s

/-- RELOCK_TIMEOUT (R131, R140): no relock within 100 µs is an unplanned loss. -/
def execRelockTimeout (s : State) : Host.Outcome State Fault Refusal :=
  if s.clk.relocking ∧ s.clk.pllEn ∧ (s.clocksRun ∨ s.pwr.sleep = .exiting false) then
    .next (s.measurementFailure 0x0C#8)
  else .next s

/-! ## Edge-count monitors (Table 04-4, R133 to R135) -/

/-- The count of a window lies outside its limits. -/
def monitorTrips (m : MonClock) (edges : Nat) : Bool :=
  match m with
  | .xref => decide (edges < 140) || decide (180 < edges)
  | .xhf => decide (edges < 112) || decide (144 < edges)
  | .x32 => decide (edges < 376) || decide (483 < edges)
  | .ring => decide (edges < 70313) || decide (85938 < edges)

/-- The counting monitors give verdicts: RING runs and has not failed (R115, R133). -/
def State.monitorsCount (s : State) : Bool := s.powered 4 && s.clocksRun && !s.clk.ringFail

/-- The verdict on XREF or XHF: the selected reference of a working PLL leads to the safe state, any other sets its
flag (R132, R134). A window within its limits shows that the source runs. A monitor that keeps tripping sets CLK_FAIL
and FAULT_CAUSE once, when its verdict turns bad (DESIGN CHOICE, log 64). -/
def State.refVerdict (s : State) (r : PllRef) (bad : Bool) : State :=
  let flagged (s : State) : State :=
    match r with
    | .xref =>
      let was := s.clk.xrefFail
      let s := { s with clk.xrefFail := bad, clk.xrefRun := !bad }.setWarm (s.clk.ovenWarm && !bad)
      if bad && !was then s.event 2 else s
    | .xhf =>
      let was := s.clk.xhfFail
      let s := { s with clk.xhfFail := bad, clk.xhfRun := !bad }
      if bad && !was then s.event 2 else s
    | .ring => s
  if bad && s.clk.refUse == r && s.clk.pllEn then s.refStopped.measurementFailure 0x0B#8 else flagged s

/-- The verdict on X32; while it fails, RING as reference has no monitor that passes (R135). UNIT is 0x00, no rule naming
one for X32_FAIL and RING_FAIL (log 61). -/
def State.x32Verdict (s : State) (bad : Bool) : State :=
  let was := s.clk.x32Fail
  let s := { s with clk.x32Fail := bad, fl.x32Bad := s.fl.x32Bad || bad, clk.qualMet := s.clk.qualMet && !(bad && s.clk.refUse == PllRef.ring) }
  if bad && !was then (s.faultNoReset 0x10#8 0#8).event 2 else s

/-- The verdict on RING, which as reference is a measurement failure (R135). -/
def State.ringVerdict (s : State) (bad : Bool) : State :=
  if s.clk.x32Fail || !bad then s
  else
    let s := { s with clk.ringFail := true }
    if s.clk.refUse == .ring && s.clk.pllEn then s.measurementFailure 0x0B#8
    else (s.faultNoReset 0x11#8 0#8).event 2

/-- XREF or XHF is watched: enabled, or selected by a working PLL (R132, Table 04-4). -/
def State.refWatched (s : State) (r : PllRef) (en : Bool) : Bool := en || (s.clk.refUse == r && s.clk.pllEn)

/-- CLOCK_MONITOR_WINDOW (R132). A source that is neither enabled nor selected is not watched. -/
def execClockMonitorWindow (m : MonClock) (edges : Nat) (s : State) : Host.Outcome State Fault Refusal :=
  if !s.monitorsCount then .next s
  else
    match m with
    | .xref => .next (if s.refWatched .xref s.clk.xrefEn then s.refVerdict .xref (monitorTrips m edges) else s)
    | .xhf => .next (if s.refWatched .xhf s.clk.xhfEn then s.refVerdict .xhf (monitorTrips m edges) else s)
    | .x32 => .next (s.x32Verdict (monitorTrips m edges))
    | .ring => .next (s.ringVerdict (monitorTrips m edges))

/-! ## Release of HOLD (R138, R139, R164) -/

/-- HOLD ends: damp-force falls, receivers and lanes work again, the fences fall, DEV_STATE returns to LEFT with the
domains of that state; a state requested during HOLD takes its regulator with them (R138, R164). -/
def State.releaseHold (s : State) : State :=
  let left := s.sys.left
  let req := s.sys.leftReq
  let s := ({ s with clk.damp := false, clk.qualMet := false, clk.fellBack := false, sys.leftReq := false } : State).returnLane
  let s := ((measuringClusters.foldl (fun s cl => s.lowerFence cl (setClockCause false)) s).enterState left).releaseAo
  if req then s.takeRegulator left else s

/-- RING as reference can pass its monitors: neither RING_FAIL nor X32_FAIL stands (R135). -/
def State.ringWatched (s : State) : Bool := s.clk.refUse != PllRef.ring || (!s.clk.ringFail && !s.clk.x32Fail)

/-- The conditions of a release hold: lock on a reference whose monitors have passed throughout RETURN_QUAL. -/
def State.mayRelease (s : State) : Bool := s.sys.state == .hold && s.clk.pllLock && s.clk.qualMet && s.ringWatched

/-- With AUTO_RELEASE the release comes on the first cycle in which its conditions hold (R138). -/
def State.autoReleases (s : State) : State := if s.clk.autoRelease && s.mayRelease then s.releaseHold else s

/-- RETURN_QUAL_MET (R135, R138): on a RING reference not while RING_FAIL or X32_FAIL stands. -/
def execReturnQualMet (s : State) : Host.Outcome State Fault Refusal :=
  if s.sys.state = .hold ∧ s.clk.pllLock ∧ s.clk.running s.clk.refUse ∧ s.ringWatched then
    .next ({ s with clk.qualMet := true }).autoReleases
  else .next s

/-- CLK_FAIL_CFG.RELEASE. -/
def State.writeRelease (s : State) : State := if s.mayRelease then s.releaseHold else s.cfgRefused

/-- HOLD_RELEASE_WRITE (R138). -/
def execHoldReleaseWrite (q : Requester) (s : State) : Host.Outcome State Fault Refusal :=
  .next (s.byWrite q 21 State.writeRelease)

/-- AUTO_FALLBACK (R139): XHF, or RING where XHF is the reference that failed. -/
def execAutoFallback (s : State) : Host.Outcome State Fault Refusal :=
  if s.sys.state = .hold ∧ s.clk.autoFallback ∧ !s.clk.fellBack ∧ !s.clk.pllLock ∧ !s.clk.refBusy then
    .next (s.selectRef (if s.clk.refUse = .xhf then .ring else .xhf))
  else .next s

/-! ## Clock gates (R141, R143, R549) -/

/-- CLK_GATE is written: gates open at once, and close at once unless an access is in progress or, at the panel's, a
command runs. -/
def State.writeClkGate (s : State) (v : W32) : State :=
  let was := s.clk.gateOpen
  (({ s with clk.gateReg := field v 0 14 }.settleGates).gateOpened was .res).gateOpened was .pres

/-- CLK_GATE_WRITE (R141). -/
def execClkGateWrite (q : Requester) (v : W32) (s : State) : Host.Outcome State Fault Refusal :=
  .next (s.byWrite q 19 fun s => s.writeClkGate v)

/-- GATE_FORCE_CLOSE (R143): a closing gate has waited 32 block clocks for an access in progress; the access is dropped,
and the gate closes. -/
def execGateForceClose (k : Fin 14) (s : State) : Host.Outcome State Fault Refusal :=
  if s.powered 3 ∧ !s.clk.gateReg.getLsbD k.val ∧ s.clk.gateOpen.getLsbD k.val ∧ s.gatePending k.val then
    .next { s.dropPending k.val with clk.gateForced := true }.settleGates
  else .next s

end Sys2Proof.Machine
end

