-- ==== Sys2Proof/Machine/Power.lean ====
section
/-! DEFINITION. Supplies, the power path, PFAIL, the regulator, domain changes, device states and the over-temperature
latch (ch. 03, R81, R150, R164). -/
namespace Sys2Proof.Machine

/-! ## Supplies and the power path (R82, R84, R86, R98) -/

/-- The source of the power path is chosen again (R82). Without a source PD1 to PD7 lose power with cause SUPPLY_LOSS
(R98); the first source that qualifies starts BOOT; a move to VBAT lets held store writes resume (R458). -/
def State.reselect (s : State) : State :=
  if s.boot.backupReset then s
  else
    let old := s.pwr.source
    let new := selectSource s.pwr.pathBat s.pwr.vinOk s.pwr.vbatOk
    let s := { s with pwr.source := new }
    if new = .none then
      if old = .none then s else (s.faultReset 0x02#8 0#8).hardReset
    else if old = .none then s.startBoot
    else if new = .vbat ∧ s.st.pfw then s.storeResume
    else s

/-- SUPPLY_MONITOR_CHANGE (R82, Table 03-1): the comparators of the supply monitors show new levels. -/
def execSupplyMonitorChange (vinOk vbatOk vbkOk vbatLow : Bool) (s : State) : Host.Outcome State Fault Refusal :=
  let fell := s.powered 0 && s.pwr.vinOk && !vinOk
  let s := { s with pwr.vinOk := vinOk, pwr.vbatOk := vbatOk, pwr.vbkOk := vbkOk, pwr.vbatLow := vbatLow,
                    pwr.vinFell := s.pwr.vinFell || fell }
  .next s.reselect

/-- SUPPLY_CURRENT_LIMIT (R86). -/
def execSupplyCurrentLimit (vin vbat : Bool) (s : State) : Host.Outcome State Fault Refusal :=
  .next { s with pwr.vinIlim := vin, pwr.vbatIlim := vbat }

/-- VIN_RETURN (R100): VIN_OK, having fallen, has held for 20 ms with PFAIL deasserted. -/
def execVinReturn (s : State) : Host.Outcome State Fault Refusal :=
  if s.powered 0 ∧ s.pwr.vinFell ∧ s.pwr.vinOk ∧ !s.pwr.pfail then
    let s := ({ s with pwr.vinFell := false }).event 1
    .next ((s.wakeEvent .vinReturn).pwronEvent 3)
  else .next s

/-- PWR_MODE.PATH_SEL is written (R82, R100). -/
def State.writePathSel (s : State) (bat : Bool) : State := { s with pwr.pathBat := bat }.reselect

/-! ## PFAIL (R96, R289, R458) -/

/-- The engines that receive the power-fail event (R96). -/
def pfailEngines : List Eng := [.s0, .s1, .k01]

/-- The survey's part of the warning: the traverse in progress, and those that follow, are abandoned (R289). -/
def State.surveyWarned (s : State) : State :=
  { s.abandonTraverses with sv.afterWarning := true }

/-- PFAIL_ASSERT (R96): the warning passes its deglitch. The wake cause is latched before the engines are told, so that
a sleep that it ends is ended by it. -/
def execPfailAssert (s : State) : Host.Outcome State Fault Refusal :=
  if !s.powered 0 ∨ s.pwr.pfail then .next s
  else
    let s := ({ s with pwr.pfail := true }).event 0
    let s := if s.powered 1 then s.storeWarning else s
    let s := s.surveyWarned.abortDelivery 5
    let s := pfailEngines.foldl (fun s e => s.sysEventTo e) s
    .next (s.wakeEvent .pfail)

/-- PFAIL_DEASSERT (R458). -/
def execPfailDeassert (s : State) : Host.Outcome State Fault Refusal :=
  if s.pwr.pfail then
    let s := { s with pwr.pfail := false }
    .next (if s.powered 1 then s.storeResume else s)
  else .next s

/-! ## Regulator and island rail (R88 to R90, R102) -/

/-- A write of ISLAND_VOLT: VSET, REG_MODE and the write of 1 to REFUSED; a refusal of the same write stays set
(R621). While QSIGN holds the regulator raised the write is refused (R505). -/
def State.writeIslandVolt (s : State) (v : W32) : State :=
  let s := { s with pwr.voltRefused := s.pwr.voltRefused && !v.getLsbD 7 }
  if s.regulatorHeld then { s with pwr.voltRefused := true }
  else (s.setRegMode (v.getLsbD 5)).setVset (field v 0 5)

/-- ISLAND_VOLT_WRITE (R90). -/
def execIslandVoltWrite (q : Requester) (v : W32) (s : State) : Host.Outcome State Fault Refusal :=
  .next (s.byWrite q 11 fun s => s.writeIslandVolt v)

/-- ISLAND_VOLT_SETTLED (R88, R89). -/
def execIslandVoltSettled (s : State) : Host.Outcome State Fault Refusal := .next { s with pwr.settled := true }

/-! ## Domains (R93, R94, R157) -/

/-- PWR_DOMAIN_EN_WRITE (R93). -/
def execPwrDomainEnWrite (q : Requester) (v : W32) (s : State) : Host.Outcome State Fault Refusal :=
  .next (s.byWrite q 9 fun s => s.setEnables (enablesAfter s.pwr.en (field v 0 8)))

/-- The Core die leaves reset in BOOT (R157, R159): every domain of BOOT is ready and the restore complete. Every
bridge goes link-up; the boot ROM enables its oscillators and reads the boot pointer. -/
def State.coreMayLeave (s : State) : Bool :=
  s.boot.coreReset && s.boot.restored && s.powered 1 && s.powered 2 && s.powered 3 && s.powered 4 && s.powered 6

/-- DOMAIN_DRAIN_COMPLETE (R94, Table 03-6): the domain that is going down is fenced, isolated and unpowered, and the
next queued change starts. -/
def execDomainDrainComplete (pd : Fin 8) (s : State) : Host.Outcome State Fault Refusal :=
  if s.pwr.change = some ⟨pd, false⟩ then .next (s.domainOff pd.val).nextChange else .next s

/-! ## The over-temperature latch (R81) -/

/-- DRIVE_OVERTEMP (R81): ports park, valves and boost stop; a delivery aborts. While the latch is set already, the
effects hold and nothing new is recorded. -/
def execDriveOvertemp (s : State) : Host.Outcome State Fault Refusal :=
  if !s.powered 6 then .next s
  else if s.pwr.driveOt then .next { s with pwr.driveHot := true }
  else
    let s := ({ s with pwr.driveOt := true, pwr.driveHot := true }).cutAllShots
    .next ((s.valvesOff.abortDelivery 3).faultNoReset 0x0F#8 0#8)

/-- OT_CLEAR is written (R81). -/
def State.clearOt (s : State) (below130 : Bool) : State :=
  if !s.pwr.driveOt then s
  else if s.powered 6 && below130 then { s with pwr.driveOt := false }
  else { s with pwr.otRefused := true }

/-- OT_CLEAR (R81); the reading that it brings is the device's last one. -/
def execOtClear (q : Requester) (below130 : Bool) (s : State) : Host.Outcome State Fault Refusal :=
  .next (s.byWrite q 8 fun s =>
    ({ s with pwr.driveHot := if s.powered 6 then !below130 else s.pwr.driveHot }).clearOt below130)

/-! ## Device states (R95, R164) -/

/-- The state that a code of DEV_STATE.REQ requests (Table 23-4). -/
def reqState (code : BitVec 3) : Option DevState :=
  match code.toNat with
  | 3 => some .vigil
  | 4 => some .line
  | 5 => some .service
  | _ => none

/-- A request is refused: the rods are not loaded, LINE on VBAT, LINE or VIGIL with BP = 11 or, outside HOLD, without
lock. -/
def State.stateRefused (s : State) (d : DevState) : Bool :=
  let measures := d == .line || d == .vigil
  !s.boot.rodsLoaded || (d == .line && s.pwr.source == Source.vbat) || (measures && s.st.bp == 3#2) ||
    (measures && !s.clk.pllLock && s.sys.state != .hold)

/-- DEV_STATE.REQ is written (R95, R164). -/
def State.requestState (s : State) (code : BitVec 3) : State :=
  match reqState code with
  | none => s
  | some d =>
    if s.stateRefused d then { s with sys.refused := true }
    else if s.sys.state = .hold then { s with sys.left := d, sys.leftReq := true }
    else s.enterState d

/-- DEV_STATE_REQUEST (R164). -/
def execDevStateRequest (q : Requester) (code : BitVec 3) (s : State) : Host.Outcome State Fault Refusal :=
  .next (s.byWrite q 2 fun s => s.requestState code)

/-! ## Fault latch (R150) -/

/-- Every field of the fault latch is cleared. -/
def State.ackFault (s : State) : State :=
  { s with fault := { code := 0#8, unit := 0#8, vinIlim := false, vbatIlim := false, reset := false, more := false } }

/-- FAULT_CAUSE_ACK (R150). -/
def execFaultCauseAck (q : Requester) (s : State) : Host.Outcome State Fault Refusal :=
  .next (s.byWrite q 5 State.ackFault)

end Sys2Proof.Machine
end

