-- ==== Sys2Proof/Machine/Issue.lean ====
section
/-! DEFINITION. The issue of a Teique instruction (R384, R390, R403, R416): when an engine issues, the fetch, the checks
in the order of Table 14-10, and then the effect. -/
namespace Sys2Proof.Machine

/-- The engine issues instructions: powered and out of reset, the device awake, its cluster not fenced, not halted, and
no earlier instruction waiting (R104, R401, R402, R404, R413). -/
def State.issues (s : State) (e : Eng) : Bool :=
  let x := s.engine e
  s.powered (clusterDomain (engCluster e)) && !s.boot.coreReset && !s.fenced (engCluster e) && !x.halt && !x.brkHalt &&
    !x.dblHalt && x.wait.isNone && s.pwr.sleep == SleepPhase.awake

/-- The boot ROM is mapped at a program address of K2 (R392). -/
def State.inRom (s : State) (e : Eng) (a : Nat) : Bool :=
  e == .k2 && s.boot.romMapped && decide (0x100000 ≤ a) && decide (a < 0x108000)

/-- The fetch at pc finds program memory, or the boot ROM (R392, R416). -/
def State.fetches (s : State) (e : Eng) : Bool :=
  decide ((s.engine e).pc.toNat < progEnd e) || s.inRom e (s.engine e).pc.toNat

/-- A cause with the value that its trap frame shows, where the condition holds. -/
structure Check where
  cause : TrapCause
  tval : W64
  holds : Bool

/-- The first cause of a list that holds; the lists stand in the order of Table 14-10. -/
def firstTrap : List Check → Option (TrapCause × W64)
  | [] => none
  | k :: ks => if k.holds then some (k.cause, k.tval) else firstTrap ks

/-- The instruction word as a trap value. -/
def wordOf (i : Instr) : W64 := ((teiqueWord i).getD 0#32).setWidth 64

/-- Checks whose trap value is the instruction word, or an address. -/
def illegalIf (i : Instr) (b : Bool) : Check := ⟨.illegal, wordOf i, b⟩
def privIf (i : Instr) (b : Bool) : Check := ⟨.priv, wordOf i, b⟩
def engineIf (i : Instr) (b : Bool) : Check := ⟨.engine, wordOf i, b⟩
def clockIf (i : Instr) (b : Bool) : Check := ⟨.clock, wordOf i, b⟩
def alignIf (a : W64) (b : Bool) : Check := ⟨.align, a, b⟩
def accessIf (a : W64) (b : Bool) : Check := ⟨.access, a, b⟩

/-- An engine issues an instruction: where it does not issue, nothing happens; a fetch beyond program memory or a check
traps (R403); otherwise the instruction has its effect. -/
def State.teique (s : State) (e : Eng) (checks : List Check) (f : State → State) :
    Host.Outcome State Fault Refusal :=
  if !s.issues e then .next s
  else if !s.fetches e then .next (s.trap e .access ((s.engine e).pc.setWidth 64))
  else
    match firstTrap checks with
    | some (c, tval) => .next (s.trap e c tval)
    | none => .next (f s)

/-- An instruction that changes its engine alone and is then complete. -/
def State.onEngine (s : State) (e : Eng) (f : Engine → Engine) : State := s.modEngine e fun x => (f x).retire

end Sys2Proof.Machine
end

