-- ==== Sys2Proof/Machine/Alu.lean ====
section
/-! DEFINITION. Integer and fixed-point instructions (R417 to R424). -/
namespace Sys2Proof.Machine

/-! ## ALU (R417, Table 15-2) -/

/-- An ALU operation that sets Z and N alone. -/
def State.logic (s : State) (e : Eng) (d a b : GReg) (f : W64 → W64 → W64) : Host.Outcome State Fault Refusal :=
  s.teique e [] fun s => s.onEngine e fun x => x.result d (f (x.reg a) (x.reg b))

/-- ADD. -/
def execAluAdd (e : Eng) (d a b : GReg) (s : State) : Host.Outcome State Fault Refusal :=
  s.teique e [] fun s => s.onEngine e fun x =>
    (x.result d (x.reg a + x.reg b)).setCV (addCarry (x.reg a) (x.reg b)) (addOverflow (x.reg a) (x.reg b))

/-- SUB. -/
def execAluSub (e : Eng) (d a b : GReg) (s : State) : Host.Outcome State Fault Refusal :=
  s.teique e [] fun s => s.onEngine e fun x =>
    (x.result d (x.reg a - x.reg b)).setCV (subBorrow (x.reg a) (x.reg b)) (subOverflow (x.reg a) (x.reg b))

/-- AND. -/
def execAluAnd (e : Eng) (d a b : GReg) (s : State) : Host.Outcome State Fault Refusal :=
  s.logic e d a b fun u v => u &&& v

/-- OR. -/
def execAluOr (e : Eng) (d a b : GReg) (s : State) : Host.Outcome State Fault Refusal :=
  s.logic e d a b fun u v => u ||| v

/-- XOR. -/
def execAluXor (e : Eng) (d a b : GReg) (s : State) : Host.Outcome State Fault Refusal :=
  s.logic e d a b fun u v => u ^^^ v

/-- The shift amount, g[b][5:0]. -/
def shiftOf (v : W64) : Nat := v.toNat % 64

/-- SHL. -/
def execAluShl (e : Eng) (d a b : GReg) (s : State) : Host.Outcome State Fault Refusal :=
  s.logic e d a b fun u v => u <<< shiftOf v

/-- SHR. -/
def execAluShr (e : Eng) (d a b : GReg) (s : State) : Host.Outcome State Fault Refusal :=
  s.logic e d a b fun u v => u >>> shiftOf v

/-- SAR. -/
def execAluSar (e : Eng) (d a b : GReg) (s : State) : Host.Outcome State Fault Refusal :=
  s.logic e d a b fun u v => u.sshiftRight (shiftOf v)

/-- MIN. -/
def execAluMin (e : Eng) (d a b : GReg) (s : State) : Host.Outcome State Fault Refusal :=
  s.logic e d a b fun u v => if u.slt v then u else v

/-- MAX. -/
def execAluMax (e : Eng) (d a b : GReg) (s : State) : Host.Outcome State Fault Refusal :=
  s.logic e d a b fun u v => if u.slt v then v else u

/-- SLT. -/
def execAluSlt (e : Eng) (d a b : GReg) (s : State) : Host.Outcome State Fault Refusal :=
  s.logic e d a b fun u v => bit 64 (u.slt v)

/-- SLTU. -/
def execAluSltu (e : Eng) (d a b : GReg) (s : State) : Host.Outcome State Fault Refusal :=
  s.logic e d a b fun u v => bit 64 (u.ult v)

/-- ADDS. -/
def execAluAdds (e : Eng) (d a b : GReg) (s : State) : Host.Outcome State Fault Refusal :=
  s.teique e [] fun s => s.onEngine e fun x =>
    (x.limited d ((x.reg a).toInt + (x.reg b).toInt)).setCV (addCarry (x.reg a) (x.reg b))
      (addOverflow (x.reg a) (x.reg b))

/-- SUBS. -/
def execAluSubs (e : Eng) (d a b : GReg) (s : State) : Host.Outcome State Fault Refusal :=
  s.teique e [] fun s => s.onEngine e fun x =>
    (x.limited d ((x.reg a).toInt - (x.reg b).toInt)).setCV (subBorrow (x.reg a) (x.reg b))
      (subOverflow (x.reg a) (x.reg b))

/-! ## Immediates (R418) -/

/-- ADDI: C and V as ADD; Z and N stay. -/
def execAddi (e : Eng) (d a : GReg) (imm : BitVec 16) (s : State) : Host.Outcome State Fault Refusal :=
  s.teique e [] fun s => s.onEngine e fun x =>
    (x.setReg d (x.reg a + sext16 imm)).setCV (addCarry (x.reg a) (sext16 imm)) (addOverflow (x.reg a) (sext16 imm))

/-- MOVI. -/
def execMovi (e : Eng) (d : GReg) (imm : BitVec 16) (s : State) : Host.Outcome State Fault Refusal :=
  s.teique e [] fun s => s.onEngine e fun x => x.setReg d (sext16 imm)

/-- SHI. -/
def execShi (e : Eng) (d : GReg) (imm : BitVec 16) (s : State) : Host.Outcome State Fault Refusal :=
  s.teique e [] fun s => s.onEngine e fun x => x.setReg d ((x.reg d <<< 16) ||| imm.setWidth 64)

/-! ## MUL and DIV (R419, R420) -/

/-- MUL fn 0. -/
def execMulLow (e : Eng) (d a b : GReg) (s : State) : Host.Outcome State Fault Refusal :=
  s.logic e d a b fun u v => u * v

/-- MUL fn 1: the high half of the signed product. -/
def execMulHighSigned (e : Eng) (d a b : GReg) (s : State) : Host.Outcome State Fault Refusal :=
  s.logic e d a b fun u v => BitVec.ofInt 64 (u.toInt * v.toInt / 2 ^ 64)

/-- MUL fn 2: the high half of the unsigned product. -/
def execMulHighUnsigned (e : Eng) (d a b : GReg) (s : State) : Host.Outcome State Fault Refusal :=
  s.logic e d a b fun u v => BitVec.ofNat 64 (u.toNat * v.toNat / 2 ^ 64)

/-- A division: a zero divisor traps DIV_ZERO. -/
def State.divide (s : State) (e : Eng) (d a b : GReg) (f : W64 → W64 → W64) : Host.Outcome State Fault Refusal :=
  s.teique e [⟨.divZero, 0#64, s.reg e b == 0#64⟩] fun s => s.onEngine e fun x => x.result d (f (x.reg a) (x.reg b))

/-- DIV fn 0: the signed quotient, truncated toward zero; −2⁶³ / −1 wraps to −2⁶³. -/
def execDiv (e : Eng) (d a b : GReg) (s : State) : Host.Outcome State Fault Refusal :=
  s.divide e d a b fun u v => BitVec.ofInt 64 (u.toInt.tdiv v.toInt)

/-- DIV fn 1. -/
def execDivu (e : Eng) (d a b : GReg) (s : State) : Host.Outcome State Fault Refusal :=
  s.divide e d a b fun u v => BitVec.ofNat 64 (u.toNat / v.toNat)

/-- DIV fn 2: the remainder takes the sign of g[a]. -/
def execRem (e : Eng) (d a b : GReg) (s : State) : Host.Outcome State Fault Refusal :=
  s.divide e d a b fun u v => BitVec.ofInt 64 (u.toInt.tmod v.toInt)

/-- DIV fn 3. -/
def execRemu (e : Eng) (d a b : GReg) (s : State) : Host.Outcome State Fault Refusal :=
  s.divide e d a b fun u v => BitVec.ofNat 64 (u.toNat % v.toNat)

/-! ## Fixed point (R421, R422) -/

/-- QMUL: q from 0 to 127. -/
def execQmul (e : Eng) (d a b : GReg) (q : BitVec 11) (s : State) : Host.Outcome State Fault Refusal :=
  s.teique e [illegalIf (.qmul e d a b q) (decide (128 ≤ q.toNat))] fun s => s.onEngine e fun x =>
    x.limited d ((x.reg a).toInt * (x.reg b).toInt / 2 ^ q.toNat)

/-- QDIV: q from 0 to 64. -/
def execQdiv (e : Eng) (d a b : GReg) (q : BitVec 11) (s : State) : Host.Outcome State Fault Refusal :=
  s.teique e [illegalIf (.qdiv e d a b q) (decide (65 ≤ q.toNat)), ⟨.divZero, 0#64, s.reg e b == 0#64⟩] fun s =>
    s.onEngine e fun x => x.limited d (((x.reg a).toInt * 2 ^ q.toNat).tdiv (x.reg b).toInt)

/-! ## MAC (R387, R423) -/

/-- acc takes an exact value, limited to 128 bits with Q. -/
def Engine.setAcc (x : Engine) (v : Int) : Engine := { x with acc := limitTo 128 v }.sticky (outside 128 v)

/-- MAC. -/
def execMac (e : Eng) (a b : GReg) (s : State) : Host.Outcome State Fault Refusal :=
  s.teique e [] fun s => s.onEngine e fun x => x.setAcc (x.acc.toInt + (x.reg a).toInt * (x.reg b).toInt)

/-- MSU. -/
def execMsu (e : Eng) (a b : GReg) (s : State) : Host.Outcome State Fault Refusal :=
  s.teique e [] fun s => s.onEngine e fun x => x.setAcc (x.acc.toInt - (x.reg a).toInt * (x.reg b).toInt)

/-- ACLR. -/
def execAclr (e : Eng) (s : State) : Host.Outcome State Fault Refusal :=
  s.teique e [] fun s => s.onEngine e fun x => { x with acc := 0#128, q := false }

/-- What AREAD selects (R386). -/
def Engine.areadValue (x : Engine) (sel : BitVec 5) : W64 :=
  if sel = 0#5 then field x.acc 0 64 else if sel = 1#5 then field x.acc 64 64 else x.flagBits

/-- AREAD. -/
def execAread (e : Eng) (d : GReg) (sel : BitVec 5) (s : State) : Host.Outcome State Fault Refusal :=
  s.teique e [illegalIf (.aread e d sel) (decide (3 ≤ sel.toNat))] fun s => s.onEngine e fun x =>
    x.result d (x.areadValue sel)

/-! ## FUNC (R424, Table 15-4) -/

/-- SQRT: exact, rounded down. -/
def execFuncSqrt (e : Eng) (d a : GReg) (s : State) : Host.Outcome State Fault Refusal :=
  s.teique e [] fun s => s.onEngine e fun x =>
    x.result d (BitVec.ofNat 64 (isqrt ((x.reg a).toNat * 2 ^ 32)))

/-- A result within 2⁻³¹ of log₂ x, which one being free (R424): four quanta of 2⁻³² lie so near, five where the
logarithm is itself a whole number of them. -/
def log2Near (v : W64) (free : W64) : W64 :=
  let n := if v.toNat = 2 ^ v.toNat.log2 then 5 else 4
  BitVec.ofInt 64 (log2Ratio v.toNat (2 ^ 32) / 2 ^ 16 + 3 - n + (free.toNat % n : Nat))

/-- LOG2. -/
def execFuncLog2 (e : Eng) (d a : GReg) (s : State) : Host.Outcome State Fault Refusal :=
  s.teique e [] fun s =>
    let f := s.free 0
    (s.onEngine e fun x =>
      if x.reg a = 0#64 then (x.result d (1#64 <<< 63)).sticky true else x.result d (log2Near (x.reg a) f)).usedFree 1

/-- 2^x for −32 ≤ x < 32, x in Q31.32: the value in quanta of 2⁻³², within its tolerance, which one being free. Where
x is no whole number, the free value also covers what the computation of `raw` truncates. -/
def exp2Near (x : Int) (free : W64) : W64 :=
  let v : Nat := exp2Frac (x % 2 ^ 32).toNat
  let raw : Nat := v * 2 ^ (x / 2 ^ 32 + 32).toNat / 2 ^ 64
  let tol : Nat := max 2 (raw / 2 ^ 40)
  let slack : Nat := if x % 2 ^ 32 = 0 then 0 else 1 + raw / 2 ^ 50
  let r : Int := (raw : Int) - tol + (free.toNat % (2 * tol + 1 + slack) : Nat)
  BitVec.ofInt 64 (max 0 (min (2 ^ 64 - 1) r))

/-- EXP2. -/
def execFuncExp2 (e : Eng) (d a : GReg) (s : State) : Host.Outcome State Fault Refusal :=
  s.teique e [] fun s =>
    let f := s.free 0
    (s.onEngine e fun x =>
      let v := (x.reg a).toInt
      if 2 ^ 37 ≤ v then (x.result d (BitVec.allOnes 64)).sticky true
      else if v < -(2 ^ 37) then x.result d 0#64
      else x.result d (exp2Near v f)).usedFree 1

/-- RECIP: exact, truncated toward zero, limited. -/
def execFuncRecip (e : Eng) (d a : GReg) (s : State) : Host.Outcome State Fault Refusal :=
  s.teique e [⟨.divZero, 0#64, s.reg e a == 0#64⟩] fun s => s.onEngine e fun x =>
    x.limited d ((2 ^ 64 : Int).tdiv (x.reg a).toInt)

/-- CLZ. -/
def execFuncClz (e : Eng) (d a : GReg) (s : State) : Host.Outcome State Fault Refusal :=
  s.teique e [] fun s => s.onEngine e fun x => x.result d (x.reg a).clz

end Sys2Proof.Machine
end

