-- ==== Sys2Proof/Machine/Control.lean ====
section
/-! DEFINITION. Control flow, hardware loops, TRAP and BRK (R388, R402, R403, R426 to R430). -/
namespace Sys2Proof.Machine

/-! ## Branches (R390, R426) -/

/-- The target of a branch: pc + 4 × imm16. -/
def Engine.branchTarget (x : Engine) (imm : BitVec 16) : W32 := x.pc + (imm.signExtend 32 <<< 2)

/-- A branch on a condition of g[d] and g[a]. -/
def State.branch (s : State) (e : Eng) (d a : GReg) (imm : BitVec 16) (f : W64 → W64 → Bool) :
    Host.Outcome State Fault Refusal :=
  s.teique e [] fun s => s.modEngine e fun x =>
    if f (x.reg d) (x.reg a) then x.jump (x.branchTarget imm) else x.retire

/-- BEQ. -/
def execBeq (e : Eng) (d a : GReg) (imm : BitVec 16) (s : State) : Host.Outcome State Fault Refusal :=
  s.branch e d a imm fun u v => u == v

/-- BNE. -/
def execBne (e : Eng) (d a : GReg) (imm : BitVec 16) (s : State) : Host.Outcome State Fault Refusal :=
  s.branch e d a imm fun u v => u != v

/-- BLT. -/
def execBlt (e : Eng) (d a : GReg) (imm : BitVec 16) (s : State) : Host.Outcome State Fault Refusal :=
  s.branch e d a imm fun u v => u.slt v

/-- BGE. -/
def execBge (e : Eng) (d a : GReg) (imm : BitVec 16) (s : State) : Host.Outcome State Fault Refusal :=
  s.branch e d a imm fun u v => !u.slt v

/-! ## JMP, CALL and RET (R427, R428) -/

/-- The target of JMP and CALL: pc + 4 × off26. -/
def Engine.farTarget (x : Engine) (off : BitVec 26) : W32 := x.pc + (off.signExtend 32 <<< 2)

/-- JMP. -/
def execJmp (e : Eng) (off : BitVec 26) (s : State) : Host.Outcome State Fault Refusal :=
  s.teique e [] fun s => s.modEngine e fun x => x.jump (x.farTarget off)

/-- CALL: the loop levels stay (R388). -/
def execCall (e : Eng) (off : BitVec 26) (s : State) : Host.Outcome State Fault Refusal :=
  s.teique e [] fun s => s.modEngine e fun x =>
    { x.setReg 31#5 ((x.pc + 4#32).setWidth 64) with pc := x.farTarget off }

/-- A target of RET with its low two bits cleared. -/
def retTarget (v : W64) : W32 := v.setWidth 32 &&& 0xFFFFFFFC#32

/-- RET fn 0. -/
def execRet (e : Eng) (s : State) : Host.Outcome State Fault Refusal :=
  s.teique e [] fun s => s.modEngine e fun x => { x with pc := retTarget (x.reg 31#5) }

/-- RET fn 1: pc and flags from the trap frame, IN_TRAP cleared; outside a trap ILLEGAL. -/
def execRetTrap (e : Eng) (s : State) : Host.Outcome State Fault Refusal :=
  s.teique e [illegalIf (.retTrap e) (!(s.engine e).inTrap)] fun s => s.modEngine e fun x =>
    { x.setFlagBits (x.data.word64 0#8 (frameAddr e + 24)) with
      pc := retTarget (x.data.word64 0#8 (frameAddr e)), inTrap := false }

/-! ## LOOP (R388, R429) -/

/-- A new inner level of `len` words after the LOOP at pc; the inner level so far becomes the outer one. -/
def Engine.openLevel (x : Engine) (count len : Nat) : Engine :=
  { x with lc := x.inner ++ loopLevel count (x.pc.toNat / 4 + 1) len, pc := x.pc + 4#32 }

/-- A count of zero skips the body: what follows is as after its last word. -/
def Engine.skipBody (x : Engine) (len : Nat) : Engine := { x with pc := x.pc + BitVec.ofNat 32 (4 * len) }.retire

/-- LOOP: imm16 is the body length, unsigned. -/
def execLoop (e : Eng) (d : GReg) (imm : BitVec 16) (s : State) : Host.Outcome State Fault Refusal :=
  let x := s.engine e
  let n := x.reg d
  let bad := (lvLen x.inner != 0 && lvLen x.outer != 0) || imm == 0#16 || decide (2 ^ 32 ≤ n.toNat)
  s.teique e [⟨.loop, n, bad⟩] fun s => s.modEngine e fun x =>
    if x.reg d = 0#64 then x.skipBody imm.toNat else x.openLevel (x.reg d).toNat imm.toNat

/-! ## TRAP and BRK (R402, R430) -/

/-- TRAP: cause SOFT, tval = fn. -/
def execTrap (e : Eng) (fn : BitVec 11) (s : State) : Host.Outcome State Fault Refusal :=
  s.teique e [⟨.soft, fn.setWidth 64, true⟩] fun s => s

/-- BRK halts the engine with DEBUG_EN in OPEN; otherwise it traps. It stands complete: a step goes on behind it. -/
def execBrk (e : Eng) (s : State) : Host.Outcome State Fault Refusal :=
  s.teique e [⟨.brk, 0#64, !(s.er.debugEn && !s.sealed)⟩] fun s =>
    let s := s.onEngine e fun x => { x with brkHalt := true }
    { s with er.haltCause := .brk, er.haltEng := BitVec.ofNat 3 (engNum e) }

end Sys2Proof.Machine
end

