-- ==== Sys2Proof/Machine/Rtc.lean ====
section
/-! DEFINITION. The backup island (ch. 18): the calendar and its trim, setting and reading the time, the alarms, the
backup registers and PWRON. -/
namespace Sys2Proof.Machine

/-! ## Calendar (R507 to R511) -/

/-- 1 for Monday to 7 for Sunday; 2000-01-01 was a Saturday (R507, R509). -/
def weekdayOf (t : CalTime) : Nat := (dayNumber t + 5) % 7 + 1

/-- Every field lies in its range, and the day exists in the month and year (R507, R517). -/
def calOk (t : CalTime) : Bool :=
  decide (t.sec.toNat < 60) && decide (t.min.toNat < 60) && decide (t.hour.toNat < 24) &&
    decide (1 ≤ t.month.toNat) && decide (t.month.toNat ≤ 12) && decide (t.year.toNat < 200) &&
    decide (1 ≤ t.day.toNat) && decide (t.day.toNat ≤ daysInMonth t.year.toNat t.month.toNat)

/-- The calendar one second later, and whether it wrapped (R507, R510). -/
def nextSecond (t : CalTime) : CalTime × Bool :=
  if t.sec.toNat < 59 then ({ t with sec := t.sec + 1#6 }, false)
  else
    let t := { t with sec := 0#6 }
    if t.min.toNat < 59 then ({ t with min := t.min + 1#6 }, false)
    else
      let t := { t with min := 0#6 }
      if t.hour.toNat < 23 then ({ t with hour := t.hour + 1#5 }, false)
      else
        let t := { t with hour := 0#5 }
        if t.day.toNat < daysInMonth t.year.toNat t.month.toNat then ({ t with day := t.day + 1#5 }, false)
        else
          let t := { t with day := 1#5 }
          if t.month.toNat < 12 then ({ t with month := t.month + 1#4 }, false)
          else
            let t := { t with month := 1#4 }
            if t.year.toNat < 199 then ({ t with year := t.year + 1#8 }, false) else ({ t with year := 0#8 }, true)

/-- The calendar date of a day number: the year, then the month, then the day, by trial. -/
def dateFrom : Nat → Nat → Nat → Nat × Nat
  | 0, y, d => (y, d)
  | f + 1, y, d =>
    let n := if isLeap (2000 + y) then 366 else 365
    if d < n then (y, d) else dateFrom f (y + 1) (d - n)

def monthFrom : Nat → Nat → Nat → Nat → Nat × Nat
  | 0, _, m, d => (m, d)
  | f + 1, y, m, d => if d < daysInMonth y m then (m, d) else monthFrom f y (m + 1) (d - daysInMonth y m)

/-- Midnight of the day with a given number. -/
def dateOf (n : Nat) : CalTime :=
  let (y, d) := dateFrom 200 0 n
  let (m, d) := monthFrom 11 y 1 d
  { sec := 0#6, min := 0#6, hour := 0#5, day := BitVec.ofNat 5 (d + 1), month := BitVec.ofNat 4 m, year := BitVec.ofNat 8 y }

/-! ## Alarms (R519 to R522) -/

/-- Field `k` of the match, from SEC at 0 to WDAY at 5, is masked or holds. -/
def Alarm.fieldOk (a : Alarm) (k : Nat) (same : Bool) : Bool := a.mask.getLsbD k || same

/-- The date fields match. -/
def Alarm.dayMatches (a : Alarm) (t : CalTime) : Bool :=
  a.fieldOk 3 (a.day == t.day) && a.fieldOk 4 (a.month == t.month) && a.fieldOk 5 (a.wday.toNat == weekdayOf t)

/-- Every unmasked field equals the calendar (R519). -/
def Alarm.matches (a : Alarm) (t : CalTime) : Bool :=
  a.fieldOk 0 (a.sec == t.sec) && a.fieldOk 1 (a.min == t.min) && a.fieldOk 2 (a.hour == t.hour) && a.dayMatches t

/-- A matching second of the day lies in [lo, hi). -/
def Alarm.matchesWithin (a : Alarm) (lo hi : Nat) : Bool :=
  (List.range 24).any fun h => a.fieldOk 2 (a.hour.toNat == h) &&
    (List.range 60).any fun m => a.fieldOk 1 (a.min.toNat == m) &&
      (List.range 60).any fun sc => a.fieldOk 0 (a.sec.toNat == sc) &&
        decide (lo ≤ 3600 * h + 60 * m + sc) && decide (3600 * h + 60 * m + sc < hi)

/-- A matching moment lies after one time and before another, both in seconds (rule 2 of R522). -/
def Alarm.jumped (a : Alarm) (old new : Nat) : Bool :=
  (List.range (new / 86400 + 1 - old / 86400)).any fun i =>
    let d := old / 86400 + i
    a.dayMatches (dateOf d) &&
      a.matchesWithin (if i = 0 then old % 86400 + 1 else 0) (if d = new / 86400 then new % 86400 else 86400)

/-- The match set may be armed (R520). -/
def Alarm.armable (a : Alarm) : Bool :=
  a.fieldOk 0 (decide (a.sec.toNat < 60)) && a.fieldOk 1 (decide (a.min.toNat < 60)) &&
    a.fieldOk 2 (decide (a.hour.toNat < 24)) && a.fieldOk 3 (decide (1 ≤ a.day.toNat)) &&
    a.fieldOk 4 (decide (1 ≤ a.month.toNat) && decide (a.month.toNat ≤ 12)) && a.fieldOk 5 (a.wday != 0#3) &&
    (a.mask.getLsbD 3 || a.mask.getLsbD 4 || decide (a.day.toNat ≤ daysInMonth 0 a.month.toNat))

def Rtc.alarm (r : Rtc) (second : Bool) : Alarm := if second then r.alarm1 else r.alarm0

def Rtc.setAlarm (r : Rtc) (second : Bool) (a : Alarm) : Rtc :=
  if second then { r with alarm1 := a } else { r with alarm0 := a }

/-- An alarm fires (R521): disarmed, FIRED, the event flag, the wake source and PWRON. -/
def State.fireAlarm (s : State) (second skipped : Bool) : State :=
  let a := s.rtc.alarm second
  let a := { a with arm := false, fired := true, skipped := a.skipped || skipped }
  let s := { s with rtc := s.rtc.setAlarm second a }
  (((s.event 14).wakeEvent (if second then .alarm1 else .alarm0)).pwronEvent (if second then 1 else 0))

/-- An armed alarm is evaluated at a second boundary (R519). -/
def State.evalAlarm (s : State) (second : Bool) : State :=
  let a := s.rtc.alarm second
  if a.arm && a.matches s.rtc.cal then s.fireAlarm second false else s

/-- An armed alarm is decided at a commit edge, from the old time in seconds and its sub-seconds (R522). -/
def State.commitAlarm (s : State) (second : Bool) (old : Nat) : State :=
  let a := s.rtc.alarm second
  if !a.arm then s
  else if a.matches s.rtc.cal then s.fireAlarm second false
  else if old < secondsOf s.rtc.cal ∧ a.jumped old (secondsOf s.rtc.cal) then s.fireAlarm second true
  else s

/-! ## The rows of the calendar -/

/-- SUSPECT follows into the backup registers, which share the bit (R511). -/
def State.suspect (s : State) : State := { s with rtc.suspect := true }

/-- RTC_SECOND (R507, R510, R512): the calendar advances and the alarms are evaluated. With a positive trim the
counter may pass to 1 (R512), which edge advances by two being open. -/
def execRtcSecond (s : State) : Host.Outcome State Fault Refusal :=
  let (t, w) := nextSecond s.rtc.cal
  let sub : BitVec 15 := if s.rtc.trimNow.toInt ≤ 0 then 0#15 else ((s.free 0).setWidth 1).setWidth 15
  let s := s.usedFree 1
  let s := { s with rtc.cal := t, rtc.subsec := sub, rtc.wrapped := s.rtc.wrapped || w,
                    rtc.shadow := s.rtc.shadow.map fun (x : RtcShadow) => { x with stale := true } }
  .next ((s.evalAlarm false).evalAlarm true)

/-- The value of RTC_TIME: live second, minute, hour and weekday (Table 23-47). -/
def rtcTimeWord (t : CalTime) : W32 :=
  place 32 0 t.sec ||| place 32 8 t.min ||| place 32 16 t.hour ||| place 32 24 (BitVec.ofNat 3 (weekdayOf t))

/-- A read of RTC_TIME (R514, R515): the live time, the requester's shadow latched. -/
def State.readRtcTime (s : State) (q : Requester) : State × W32 :=
  let t := s.rtc.cal
  let x : RtcShadow := { day := t.day, month := t.month, year := t.year, subsec := s.rtc.subsec, stale := false }
  ({ s with rtc.shadow := s.rtc.shadow.set (reqIdx q) x }, rtcTimeWord t)

/-- RTC_TIME_READ (R514). -/
def execRtcTimeRead (q : Requester) (s : State) : Host.Outcome State Fault Refusal :=
  .next (({ s with readOut := 0#64 }).onReg 50 fun s =>
    let r := s.readRtcTime q
    { r.1 with readOut := r.2.setWidth 64 })

/-- RTC_CTRL.COMMIT = 1 is written (R517). -/
def State.requestCommit (s : State) : State := { s with rtc.commit := true }

/-- RTC_COMMIT (R517). -/
def execRtcCommit (q : Requester) (s : State) : Host.Outcome State Fault Refusal :=
  .next (s.byWrite q 53 State.requestCommit)

/-- A signed 32-bit value limited to ±(2³¹ − 1) (R517). -/
def limit32 (x : Int) : W32 := BitVec.ofInt 32 (max (-2147483647) (min 2147483647 x))

/-- The staging set is loaded (R517): the calendar, SUBSEC 0, TIME_SET, SUSPECT clear, the event and its entry; then
the alarms are decided (R522). -/
def State.loadTime (s : State) : State :=
  let old := secondsOf s.rtc.cal
  let s := { s with rtc.cal := s.rtc.staged, rtc.subsec := 0#15, rtc.timeSet := true, rtc.suspect := false }
  let s := s.eventLogged 13 (limit32 ((secondsOf s.rtc.cal : Int) - old))
  (s.commitAlarm false old).commitAlarm true old

/-- RTC_COMMIT_EDGE (R517): the staging set is checked and loaded, or refused; COMMIT clears. -/
def execRtcCommitEdge (s : State) : Host.Outcome State Fault Refusal :=
  if s.rtc.commit then
    let s := { s with rtc.commit := false }
    if calOk s.rtc.staged then .next s.loadTime else .next { s with rtc.cmtRefused := true }
  else .next s

/-- X32_STOP_DETECT (R511): armed only once X32 has run since the backup power-on reset. -/
def execX32StopDetect (s : State) : Host.Outcome State Fault Refusal :=
  if s.rtc.x32Seen then .next s.suspect else .next s

/-- −1024 is taken as −1023 (Table 23-49). -/
def trimOf (v : BitVec 11) : BitVec 11 := if v = 0x400#11 then 0x401#11 else v

/-- TRIM_CYCLE (R512): a newly written TRIM takes effect. -/
def execTrimCycle (s : State) : Host.Outcome State Fault Refusal := .next { s with rtc.trimNow := trimOf s.rtc.trim }

/-! ## Registers of the calendar and the alarms (Tables 23-47 to 23-53) -/

/-- A write of RTC_TIME goes to the staging set; the weekday is ignored (R516). -/
def State.writeRtcTime (s : State) (w : W32) : State :=
  { s with rtc.staged := { s.rtc.staged with sec := field w 0 6, min := field w 8 6, hour := field w 16 5 } }

/-- A write of RTC_DATE goes to the staging set (R516). -/
def State.writeRtcDate (s : State) (w : W32) : State :=
  { s with rtc.staged := { s.rtc.staged with day := field w 0 5, month := field w 8 4, year := field w 16 8 } }

/-- A write of an alarm's match set, bits as in Table 23-51 (R519, R520). -/
def Alarm.write (a : Alarm) (w : W32) : Alarm :=
  { a with sec := field w 0 6, min := field w 6 6, hour := field w 12 5, day := field w 17 5, month := field w 22 4,
           wday := field w 26 3 }

/-- A write of one alarm's part of ALARM_MASK: masks, flags cleared by 1, and ARM (R520 to R522). -/
def Alarm.writeMask (a : Alarm) (mask : BitVec 6) (arm clrFired clrSkipped clrRefused : Bool) : Alarm :=
  let a := { a with mask := mask, fired := a.fired && !clrFired, skipped := a.skipped && !clrSkipped,
                    refused := a.refused && !clrRefused }
  if !arm then { a with arm := false }
  else if a.arm then a
  else if a.armable then { a with arm := true, skipped := false }
  else { a with refused := true }

def State.writeAlarmMask (s : State) (w : W32) : State :=
  { s with
    rtc.alarm0 := s.rtc.alarm0.writeMask (field w 0 6) (w.getLsbD 12) (w.getLsbD 14) (w.getLsbD 16) (w.getLsbD 18),
    rtc.alarm1 := s.rtc.alarm1.writeMask (field w 6 6) (w.getLsbD 13) (w.getLsbD 15) (w.getLsbD 17) (w.getLsbD 19) }

/-- A halfword of the backup registers is written; BKP_SEL from 28 on is ignored (R523, R153). -/
def State.writeBackup (s : State) (sel : BitVec 5) (data : BitVec 16) : State :=
  if sel.toNat < 28 then
    { s with rtc.bkp := (s.rtc.bkp.set 0#8 (2 * sel.toNat) (field data 0 8)).set 0#8 (2 * sel.toNat + 1) (field data 8 8) }
  else s

/-- BKP_WRITE (R523). -/
def execBkpWrite (q : Requester) (sel : BitVec 5) (data : BitVec 16) (s : State) : Host.Outcome State Fault Refusal :=
  .next (s.byWrite q 53 fun s => s.writeBackup sel data)

/-- The 64 backup bytes, as the status summary shows them (R524, Table 18-2). -/
def State.backupByte (s : State) (k : Nat) : Byte :=
  if k < 56 then s.rtc.bkp.get 0#8 k
  else if k = 56 then s.fault.code
  else if k = 57 then s.fault.unit
  else if k = 58 then
    placeB 8 0 s.fault.vinIlim ||| placeB 8 1 s.fault.vbatIlim ||| placeB 8 2 s.fault.reset ||| placeB 8 3 s.fault.more
  else if k = 59 then bit 8 s.rtc.panelInt
  else if k = 60 then field s.rtc.bootCount 0 8
  else if k = 61 then field s.rtc.bootCount 8 8
  else if k = 62 then placeB 8 0 s.rtc.timeSet ||| placeB 8 1 s.rtc.suspect
  else 0#8

/-! ## PWRON (R526, R527) -/

/-- PWRON_ASSERT (R526): writing ASSERT pulls PWRON low. -/
def execPwronAssert (q : Requester) (s : State) : Host.Outcome State Fault Refusal :=
  .next (s.byWrite q 57 fun s => { s with rtc.pwron := true })

/-- PWRON_RELEASE (R526, R527): released, unless an enabled event falls in the same X32 period. -/
def execPwronRelease (q : Requester) (coincide : Bool) (s : State) : Host.Outcome State Fault Refusal :=
  .next (s.byWrite q 57 fun s => { s with rtc.pwron := coincide && s.rtc.pwron })

end Sys2Proof.Machine
end

