-- ==== Sys2Proof/Machine/Bus.lean ====
section
/-! DEFINITION. The engines' data space (R393 to R396, Table 14-6): where an address lies, what an engine may do there,
and the read or write of each kind of target. -/
namespace Sys2Proof.Machine

/-! ## Where an address lies (Table 14-6) -/

/-- A target of loads and stores. -/
inductive Place where
  | data (a : Nat)
  | sram (off : Nat)
  /-- The result page, by host address. -/
  | page (h : Nat)
  | chord (c : Chord) (off : Nat)
  | aux (ch : Fin 6)
  | port (off : Nat)
  | out (off : Nat)
  deriving DecidableEq, Repr

/-- The target of address `a` for an engine, `none` outside what Table 14-6 gives it. -/
def placeOf (e : Eng) (a : Nat) : Option Place :=
  if a < dataSize e then some (.data a)
  else if 0x100000 ≤ a ∧ a < 0x140000 then some (.sram (a - 0x100000))
  else if 0x201000 ≤ a ∧ a < 0x202000 then some (.page (a - 0x200000))
  else if 0x300000 ≤ a ∧ a < 0x440000 ∧ isSurveyor e then
    some (.chord ⟨(a - 0x300000) / 0x10000 % 20, Nat.mod_lt _ (by decide)⟩ (a % 0x10000))
  else if 0x500000 ≤ a ∧ a < 0x500030 ∧ isSurveyor e then
    some (.aux ⟨(a - 0x500000) / 8 % 6, Nat.mod_lt _ (by decide)⟩)
  else if 0x600000 ≤ a ∧ a < 0x610000 ∧ e = .k2 then some (.port (a - 0x600000))
  else if 0x700000 ≤ a ∧ a < 0x701000 ∧ (e = .k01 ∨ e = .k3) then some (.out (a - 0x700000))
  else none

/-- The address that a load or store forms (R393). -/
def Engine.address (x : Engine) (a : GReg) (imm : BitVec 16) : W64 := x.reg a + sext16 imm

/-! ## Permissions -/

/-- An offset that Table 14-8 marks RW. -/
def chordRw (off : Nat) : Bool :=
  decide (off < 0x40) || [0x40, 0x48, 0x50, 0x60, 0x68, 0x70, 0x78, 0x80, 0x88, 0x90].contains off ||
    (decide (0x800 ≤ off) && decide (off < 0x1000))

/-- An offset that Table 14-8 marks RO. -/
def chordRo (off : Nat) : Bool :=
  (decide (0x100 ≤ off) && decide (off < 0x120)) || (decide (0x4000 ≤ off) && decide (off < 0x6010))

/-- A word of the output and delivery window below the panel area (Table 20-6). -/
def outWord (off : Nat) : Bool := decide (off ≤ 0xE0) && off % 8 == 0 &&
  ((decide (off ≤ 0x68)) || decide (0x80 ≤ off))

/-- A word that Table 19-1 lists, by its offset in the panel area. -/
def panelWord (off : Nat) : Bool :=
  decide (off ≤ 0x20) || (decide (0x100 ≤ off) && decide (off ≤ 0x1C7)) || decide (0x400 ≤ off)

/-- A word of the panel area that K0–K1 may store. -/
def panelRw (off : Nat) : Bool := off == 0 || off == 8 || off == 0x20 || decide (0x400 ≤ off)

/-- A word of the result page that K0–K1 may store (R396). -/
def pageRw (h : Nat) : Bool :=
  decide (h < 0x1580) || (decide (0x1800 ≤ h) && decide (h < 0x18C0) && h / 8 % 4 == 1) || decide (0x1900 ≤ h)

/-- A load of `n` bytes at a target is permitted (R393, R394, R533, R567). -/
def mayLoad (n : Nat) : Place → Bool
  | .chord _ _ => n == 8
  | .aux _ => n == 8
  | .out off => n == 8 && (if off < 0x800 then outWord off else panelWord (off - 0x800))
  | _ => true

/-- The output that a word of Table 20-6 belongs to: PO0 to PO3, then AO as 4. -/
def outputOf (off : Nat) : Nat := if off < 0x20 then off / 8 else if off < 0x60 then (off - 0x20) / 16 else 4

/-- The engine that owns an output (R567). -/
def State.owner (s : State) (k : Nat) : Eng := if s.out.own.getLsbD k then .k3 else .k01

/-- An ACC or PEND word takes stores only while the output's MODE is OFF (Table 20-6). -/
def State.outRw (s : State) (e : Eng) (off : Nat) : Bool :=
  if off < 0x80 then
    e == s.owner (outputOf off) &&
      (!(decide (0x20 ≤ off) && decide (off < 0x60)) ||
        poMode (s.out.po[(outputOf off) % 4]'(Nat.mod_lt _ (by decide))).cfg == 0)
  else e == .k3 && decide (off ≤ 0xB0)

/-- A store of `n` bytes at a target is permitted to an engine (R394, R396, R533, R567, Table 14-7). -/
def State.mayStore (s : State) (e : Eng) (n : Nat) : Place → Bool
  | .data _ => true
  | .sram off => mayWriteBank e off
  | .page h => e == .k01 && pageRw h
  | .chord _ off => n == 8 && chordRw off
  | .aux _ => n == 8
  | .port _ => true
  | .out off =>
    n == 8 && (if off < 0x800 then outWord off && s.outRw e off else e == .k01 && panelWord (off - 0x800) &&
      panelRw (off - 0x800))

/-- An access whose address is below 2³² and lies at a target that `ok` permits. -/
def reaches (e : Eng) (addr : W64) (ok : Place → Bool) : Bool :=
  decide (addr.toNat < 2 ^ 32) && ((placeOf e addr.toNat).map ok).getD false

/-! ## The result page (Table 23-66) -/

/-- An auxiliary entry as its 32 bytes (Table 23-71). -/
def AuxEntry.bytes (x : AuxEntry) : List Byte :=
  leBytes 8 x.raw.toNat ++ leBytes 8 x.value.toNat ++
    leBytes 8 (place 64 0 x.tDone ||| place 64 48 x.seq ||| placeB 64 56 x.pol).toNat ++ leBytes 8 x.marks.toNat

/-- A byte of a list of 32-byte slots. -/
def slotByte {n : Nat} (v : Vector (List Byte) n) (off : Nat) : Byte :=
  if h : off / 32 < n then (v[off / 32]).getD (off % 32) 0#8 else 0#8

/-- A byte of the status summary (Table 23-72). -/
def State.summaryByte (s : State) (h : Nat) : Byte :=
  if h < 0x1904 then (leBytes 4 s.st.logSeq.toNat).getD (h - 0x1900) 0#8
  else if h < 0x1908 then (leBytes 4 s.sv.travPeriod).getD (h - 0x1904) 0#8
  else if h < 0x190C then (leBytes 4 s.ab.snapSeq.toNat).getD (h - 0x1908) 0#8
  else if h < 0x1910 then 0#8
  else if h < 0x1920 then (leBytes 16 s.st.logHead.toNat).getD (h - 0x1910) 0#8
  else if h < 0x1940 then 0#8
  else if h < 0x1980 then s.backupByte (h - 0x1940)
  else if h < 0x1A00 then 0#8
  else slotByte (s.ab.snap.map rodBytes) (h - 0x1A00)

/-- A byte of the result page, by host address (Table 23-66). -/
def State.pageByte (s : State) (h : Nat) : Byte :=
  if s.fenced .memory then 0#8
  else if h < 0x1580 ∨ 0x1C00 ≤ h then s.page.get 0#8 h
  else if h < 0x1600 then 0#8
  else if h < 0x1800 then slotByte (s.ab.closed.map rodBytes) (h - 0x1600)
  else if h < 0x1900 then slotByte (s.aux.entry.map AuxEntry.bytes) (h - 0x1800)
  else s.summaryByte h

/-! ## Chord windows (Table 14-8) -/

/-- An RW word as it reads: the held write where there is one (R395). -/
def ChordSt.window (ch : ChordSt) (off : Nat) : W64 := if ch.heldW.has off then ch.heldW.get off else ch.live.get off

/-- A word of the chord window (Table 14-8); an offset that the table does not list reads as a free value. -/
def ChordSt.read (ch : ChordSt) (off : Nat) (free : W64) : W64 :=
  if chordRw off then ch.window off
  else if off = 0x100 then ch.corr0
  else if off = 0x108 then ch.corr1
  else if off = 0x110 then ch.corr2
  else if off = 0x118 then ch.corr3
  else if 0x4000 ≤ off ∧ off < 0x6010 then ch.cap.get ((off - 0x4000) / 8)
  else free

def State.readChord (s : State) (c : Chord) (off : Nat) : State × W64 :=
  if !s.chordAnswers c then (s, 0#64)
  else if !(s.br.get (chordBridge c)).up then (s.bridgeRefuse (chordBridge c), 0#64)
  else if sliceWord off && !s.sliceOpen c then (s, 0#64)
  else ((s.usedFree 1).hop (chordHops c), (s.chord c).read off (s.free 0))

/-! ## Auxiliary window (R359, R395) -/

/-- The auxiliary islands can be reached: PD4 powered, their fence and that of the Sense-N control island down. -/
def State.auxReached (s : State) : Bool := s.powered 4 && !s.fenced .aux && !s.fenced .senseCtlN

/-- The auxiliary island of a channel answers: reached, and its gate open. -/
def State.auxAnswers (s : State) (ch : Fin 6) : Bool :=
  s.auxReached && s.clk.gateOpen.getLsbD (islandGate (islandOf ch))

/-- The targets on the way to the resistance or the pressure island. -/
def auxHops (ch : Fin 6) : List (Fin 32) := [25, 23, if isRtd ch then 21 else 22]

def State.readAux (s : State) (ch : Fin 6) : State × W64 :=
  if !s.auxReached then (s, 0#64)
  else if !s.br.senseN.up then (s.bridgeRefuse .senseN, 0#64)
  else if s.auxAnswers ch then (s.hop (auxHops ch), s.readAuxWord ch)
  else (s, 0#64)

def State.writeAux (s : State) (ch : Fin 6) (v : W64) : State :=
  if !s.auxReached then s
  else if !s.br.senseN.up then s.bridgeRefuse .senseN
  else if s.auxAnswers ch then (s.writeAuxWord ch v).hop (auxHops ch) else s

/-! ## Port window (Table 20-3, R488, R553, R565, R588) -/

/-- The ring pointers and the overrun counter of the optical port (R565): receive write and read, transmit write and
read, 12 bits each, then the count. -/
def Ports.pointers (p : Ports) : W64 :=
  place 64 0 p.rxWr ||| place 64 12 p.rxRd ||| place 64 24 p.txWr ||| place 64 36 p.txRd ||| place 64 48 p.overrun

/-- Offset `off` lies in a block whose gate or fence lets it answer. -/
def State.portAnswers (s : State) (off : Nat) : Bool :=
  if 0x8000 ≤ off ∧ off < 0xB000 then s.clk.gateOpen.getLsbD 3 && !s.fenced .twin
  else if 0xC000 ≤ off ∧ off < 0xD000 then s.clk.gateOpen.getLsbD 2 && !s.fenced .port
  else !s.fenced .port

/-- A byte of K2's port window. -/
def State.portByte (s : State) (off : Nat) : Byte :=
  if !s.portAnswers off then 0#8
  else if 0xC800 ≤ off ∧ off < 0xC808 then (leBytes 8 s.prt.pointers.toNat).getD (off - 0xC800) 0#8
  else if 0xC808 ≤ off ∧ off < 0xC810 then (leBytes 8 s.prt.wakeLost.toNat).getD (off - 0xC808) 0#8
  else if 0xE000 ≤ off ∧ off < 0xF000 then s.upd.buffer.get 0#8 (off - 0xE000)
  else if 0xF000 ≤ off ∧ off < 0xF004 then (leBytes 4 s.upd.check.toNat).getD (off - 0xF000) 0#8
  else s.prt.win.get 0#8 off

/-- A byte of the block buffer or of the check word is written (R488). -/
def State.putBlockByte (s : State) (off : Nat) (b : Byte) : State :=
  if off < 0xF000 then { s with upd.buffer := s.upd.buffer.set 0#8 (off - 0xE000) b }
  else { s with upd.check := BitVec.ofNat 32 (leNat ((leBytes 4 s.upd.check.toNat).set (off - 0xF000) b)) }

/-- K2 writes a byte of the optical pointers: the receive read pointer and the transmit write pointer are its own. -/
def State.putPointerByte (s : State) (k : Nat) (b : Byte) : State :=
  let w : W64 := BitVec.ofNat 64 (leNat ((leBytes 8 s.prt.pointers.toNat).set k b))
  { s with prt.rxRd := field w 12 12, prt.txWr := field w 24 12 }

/-- A byte that K2 stores in its port window; the block buffer only while a port of K2's holds the session (R488). -/
def State.putPortByte (s : State) (off : Nat) (b : Byte) : State :=
  if !s.portAnswers off then s
  else if 0xC800 ≤ off ∧ off < 0xC808 then s.putPointerByte (off - 0xC800) b
  else if 0xC808 ≤ off ∧ off < 0xC810 then s
  else if 0xE000 ≤ off ∧ off < 0xF004 then (if 2 ≤ s.upd.owner.toNat then s.putBlockByte off b else s)
  else { s with prt.win := s.prt.win.set 0#8 off b }

def State.putPortBytes (s : State) (off : Nat) : List Byte → State
  | [] => s
  | b :: bs => (s.putPortByte off b).putPortBytes (off + 1) bs

/-- K2 stores to its port window; SERVICE frames that it has placed are sent (R588). -/
def State.writePort (s : State) (off : Nat) (bs : List Byte) : State :=
  let s := s.putPortBytes off bs
  if 0xA000 ≤ off ∧ off < 0xA008 ∧ s.tw.en ∧ s.meridianRuns then s.sendService 4 else s

/-! ## Output and delivery window (Tables 20-6 and 19-1) -/

/-- An account, four to a word; COM in halfword 96 (Table 19-1). -/
def Panel.acctWord (p : Panel) (k : Nat) : W64 :=
  (List.range 4).foldl (fun (w : W64) i => w ||| place 64 (16 * i) ((p.acct.toList).getD (4 * k + i) 0#16)) 0#64

/-- A word of the panel area, by its offset (Table 19-1). -/
def Panel.read (p : Panel) (off : Nat) : W64 :=
  if off = 0 then field p.next 0 64
  else if off = 8 then field p.next 64 64
  else if off = 0x10 then field p.shown 0 64
  else if off = 0x18 then (field p.shown 64 32).setWidth 64
  else if 0x100 ≤ off ∧ off ≤ 0x1C0 then p.acctWord ((off - 0x100) / 8)
  else if p.waveHeld.has off then p.waveHeld.get off
  else p.wave.get off

/-- A store to the panel area: NEXT at once; LEN and waveforms held while a command runs (R535). Reserved bits of NEXT and
of a waveform entry are ignored (R15, Tables 19-1, 19-2). -/
def Panel.write (p : Panel) (off : Nat) (v : W64) : Panel :=
  let v := if 0x400 ≤ off then v &&& 0x03FF03FF03FF03FF#64 else v
  if off = 0 then { p with next := field p.next 64 64 ++ v }
  else if off = 8 then { p with next := ((field v 0 32).setWidth 64 : W64) ++ field p.next 0 64 }
  else if p.busy then { p with waveHeld := p.waveHeld.hold off v }
  else { p with wave := p.wave.set off v }

/-- Port-guard north answers for the panel (R530): PD6 powered, its fence down, the panel's gate open (R141, R549). -/
def State.guardAnswers (s : State) : Bool := s.powered 6 && !s.fenced .drive && s.clk.gateOpen.getLsbD 5

/-- Whole quanta, and the fraction in 2⁻⁶⁴ quanta. -/
def wholeOf (x : Int) : W64 := BitVec.ofInt 64 (x / 2 ^ 64)
def fracOf (x : Int) : W64 := BitVec.ofInt 64 (x % 2 ^ 64)

/-- A word of the output island. -/
def Outputs.read (o : Outputs) (off : Nat) : W64 :=
  let k : Fin 4 := ⟨outputOf off % 4, Nat.mod_lt _ (by decide)⟩
  if off < 0x20 then (o.po[k]).cfg
  else if off < 0x60 then (if off % 16 = 0 then (o.po[k]).acc else (o.po[k]).pend.setWidth 64)
  else if off = 0x60 then o.aoCfg
  else o.aoVal.setWidth 64

def Outputs.write (o : Outputs) (off : Nat) (v : W64) : Outputs :=
  let k : Fin 4 := ⟨outputOf off % 4, Nat.mod_lt _ (by decide)⟩
  let p := o.po[k]
  if off < 0x20 then { o with po := o.po.set k { p with cfg := v } }
  else if off < 0x60 then
    { o with po := o.po.set k (if off % 16 = 0 then { p with acc := v } else { p with pend := field v 0 32 }) }
  else if off = 0x60 then { o with aoCfg := v &&& 0x3FFFF#64 }
  else { o with aoVal := field v 0 16 }

/-- A word of the delivery controller other than INC_POP. -/
def Delivery.read (d : Delivery) (off : Nat) : W64 :=
  if off = 0x80 then d.cfg
  else if off = 0x88 then d.preset.setWidth 64
  else if off = 0x90 then d.trimAt.setWidth 64
  else if off = 0x98 then d.ovr.setWidth 64
  else if off = 0xA0 then d.ovrMax.setWidth 64
  else if off = 0xA8 then d.qStop
  else if off = 0xB8 then wholeOf d.delivered
  else if off = 0xC0 then fracOf d.delivered
  else if off = 0xC8 then wholeOf d.dClose
  else if off = 0xD0 then place 64 0 (BitVec.ofNat 5 d.incs.length) ||| place 64 8 d.incLost
  else if off = 0xE0 then fracOf d.dClose
  else 0#64

/-- A delivery command by its code; codes from 5 on have no meaning (R575). -/
def State.deliveryCommand (s : State) (code : BitVec 3) : State :=
  match code.toNat with
  | 1 => s.deliveryArm
  | 2 => s.deliveryStart
  | 3 => s.deliveryStop
  | 4 => s.deliveryReset
  | _ => s

/-- A store to a configuration word: dropped with CFG_LOCKED outside the states of Table 20-6 (R567). -/
def Delivery.write (d : Delivery) (off : Nat) (v : W64) : Delivery :=
  if !d.writable then { d with cfgLocked := true }
  else if off = 0x80 then { d with cfg := v &&& 0xFFFFFFFFFFFF#64 }
  else if off = 0x88 then { d with preset := field v 0 40 }
  else if off = 0x90 then { d with trimAt := field v 0 40 }
  else if off = 0x98 then { d with ovr := field v 0 40 }
  else if off = 0xA0 then { d with ovrMax := field v 0 40 }
  else { d with qStop := v }

def State.readOutWord (s : State) (off : Nat) : State × W64 :=
  if s.fenced .customer then (s, 0#64)
  else if off < 0x80 then (s, if s.clk.gateOpen.getLsbD 4 then s.out.read off else 0#64)
  else if off = 0xD8 then s.popIncrement
  else (s, s.dl.read off)

def State.writeOutWord (s : State) (off : Nat) (v : W64) : State :=
  if s.fenced .customer then s
  else if 0x20 ≤ off ∧ off < 0x60 ∧ s.outHeld (outputOf off) then s
  else if off < 0x80 then
    if s.clk.gateOpen.getLsbD 4 then
      let s := if off = 0x68 then s.holdAo else s
      { s with out := s.out.write off v }
    else s
  else if off = 0xB0 then s.deliveryCommand (field v 0 3)
  else { s with dl := s.dl.write off v }

def State.readPanelWord (s : State) (off : Nat) : State × W64 :=
  if !s.guardAnswers then (s, 0#64)
  else if !s.br.drive.up then (s.bridgeRefuse .drive, 0#64)
  else (s.hop (bridgeHops .drive), s.pn.read off)

def State.writePanelWord (s : State) (off : Nat) (v : W64) : State :=
  if !s.guardAnswers then s
  else if !s.br.drive.up then s.bridgeRefuse .drive
  else ({ s with pn := s.pn.write off v }).hop (bridgeHops .drive)

/-! ## Reads and writes of any target -/

/-- `n` bytes from `a` on, by a function of the offset, as a number. -/
def gather (f : Nat → Byte) (a n : Nat) : W64 := BitVec.ofNat 64 (leNat ((List.range n).map fun k => f (a + k)))

def State.sramByte (s : State) (off : Nat) : Byte := if s.sramRuns off then s.sram.get 0#8 off else 0#8

/-- A permitted load of `n` bytes: the value, zero-extended, and what the read does (R425). -/
def State.readPlace (s : State) (e : Eng) (n : Nat) : Place → State × W64
  | .data a => (s, gather (fun k => (s.engine e).data.get 0#8 k) a n)
  | .sram off => (s, gather s.sramByte off n)
  | .page h => (s.hop [29], gather s.pageByte h n)
  | .port off => (s, gather s.portByte off n)
  | .chord c off => s.readChord c off
  | .aux ch => s.readAux ch
  | .out off => if off < 0x800 then s.readOutWord off else s.readPanelWord (off - 0x800)

/-- A permitted store of the `n` low bytes of `v`. -/
def State.writePlace (s : State) (e : Eng) (n : Nat) (v : W64) : Place → State
  | .data a => s.modEngine e fun x => { x with data := x.data.write 0#8 a (leBytes n v.toNat) }
  | .sram off => s.putSramBytes off (leBytes n v.toNat)
  | .page h => (s.putPageBytes h (leBytes n v.toNat)).hop [29]
  | .port off => s.writePort off (leBytes n v.toNat)
  | .chord c off => s.writeChord c off v
  | .aux ch => s.writeAux ch v
  | .out off => if off < 0x800 then s.writeOutWord off v else s.writePanelWord (off - 0x800) v

/-- A store whose permission was checked at its issue reaches its target. -/
def State.storeAt (s : State) (e : Eng) (a n : Nat) (v : W64) : State :=
  match placeOf e a with
  | some p => s.writePlace e n v p
  | none => s

/-- Bytes that an instruction reads from memory: own data memory or common SRAM. -/
def State.getBytes (s : State) (e : Eng) (a n : Nat) : List Byte :=
  if 0x100000 ≤ a then (List.range n).map fun k => s.sramByte (a - 0x100000 + k)
  else (s.engine e).data.bytes 0#8 a n

/-- Whether an engine may read every byte of a span that an instruction names: its data memory, common SRAM, the result
page, and for K2 the port window (R393, R453). -/
def mayReadSpan (e : Eng) (a n : Nat) : Bool :=
  n == 0 || decide (a + n ≤ dataSize e) || (decide (0x100000 ≤ a) && decide (a + n ≤ 0x140000)) ||
    (decide (0x201000 ≤ a) && decide (a + n ≤ 0x202000)) ||
    (e == .k2 && decide (0x600000 ≤ a) && decide (a + n ≤ 0x610000))

/-- The bytes of such a span. -/
def State.readSpan (s : State) (e : Eng) (a n : Nat) : List Byte :=
  if 0x600000 ≤ a then (List.range n).map fun k => s.portByte (a - 0x600000 + k)
  else if 0x201000 ≤ a then (List.range n).map fun k => s.pageByte (a - 0x200000 + k)
  else s.getBytes e a n

/-- The spans that an operation of the crypto engine may write: as for stores, and the port window for K2 (R453, R553). -/
def mayFillSpan (e : Eng) (a n : Nat) : Bool :=
  mayWriteSpan e a n || (e == .k2 && decide (0x600000 ≤ a) && decide (a + n ≤ 0x610000))

def State.fillSpan (s : State) (e : Eng) (a : Nat) (bs : List Byte) : State :=
  if 0x600000 ≤ a then s.putPortBytes (a - 0x600000) bs else s.putBytes e a bs

end Sys2Proof.Machine
end

