-- ==== Sys2Proof/Machine/Image.lean ====
section
/-! DEFINITION. Signed objects and their records (ch. 17): the boot-pointer record, the update session record, the
checks of an image (R485) and of a configuration set (R487), and the keys that they name (R480, R481). -/
namespace Sys2Proof.Machine

/-! ## Records that are written in one commit -/

/-- A record is written under R463. -/
def Store.putRecord (st : Store) (id : Nat) (payload : List Byte) : Store :=
  match recordSlots id with
  | some (a, b) =>
    let w := writeRule (st.copies id).1 (st.copies id).2
    { st with array := st.array.write 0#8 (if w.1 then b else a) (frameBytes id w.2 payload) }
  | none => st

/-- The update controller and the boot ROM write a record of Q0; BP = 11 refuses it (R467). -/
def State.commitRecord (s : State) (id : Nat) (payload : List Byte) : State :=
  if s.st.bp = 3#2 then s else { s with st := s.st.putRecord id payload }

/-! ## Boot-pointer record (Table 17-8) -/

structure BootPtr where
  active : BitVec 2
  prev : BitVec 2
  trial : Bool
  confA : Bool
  confB : Bool
  boots : Byte
  start : BitVec 48
  minVersion : W32
  versionA : W32
  versionB : W32
  digestA : List Byte
  digestB : List Byte
  deriving DecidableEq, Repr

def readBootPtr (p : List Byte) : BootPtr :=
  let w : W64 := BitVec.ofNat 64 (leAt p 0 8)
  { active := field w 0 2, prev := field w 2 2, trial := w.getLsbD 4, confA := w.getLsbD 5, confB := w.getLsbD 6,
    boots := field w 8 8, start := BitVec.ofNat 48 (leAt p 8 6), minVersion := BitVec.ofNat 32 (leAt p 0x10 4),
    versionA := BitVec.ofNat 32 (leAt p 0x18 4), versionB := BitVec.ofNat 32 (leAt p 0x1C 4),
    digestA := (p.drop 0x20).take 16, digestB := (p.drop 0x30).take 16 }

def BootPtr.payload (b : BootPtr) : List Byte :=
  let w : W64 := place 64 0 b.active ||| place 64 2 b.prev ||| placeB 64 4 b.trial ||| placeB 64 5 b.confA |||
    placeB 64 6 b.confB ||| place 64 8 b.boots
  let pad (d : List Byte) : List Byte := (d ++ List.replicate 16 0#8).take 16
  leBytes 8 w.toNat ++ leBytes 8 b.start.toNat ++ leBytes 8 b.minVersion.toNat ++ leBytes 4 b.versionA.toNat ++
    leBytes 4 b.versionB.toNat ++ pad b.digestA ++ pad b.digestB

/-- Without a record: slot A, nothing confirmed, no trial and no floor. -/
def BootPtr.absent : BootPtr := readBootPtr (List.replicate 64 0#8)

def Store.bootPtr (st : Store) : BootPtr :=
  match st.load 4 with
  | some p => readBootPtr p
  | none => BootPtr.absent

/-- The slot has been confirmed. -/
def BootPtr.confirmed (b : BootPtr) (slot : BitVec 2) : Bool :=
  match slot.toNat with
  | 0 => b.confA
  | 1 => b.confB
  | _ => false

def BootPtr.setConf (b : BootPtr) (slot : BitVec 2) (c : Bool) : BootPtr :=
  match slot.toNat with
  | 0 => { b with confA := c }
  | 1 => { b with confB := c }
  | _ => b

/-- The record keeps VERSION and digest of each slot's image. -/
def BootPtr.setImage (b : BootPtr) (slot : BitVec 2) (version : W32) (digest : List Byte) : BootPtr :=
  match slot.toNat with
  | 0 => { b with versionA := version, digestA := digest.take 16 }
  | 1 => { b with versionB := version, digestB := digest.take 16 }
  | _ => b

/-- The idle slot (R494). -/
def BootPtr.idleSlot (b : BootPtr) : BitVec 2 := if b.active = 0#2 then 1#2 else 0#2

/-- A fallback (R499): the previous slot where it is confirmed, the recovery image otherwise. -/
def BootPtr.fallback (b : BootPtr) : BootPtr :=
  let n := b.setConf b.active false
  { n with active := if n.confirmed n.prev then n.prev else 2#2, trial := false }

/-- A fallback is written and logged; `late`: its cause is the deadline (Table 16-9). -/
def State.writeFallback (s : State) (b : BootPtr) (source : Nat) (late : Bool) : State :=
  let n := b.fallback
  (s.commitRecord 4 n.payload).logFrom source 0x128
    (place 32 0 b.active ||| place 32 2 n.active ||| placeB 32 4 late)

/-- 86,400 s on the elapsed counter. -/
def trialSpan : Nat := 86400 * 32768

/-! ## Update session record (Table 17-6) -/

def UpdState.code : UpdState → Nat
  | .idle => 0
  | .opened => 1
  | .downloading => 2
  | .downloaded => 3
  | .verifying => 4
  | .verified => 5
  | .activating => 6
  | .suspended => 7
  | .applying => 8

/-- LAST_CFG_SEQ of the session record. -/
def Store.lastCfgSeq (st : Store) : Nat := leAt ((st.load 5).getD []) 8 4

/-- The payload with a state, LAST_CFG_SEQ, MASK and PRE_SEQ. -/
def Update.payload (u : Update) (state : UpdState) (lastSeq mask : Nat) (pre : List Nat) : List Byte :=
  let w : W32 := place 32 0 (BitVec.ofNat 4 state.code) ||| place 32 4 u.kind ||| place 32 6 u.slot |||
    place 32 8 (BitVec.ofNat 10 u.nextBlock)
  let head := leBytes 4 w.toNat ++ leBytes 4 (u.len.getD 0) ++ leBytes 4 lastSeq ++ leBytes 4 mask
  let body := ((List.range 23).map fun k => leBytes 4 (pre.getD k 0)).flatten
  head ++ body ++ List.replicate 20 0#8

/-- The session record is written with a state that is stored. -/
def State.writeSession (s : State) (state : UpdState) : State :=
  s.commitRecord 5 (s.upd.payload state s.st.lastCfgSeq 0 [])

/-! ## Keys (R480, R481) -/

def KeyRef.modulus (k : KeyRef) (slot : Fin 2) : Nat :=
  match k with
  | .factory => Config.vendorModulus slot
  | .loaded m => m

/-- The modulus of a VALID vendor slot. -/
def Keys.vendor (k : Keys) (slot : Nat) : Option Nat :=
  if slot = 0 then (if k.v0.state = .valid then some (k.v0.key.modulus 0) else none)
  else if slot = 1 then (if k.v1.state = .valid then some (k.v1.key.modulus 1) else none)
  else none

/-! ## Images (R484, R485) -/

/-- Bytes of a target of a segment: program memories and common SRAM. -/
def targetSize (t : Nat) : Nat :=
  match engOfNum t with
  | some e => progEnd e
  | none => 0x40000

/-- Segment `i` of `count` lies within the image and its target; an unused entry is zero. -/
def segmentOk (h : List Byte) (len count i : Nat) : Bool :=
  let o := 0x40 + 16 * i
  let t := leAt h o 1
  let off := leAt h (o + 4) 4
  let dest := leAt h (o + 8) 4
  let n := leAt h (o + 12) 4
  if count ≤ i then ((h.drop o).take 16).all (· == 0#8)
  else decide (t ≤ 6) && decide (256 ≤ off) && decide (off + n ≤ len) && (t == 6 || decide (dest + n ≤ targetSize t))

/-- The checks of R485 on the header other than VERSION and KEY; slot 2 is the recovery image. -/
def headerOk (h : List Byte) (slot : Nat) : Bool :=
  let len := leAt h 8 4
  let count := leAt h 0x1C 4
  leAt h 0 4 == 0x4D495855 && leAt h 4 2 == 1 && leAt h 6 2 == (if slot = 2 then 2 else 1) &&
    leAt h 0xC 4 == 0x2040 && len % 4 == 0 && decide (256 ≤ len) &&
    decide (len ≤ if slot = 2 then 1048064 else 3145216) && decide (1 ≤ count) && decide (count ≤ 12) &&
    (List.range 12).all fun i => segmentOk h len count i

/-- Bytes of the image that a slot holds. -/
def Store.imageBytes (st : Store) (slot off n : Nat) : List Byte := st.code.bytes 0xFF#8 (flashBase slot + off) n

/-- What R485 says of the image in a slot: a code of Table 17-7, 0 where it is valid. -/
def State.imageVerdict (s : State) (slot : Nat) : BitVec 5 :=
  let h := s.st.imageBytes slot 0 256
  let len := leAt h 8 4
  if !headerOk h slot then 0x08#5
  else if leAt h 0x10 4 < s.st.bootPtr.minVersion.toNat then 0x0B#5
  else match s.keys.vendor (leAt h 0x18 1) with
    | none => 0x0A#5
    | some m =>
      if pssVerify m (sha512 (s.st.imageBytes slot 0 len)) (s.st.imageBytes slot len 512) then 0#5 else 0x09#5

/-! ## Configuration sets (R486, R487) -/

/-- Records of a RECORDS set from its items: `n` of them that fill the bytes exactly. -/
def parseItems : Nat → List Byte → Option (List (Nat × List Byte))
  | 0, bs => if bs.isEmpty then some [] else none
  | n + 1, bs =>
    let id := leAt bs 0 2
    let len := leAt bs 2 2
    let size := (4 + len + 7) / 8 * 8
    if bs.length < size ∨ bs.length < 4 then none
    else (parseItems n (bs.drop size)).map fun r => (id, (bs.drop 4).take len) :: r

/-- The items of a RECORDS set are well formed. -/
def recordItemsOk (items : List (Nat × List Byte)) : Bool :=
  decide (1 ≤ items.length) && decide (items.length ≤ 23) &&
    (items.all fun x => decide (0x300 ≤ x.1) && decide (x.1 ≤ 0x316) && recordLenOk x.1 x.2.length) &&
    decide ((items.map fun x => x.1).Nodup)

/-- A configuration set: its header fields and the bytes of its items. -/
structure ConfigSet where
  kind : Nat
  len : Nat
  seq : Nat
  key : Nat
  items : Nat
  device : List Byte
  body : List Byte
  message : List Byte
  signature : List Byte
  deriving DecidableEq, Repr

def readSet (b : List Byte) : ConfigSet :=
  let len := leAt b 8 4
  { kind := leAt b 6 2, len := len, seq := leAt b 0x10 4, key := leAt b 0x14 1, items := leAt b 0x15 3,
    device := (b.drop 0x18).take 16, body := (b.drop 48).take (len - 48), message := b.take len,
    signature := (b.drop len).take 512 }

def ConfigSet.records (c : ConfigSet) : List (Nat × List Byte) := (parseItems c.items c.body).getD []

/-- OP and the two operands of a CONTROL item. -/
def ConfigSet.op (c : ConfigSet) : Nat := leAt c.body 0 4
def ConfigSet.operand (c : ConfigSet) : Nat := leAt c.body 8 8
def ConfigSet.operand2 (c : ConfigSet) : Nat := leAt c.body 16 8

/-- The modulus that a SEAL or a KEYROT set carries. -/
def ConfigSet.modulus (c : ConfigSet) : Nat := beNat (if c.kind = 3 then c.body.take 512 else (c.body.drop 8).take 512)

/-- The items have the form of their kind (Table 17-4). -/
def ConfigSet.itemsOk (c : ConfigSet) : Bool :=
  if c.kind = 1 then
    match parseItems c.items c.body with
    | some l => recordItemsOk l
    | none => false
  else if c.kind = 2 then
    c.items == 1 && c.body.length == 24 && decide (1 ≤ c.op) && decide (c.op ≤ 6) &&
      (c.op != 1 || decide (c.operand ≤ 3)) && (c.op != 6 || decide (c.operand < 16))
  else if c.kind = 3 then c.items == 1 && c.body.length == 512
  else c.items == 1 && c.body.length == 520

/-- The header checks of R487 on the block buffer: magic numbers, the bound on L, the kind, DEVICE. -/
def ConfigSet.headerOk (c : ConfigSet) (b : List Byte) : Bool :=
  leAt b 0 4 == 0x46435855 && leAt b 4 2 == 1 && leAt b 0xC 4 == 0x2040 && c.len % 8 == 0 && decide (48 ≤ c.len) &&
    decide (c.len + 512 ≤ 4096) && decide (1 ≤ c.kind) && decide (c.kind ≤ 4) &&
    (c.device == fingerprint Config.identityModulus || (c.kind == 4 && c.device.all (· == 0#8)))

/-- The modulus against which a set must verify, where its KEY is permitted (Table 17-4). -/
def Keys.forSet (k : Keys) (c : ConfigSet) : Option Nat :=
  let sealed := k.owner.isSome
  if c.kind = 3 then (if !sealed ∧ c.key = 2 then some c.modulus else none)
  else if c.kind = 4 then k.vendor c.key
  else if c.kind = 2 ∧ c.op = 5 ∧ !sealed then none
  else if sealed then (if c.key = 2 then k.owner else none)
  else k.vendor c.key

/-- What R487 says of the set in the block buffer. -/
def State.setVerdict (s : State) : BitVec 5 :=
  let b := s.upd.buffer.bytes 0#8 0 4096
  let c := readSet b
  if !c.headerOk b then 0x08#5
  else if c.seq ≤ s.st.lastCfgSeq then 0x0B#5
  else match s.keys.forSet c with
    | none => 0x0A#5
    | some m =>
      if !c.itemsOk then 0x08#5
      else if pssVerify m (sha512 c.message) c.signature then 0#5
      else 0x09#5

end Sys2Proof.Machine
end

