-- ==== Sys2Proof/Machine/Update.lean ====
section
/-! DEFINITION. Update sessions (R488 to R504): the commands of Table 17-5, their refusals, what ends a session, and
configuration sets. -/
namespace Sys2Proof.Machine

/-! ## Results (R489, Table 17-7) -/

/-- UPD_STAT.CODE takes a result, and EVENT_FLAGS.UPDATE is set (R489). -/
def State.updCode (s : State) (code : BitVec 5) : State := { s with upd.code := code }.event 12

/-- A command that took time ends. -/
def State.updEnd (s : State) (code : BitVec 5) : State := { s with upd.job := none }.updCode code

/-- The owner that a command names: the host, or the port in UPD_CTRL.PORT for K2; any other write is dropped. -/
def updOwner (q : Requester) (port : BitVec 2) : Option (BitVec 2) :=
  match q with
  | .host => some 1#2
  | .sysPort => some 1#2
  | .eng .k2 => if port = 1#2 then some 2#2 else if port = 2#2 then some 3#2 else none
  | .eng _ => none

/-- A command of UPD_CTRL that has reached the update controller: SEQUENCE while another one runs (R489). -/
def State.updCommand (s : State) (q : Requester) (port : BitVec 2) (f : BitVec 2 → State → State) : State :=
  match updOwner q port with
    | none => s
    | some o => if s.upd.job.isSome then s.updCode 0x06#5 else f o s

/-- A command of the session's owner in one of the states that accept it: SEQUENCE and NOT_OWNER otherwise. -/
def State.updHeld (s : State) (o : BitVec 2) (ok : Bool) (f : State → State) : State :=
  if s.upd.owner = 0#2 then s.updCode 0x06#5
  else if s.upd.owner ≠ o then s.updCode 0x05#5
  else if !ok then s.updCode 0x06#5
  else f s

/-! ## Conditions of R493 -/

/-- FLOW: fluid is moving, or nothing says that it is not. -/
def State.flowMoves (s : State) : Bool :=
  let stale := match s.ab.lastClose with
    | none => true
    | some t => decide (65536 < (s.rtc.elapsed - t).toNat)
  let fast := decide (s.upd.flowLimit.toNat * 2 ^ 32 < s.fl.lastQ.natAbs * 1000000)
  let delivers := s.dl.state == .running || s.dl.state == .trim || s.dl.state == .closing
  s.sv.run && (stale || fast || delivers)

/-- SUPPLY: on VBAT, or a low cell. -/
def State.supplyLow (s : State) : Bool := s.pwr.source == .vbat || (s.pwr.vbatLow && !s.upd.noCell)

/-- The first condition of R493 that refuses a session of a kind. -/
def State.updRefusal (s : State) (kind : BitVec 2) : Option (BitVec 5) :=
  if s.flowMoves then some 0x02#5
  else if s.supplyLow then some 0x03#5
  else if s.keys.updLock && kind != 2#2 then some 0x04#5
  else none

/-! ## OPEN (R489 to R491) -/

/-- The kind of the session that an OPEN asks for: the stored one's on a resumption. -/
def State.openKind (s : State) (kind : BitVec 2) (resume : Bool) : BitVec 2 := if resume then s.upd.kind else kind

/-- The slot that a session writes (R494). -/
def State.sessionSlot (s : State) (kind : BitVec 2) : BitVec 2 :=
  if kind = 0#2 then s.st.bootPtr.idleSlot else if kind = 1#2 then 2#2 else 0#2

/-- A fresh session; a session stored so far is given up. -/
def State.openFresh (s : State) (o kind : BitVec 2) : State :=
  let was := s.upd.state
  let u := { s.upd with
    owner := o, kind := kind, slot := s.sessionSlot kind, len := none, nextBlock := 0, buffer := [], stored := .idle }
  let s := { s with upd := { u with state := .opened } }
  if was = .suspended then s.writeSession .idle else s

/-- A stored session goes on (R491). -/
def State.openResumed (s : State) (o : BitVec 2) : State :=
  { s with upd.owner := o, upd.state := s.upd.stored, upd.buffer := [] }

/-- The refusal of an OPEN, none where it is accepted. -/
def State.openRefusal (s : State) (o kind : BitVec 2) (resume : Bool) : Option (BitVec 5) :=
  let k := s.openKind kind resume
  if s.upd.owner ≠ 0#2 ∧ s.upd.owner ≠ o then some 0x01#5
  else if s.upd.owner ≠ 0#2 ∨ kind = 3#2 ∨ (resume ∧ s.upd.state ≠ .suspended) then some 0x06#5
  else if (k = 1#2 ∧ s.sealed) ∨ (k = 0#2 ∧ s.st.bootPtr.trial) then some 0x10#5
  else s.updRefusal k

def State.updOpen (s : State) (o kind : BitVec 2) (resume : Bool) : State :=
  match s.openRefusal o kind resume with
  | some c => s.updCode c
  | none => (if resume then s.openResumed o else s.openFresh o kind).updCode 0#5

/-- UPD_OPEN. -/
def execUpdOpen (q : Requester) (kind : BitVec 2) (resume : Bool) (port : BitVec 2) (s : State) :
    Host.Outcome State Fault Refusal :=
  .next (s.byWrite q 45 fun s => s.updCommand q port fun o s => s.updOpen o kind resume)

/-! ## BLOCK (R494) -/

/-- Blocks of an object of L bytes with its signature. -/
def blockCount (len : Nat) : Nat := (len + 512 + 4095) / 4096

/-- The flash controller refuses a sector of the running slot, or of the recovery image in SEALED (R478). -/
def State.flashRefused (s : State) : Bool :=
  s.upd.slot == s.st.bootPtr.active || (s.upd.slot == 2#2 && s.sealed)

/-- L, as block 0 of an image session shows it. -/
def State.blockLen (s : State) (n : Nat) (h : List Byte) : Option Nat :=
  if n = 0 then some (leAt h 8 4) else s.upd.len

/-- The refusal of a BLOCK, in the order of R494. -/
def State.blockRefusal (s : State) (n : Nat) : Option (BitVec 5) :=
  let b := s.upd.buffer.bytes 0#8 0 4096
  let beyond : Bool := match s.upd.len with
    | some l => n != 0 && decide (blockCount l ≤ n)
    | none => false
  if n ≠ s.upd.nextBlock ∨ beyond then some 0x06#5
  else if crc32 b ≠ s.upd.check then some 0x07#5
  else if s.upd.kind = 2#2 then none
  else if n = 0 ∧ !headerOk b s.upd.slot.toNat then some 0x08#5
  else if !s.railOk 6 then some 0x0E#5
  else if s.flashRefused then some 0x0D#5
  else none

/-- A block is taken: a configuration set stays in the buffer; a sector of an image is erased and programmed. -/
def State.takeBlock (s : State) (n : Nat) : State :=
  if s.upd.kind = 2#2 then { s with upd.nextBlock := 1, upd.state := .downloaded }.updCode 0#5
  else
    let l := s.blockLen n (s.upd.buffer.bytes 0#8 0 4096)
    { s with upd.len := l, upd.job := some .block, upd.state := .downloading }

def State.updBlock (s : State) (o : BitVec 2) (n : Nat) : State :=
  s.updHeld o (s.upd.state == .opened || s.upd.state == .downloading) fun s =>
    match s.blockRefusal n with
    | some c => s.updCode c
    | none => s.takeBlock n

/-- A BLOCK of K2 that is refused for VOLTAGE also traps on K2 (R90, R494). -/
def State.blockTraps (s : State) (q : Requester) (port : BitVec 2) (n : Nat) : Bool :=
  let open_ := s.upd.state == .opened || s.upd.state == .downloading
  q == .eng .k2 && s.regAnswers 45 && s.br.keep.up && s.upd.job.isNone && updOwner q port == some s.upd.owner && open_ &&
    s.blockRefusal n == some 0x0E#5

/-- UPD_BLOCK. -/
def execUpdBlock (q : Requester) (n : BitVec 10) (port : BitVec 2) (s : State) : Host.Outcome State Fault Refusal :=
  let traps := s.blockTraps q port n.toNat
  let s := s.byWrite q 45 fun s => s.updCommand q port fun o s => s.updBlock o n.toNat
  .next (if traps then s.trap .k2 .voltage (s.pwr.vset.setWidth 64) else s)

/-- The state after `n` blocks of the session. -/
def Update.afterBlock (u : Update) : UpdState :=
  match u.len with
  | some l => if blockCount l ≤ u.nextBlock + 1 then .downloaded else .downloading
  | none => .downloading

/-- The sector reads back as the buffer: NEXT_BLOCK advances and the session record is written. -/
def State.blockDone (s : State) : State :=
  if s.st.bp = 3#2 then s.updEnd 0x0C#5
  else
    let st := s.upd.afterBlock
    let s := { s with upd.nextBlock := s.upd.nextBlock + 1, upd.state := st }
    (s.writeSession st).updEnd 0#5

/-- UPD_BLOCK_COMPLETE (R494): the sector holds the buffer, or, where erase, program or read-back failed, contents that
no rule gives. -/
def execUpdBlockComplete (readBackOk : Bool) (s : State) : Host.Outcome State Fault Refusal :=
  if s.upd.job ≠ some .block then .next s
  else if readBackOk then
    let a := flashBase s.upd.slot.toNat + 4096 * s.upd.nextBlock
    .next ({ s with st.code := s.st.code.write 0xFF#8 a (s.upd.buffer.bytes 0#8 0 4096) }).blockDone
  else .next (s.tearFlash.updEnd 0x0D#5)

/-! ## VERIFY (R495) -/

def State.updVerify (s : State) (o : BitVec 2) : State :=
  s.updHeld o (s.upd.state == .downloaded) fun s =>
    if s.railOk 2 then { s with upd.job := some .verify, upd.state := .verifying } else s.updCode 0x0E#5

/-- UPD_VERIFY. -/
def execUpdVerify (q : Requester) (port : BitVec 2) (s : State) : Host.Outcome State Fault Refusal :=
  .next (s.byWrite q 45 fun s => s.updCommand q port fun o s => s.updVerify o)

/-- The verdict of the checks, and PROTECT where the session record cannot be written. -/
def State.verdict (s : State) : BitVec 5 :=
  if s.upd.kind = 2#2 then s.setVerdict
  else
    let v := s.imageVerdict s.upd.slot.toNat
    if v = 0#5 ∧ s.st.bp = 3#2 then 0x0C#5 else v

def State.verifyDone (s : State) : State :=
  let v := s.verdict
  if v = 0#5 then
    let s := { s with upd.state := .verified }
    (if s.upd.kind = 2#2 then s else s.writeSession .verified).updEnd v
  else { s with upd.state := .downloaded }.updEnd v

/-- UPD_VERIFY_COMPLETE: not while an asynchronous crypto operation, or the signature of a pairing, holds VERIFY back
(R490). A signature that has waited for the crypto engine begins (R591). -/
def execUpdVerifyComplete (s : State) : Host.Outcome State Fault Refusal :=
  if s.upd.job = some .verify ∧ s.cr.job.isNone ∧ !(s.tw.pairing.any fun (p : Pairing) => p.signing) then
    .next s.verifyDone.pairSign
  else .next s

/-! ## ACTIVATE (R496) -/

/-- The boot pointer after an activation; a recovery image starts no trial. -/
def State.activated (s : State) : BootPtr :=
  let b := s.st.bootPtr
  if s.upd.kind = 1#2 then b
  else
    let slot := s.upd.slot
    let h := s.st.imageBytes slot.toNat 0 256
    let digest := sha512 (s.st.imageBytes slot.toNat 0 (leAt h 8 4))
    let b1 := (b.setImage slot (BitVec.ofNat 32 (leAt h 0x10 4)) digest).setConf slot false
    { b1 with active := slot, prev := b.active, trial := true, boots := 0#8, start := s.rtc.elapsed }

/-- The two record writes and the activation reset. -/
def State.activate (s : State) : State :=
  let s := { s with upd.state := .activating }
  let s := s.commitRecord 4 s.activated.payload
  let s := (s.writeSession .idle).updCode 0#5
  s.deviceReset 0x0A#8 true

def State.updActivate (s : State) (o : BitVec 2) : State :=
  s.updHeld o (s.upd.state == .verified && s.upd.kind != 2#2) fun s =>
    match s.updRefusal s.upd.kind with
    | some c => s.updCode c
    | none => if s.st.bp = 3#2 then s.updCode 0x0C#5 else s.activate

/-- UPD_ACTIVATE. -/
def execUpdActivate (q : Requester) (port : BitVec 2) (s : State) : Host.Outcome State Fault Refusal :=
  .next (s.byWrite q 45 fun s => s.updCommand q port fun o s => s.updActivate o)

/-! ## APPLY (R502, R504) -/

/-- MASK and PRE_SEQ of a set of records. -/
def recordMask (items : List (Nat × List Byte)) : Nat := (items.map fun x => 2 ^ (x.1 - 0x300)).sum

def Store.preSeqs (st : Store) : List Nat :=
  (List.range 23).map fun k =>
    let c := st.copies (0x300 + k)
    match loadRule c.1 c.2 with
    | some (_, x, _) => x.1.toNat
    | none => 0

/-- A RECORDS set: the session record in APPLYING, then the records in the order of the items. -/
def State.applyRecords (s : State) (items : List (Nat × List Byte)) : State :=
  let p := s.upd.payload .applying s.st.lastCfgSeq (recordMask items) s.st.preSeqs
  let s := { s with upd.state := .applying }.commitRecord 5 p
  items.foldl (fun s x => { s with st := s.st.putRecord x.1 x.2 }) s

/-- The settings payload with the value of one register replaced or added (R634). -/
def putEntry (idx : Nat) (w : W32) : List Byte → List Byte
  | a :: b :: c :: d :: e :: f :: g :: h :: rest =>
    if leNat [a, b] = idx then leBytes 4 idx ++ leBytes 4 w.toNat ++ rest
    else if idx < leNat [a, b] then
      leBytes 4 idx ++ leBytes 4 w.toNat ++ a :: b :: c :: d :: e :: f :: g :: h :: rest
    else a :: b :: c :: d :: e :: f :: g :: h :: putEntry idx w rest
  | _ => leBytes 4 idx ++ leBytes 4 w.toNat

/-- WINDOW: the live field and the retained one. -/
def State.applyWindow (s : State) (w : W32) : State :=
  let s := s.putRwt 47 w
  s.commitRecord 1 (putEntry 47 (s.rwtWord 47) s.settings)

/-- RESCALE: the rod at zero with a new SCALE, through one group of the Abacus; the old values are logged. -/
def State.rescale (s : State) (r : Rod) (scale : W64) : State :=
  let x : RodSt := { val := RodValue.zero, scale := scale }
  let m : BitVec 16 := ~~~(1#16 <<< r.val)
  let ab := s.ab
  let s := { s with ab := { ab with
    closed := ab.closed.set r x, opened := ab.opened.set r x, touched := ab.touched &&& m, bound := ab.bound &&& m,
    jseq := ab.jseq + 1 } }
  (s.journalGroup .k01 [(r, RodValue.zero)] true).logOpen

/-- A change of seal state, logged (R483). -/
def State.setOwner (s : State) (o : Option Nat) : State :=
  let lock := if o.isSome then s.keys.updLock else false
  { s with keys.owner := o, keys.updLock := lock }.logOpen

/-- A CONTROL item takes effect. -/
def State.applyControl (s : State) (c : ConfigSet) : State :=
  match c.op with
  | 1 => s.changeBp (BitVec.ofNat 2 c.operand) true
  | 2 => s.applyWindow (BitVec.ofNat 32 c.operand)
  | 3 => { s with keys.updLock := true }
  | 4 => { s with keys.updLock := false }
  | 5 => s.setOwner none
  | _ => s.rescale ⟨c.operand % 16, Nat.mod_lt _ (by decide)⟩ (BitVec.ofNat 64 c.operand2)

/-- KEYROT: the other vendor slot takes the new key, and with RETIRE the verifying slot is retired. -/
def State.applyKeyrot (s : State) (c : ConfigSet) : State :=
  let fresh : KeySlot := { state := .valid, key := .loaded c.modulus }
  let retire (k : KeySlot) : KeySlot := if leAt c.body 0 1 = 0 then k else { k with state := .retired }
  if c.key = 0 then { s with keys.v1 := fresh, keys.v0 := retire s.keys.v0 }
  else { s with keys.v0 := fresh, keys.v1 := retire s.keys.v1 }

/-- The refusals of APPLY after those of R493. -/
def State.applyRefusal (s : State) (c : ConfigSet) : Option (BitVec 5) :=
  let abacus := s.powered 2 && s.boot.rodsLoaded && !s.ab.frozen
  if s.st.bp = 3#2 ∨ (c.kind = 1 ∧ s.st.bp ≠ 0#2) then some 0x0C#5
  else if c.kind = 2 ∧ c.op = 1 ∧ c.operand = 3 ∧ s.bp11Refused then some 0x0C#5
  else if c.kind = 3 ∧ (allEngines.any fun e => (s.engine e).loaded) then some 0x10#5
  else if c.kind = 2 ∧ c.op = 6 ∧ !abacus then some 0x10#5
  else none

/-- What the set does before its session record. -/
def State.applySet (s : State) (c : ConfigSet) : State :=
  match c.kind with
  | 1 => s.applyRecords c.records
  | 2 => s.applyControl c
  | 3 => s.setOwner (some c.modulus)
  | _ => s.applyKeyrot c

/-- The session record with the CFG_SEQ of the set, and the end of the session. -/
def State.applyEnd (s : State) (c : ConfigSet) : State :=
  let s := { s with st := s.st.putRecord 5 (s.upd.payload .idle c.seq 0 []) }
  let s := if c.kind = 1 then s.logOpen else s
  { s with upd.state := .idle, upd.owner := 0#2 }.updCode 0#5

def State.updApply (s : State) (o : BitVec 2) : State :=
  s.updHeld o (s.upd.state == .verified && s.upd.kind == 2#2) fun s =>
    let c := readSet (s.upd.buffer.bytes 0#8 0 4096)
    match s.updRefusal 2#2 with
    | some r => s.updCode r
    | none =>
      match s.applyRefusal c with
      | some r => s.updCode r
      | none => (s.applySet c).applyEnd c

/-- UPD_APPLY. -/
def execUpdApply (q : Requester) (port : BitVec 2) (s : State) : Host.Outcome State Fault Refusal :=
  .next (s.byWrite q 45 fun s => s.updCommand q port fun o s => s.updApply o)

/-! ## CLOSE, ABORT and the idle timeout (R489, R491) -/

/-- The state that is stored of a session that is suspended. -/
def UpdState.keep : UpdState → UpdState
  | .downloaded => .downloaded
  | .verifying => .downloaded
  | .verified => .verified
  | _ => .downloading

/-- The lock is released: an image session is suspended, a CONFIG session leaves nothing. -/
def State.endSession (s : State) : State :=
  let u := { s.upd with owner := 0#2, job := none }
  if s.upd.kind = 2#2 then { s with upd := { u with state := .idle, nextBlock := 0 } }
  else
    let k := s.upd.state.keep
    { s with upd := { u with state := .suspended, stored := k } }.writeSession k

/-- UPD_CLOSE. -/
def execUpdClose (q : Requester) (port : BitVec 2) (s : State) : Host.Outcome State Fault Refusal :=
  .next (s.byWrite q 45 fun s => s.updCommand q port fun o s => s.updHeld o true fun s => s.endSession.updCode 0#5)

/-- The session is given up. -/
def State.abortSession (s : State) : State :=
  let image := s.upd.kind != 2#2
  let s := { s with upd.owner := 0#2, upd.state := .idle, upd.nextBlock := 0, upd.stored := .idle, upd.len := none }
  if image then s.writeSession .idle else s

/-- UPD_ABORT. -/
def execUpdAbort (q : Requester) (port : BitVec 2) (s : State) : Host.Outcome State Fault Refusal :=
  .next (s.byWrite q 45 fun s => s.updCommand q port fun o s => s.updHeld o true fun s => s.abortSession.updCode 0#5)

/-- UPD_IDLE_TIMEOUT. A block ends long before the shortest timeout, so that none is in progress. -/
def execUpdIdleTimeout (s : State) : Host.Outcome State Fault Refusal :=
  if s.upd.owner = 0#2 ∨ s.upd.job = some .block then .next s
  else .next { s.endSession with upd.code := 0x0F#5 }

/-! ## CONFIRM and the trial deadline (R499, R501) -/

/-- The boot pointer of a confirmed trial. -/
def Store.confirmedPtr (st : Store) : BootPtr :=
  let b := st.bootPtr
  let floor : W32 := BitVec.ofNat 32 (leAt (st.imageBytes b.active.toNat 0 256) 0x14 4)
  { (b.setConf b.active true) with trial := false, minVersion := if b.minVersion < floor then floor else b.minVersion }

def State.updConfirm (s : State) : State :=
  if !s.st.bootPtr.trial then s.updCode 0x06#5
  else if s.st.bp = 3#2 then s.updCode 0x0C#5
  else (s.commitRecord 4 s.st.confirmedPtr.payload).updCode 0#5

/-- UPD_CONFIRM. -/
def execUpdConfirm (q : Requester) (port : BitVec 2) (s : State) : Host.Outcome State Fault Refusal :=
  .next (s.byWrite q 45 fun s => s.updCommand q port fun _ s => s.updConfirm)

/-- TRIAL_DEADLINE (R499): the fallback is written, and the activation reset follows. -/
def execTrialDeadline (s : State) : Host.Outcome State Fault Refusal :=
  if s.powered 1 ∧ s.st.bootPtr.trial ∧ s.boot.running.isSome then
    .next ((s.writeFallback s.st.bootPtr 5 true).deviceReset 0x0A#8 true)
  else .next s

/-! ## UPD_STAT and UPD_CTRL (Tables 23-42, 23-43) -/

def State.updStat (s : State) : W32 :=
  let u := s.upd
  let b := s.st.bootPtr
  place 32 0 (BitVec.ofNat 4 u.state.code) ||| place 32 4 u.code ||| placeB 32 9 u.job.isSome ||| place 32 10 u.owner |||
    place 32 12 (BitVec.ofNat 10 u.nextBlock) ||| placeB 32 22 b.trial |||
    (if b.trial then place 32 23 (field b.boots 0 5) else 0#32)

/-- The command that a write of UPD_CTRL gives (R489). -/
def State.updDispatch (s : State) (cmd : Nat) (o : BitVec 2) : State :=
  match cmd with
  | 1 => s.updOpen o s.upd.kindReg s.upd.resumeReg
  | 2 => s.updBlock o s.upd.blockReg.toNat
  | 3 => s.updVerify o
  | 4 => s.updActivate o
  | 5 => s.updApply o
  | 6 => s.updHeld o true fun s => s.endSession.updCode 0#5
  | 7 => s.updHeld o true fun s => s.abortSession.updCode 0#5
  | 8 => s.updConfirm
  | _ => s.updCode 0x06#5

/-- UPD_CTRL is written; a write of K2 that names HOST, and any of another engine, is dropped (R489). -/
def State.writeUpdCtrl (s : State) (q : Requester) (v : W32) : State :=
  let port : BitVec 2 := field v 7 2
  if (updOwner q port).isNone then s
  else
    let s := { s with upd.kindReg := field v 4 2, upd.resumeReg := v.getLsbD 6, upd.portReg := port,
                      upd.blockReg := field v 9 10 }
    s.updCommand q port fun o s => s.updDispatch (field v 0 4).toNat o

end Sys2Proof.Machine
end

