-- ==== Sys2Proof/Machine/Crypt.lean ====
section
/-! DEFINITION. The asynchronous operations of the crypto engine (R453, R505), and attestation (R480, R506). -/
namespace Sys2Proof.Machine

/-! ## Descriptors (R453, Table 15-13) -/

/-- A word of a descriptor, as the operation reads it when it starts. -/
def State.descWord (s : State) (e : Eng) (desc k : Nat) : Nat := leNat (s.readSpan e (desc + 8 * k) 8)

/-- An operand of `n` bytes lies at a multiple of 8 where the issuer may read it. -/
def operandOk (e : Eng) (a n : Nat) : Bool := a % 8 == 0 && mayReadSpan e a n

/-- A destination of `n` bytes lies at a multiple of 8 where the issuer may write it. -/
def destOk (e : Eng) (a n : Nat) : Bool := a % 8 == 0 && mayFillSpan e a n

/-- The modulus that a VERIFY descriptor names, or the STATUS that refuses it. -/
def State.verifyKey (s : State) (e : Eng) (desc : Nat) : Nat ⊕ Nat :=
  let orAbsent (o : Option Nat) : Nat ⊕ Nat :=
    match o with
    | some m => .inl m
    | none => .inr 3
  match s.descWord e desc 3 with
  | 0 => orAbsent (s.keys.vendor 0)
  | 1 => orAbsent (s.keys.vendor 1)
  | 2 => orAbsent s.keys.owner
  | 3 => .inl Config.identityModulus
  | 4 =>
    let a := s.descWord e desc 4
    if s.sealed ∨ !operandOk e a 512 then .inr 4 else .inl (beNat (s.readSpan e a 512))
  | _ => .inr 4

/-- A VERIFY: the STATUS that it will write. -/
def State.verifyStatus (s : State) (e : Eng) (desc : Nat) : Nat :=
  let digest := s.descWord e desc 1
  let sig := s.descWord e desc 2
  if !operandOk e desc 0x28 ∨ !operandOk e digest 64 ∨ !operandOk e sig 512 then 4
  else match s.verifyKey e desc with
    | .inr st => st
    | .inl m => if pssVerify m (s.readSpan e digest 64) (s.readSpan e sig 512) then 1 else 2

/-! ## QUOTE (R505, Table 17-10) -/

/-- Digest and VERSION of the running image; without one no rule gives them. -/
def State.fwDigest (s : State) : List Byte × List Byte :=
  match s.boot.running with
  | some src =>
    let slot := slotBase src / 0x300000
    let h := s.st.imageBytes slot 0 256
    (sha512 (s.st.imageBytes slot 0 (leAt h 8 4)), (h.drop 0x10).take 4)
  | none => ((List.range 64).map fun k => (s.free k).setWidth 8, (List.range 4).map fun k => (s.free (64 + k)).setWidth 8)

/-- ACTIVE of the image that runs. -/
def State.quoteState (s : State) : List Byte :=
  let b := s.st.bootPtr
  let flags : Byte := placeB 8 0 b.trial ||| placeB 8 1 s.keys.updLock ||| placeB 8 2 s.keys.owner.isSome
  [bit 8 s.sealed, s.st.bp.setWidth 8, b.active.setWidth 8, flags]

/-- The fields of the QUOTE behind the digest, up to the rods. -/
def State.quoteMiddle (s : State) (version : List Byte) : List Byte :=
  let owner := match s.keys.owner with
    | some m => fingerprint m
    | none => List.replicate 16 0#8
  s.quoteState ++ version ++
    leBytes 8 (timeWord (BitVec.ofNat 34 (secondsOf s.rtc.cal)) s.rtc.subsec 0#12 0#3).toNat ++
    leBytes 4 s.st.logSeq.toNat ++ List.replicate 4 0#8 ++ leBytes 16 s.st.logHead.toNat ++ owner ++
    fingerprint Config.identityModulus ++ List.replicate 8 0#8

/-- The QUOTE over a nonce, with the rods of the snapshot. -/
def State.quote (s : State) (nonce : List Byte) : List Byte :=
  let fw := s.fwDigest
  leBytes 4 0x54515855 ++ leBytes 4 1 ++ leBytes 4 0x2040 ++ leBytes 4 Config.devRev.toNat ++ nonce ++ fw.1 ++
    s.quoteMiddle fw.2 ++ (s.ab.snap.toList.map rodBytes).flatten

/-! ## Starting an operation (R452, R453, R505) -/

def cryptJob (op : CryptOp) (e : Eng) (desc dest status : Nat) (result : List Byte) : CryptJob :=
  { op := op, eng := e, desc := desc, dest := dest, status := BitVec.ofNat 64 status, result := result, raised := none }

def State.startVerify (s : State) (e : Eng) (desc : Nat) : State :=
  { s with cr.job := some (cryptJob .verify e desc 0 (s.verifyStatus e desc) []) }

/-- The signature over a QUOTE, 512 bytes. -/
def quoteSignature (q : List Byte) : List Byte := (Config.identitySign q ++ List.replicate 512 0#8).take 512

/-- QSIGN: the snapshot, the QUOTE and its signature; STATUS 4 where an address does not serve. -/
def State.startQsign (s : State) (e : Eng) (desc : Nat) : State :=
  let s := s.snapshot
  let nonce := s.descWord e desc 1
  let dest := s.descWord e desc 2
  let r := s.raiseRail
  let job :=
    if !operandOk e desc 0x18 || !operandOk e nonce 32 || !destOk e dest 1216 then cryptJob .qsign e desc 0 4 []
    else
      let q := s.quote (s.readSpan e nonce 32)
      cryptJob .qsign e desc dest 1 (q ++ quoteSignature q)
  { r.1 with cr.job := some { job with raised := r.2 } }.usedFree 68

/-- MODEXP: base, exponent and modulus of 512 bytes; with a modulus of zero no rule gives the result. -/
def State.startModexp (s : State) (e : Eng) (desc : Nat) : State :=
  let w := s.descWord e desc
  let ok := operandOk e desc 0x28 && operandOk e (w 1) 512 && operandOk e (w 2) 512 && operandOk e (w 3) 512 &&
    destOk e (w 4) 512
  let num (k : Nat) : Nat := beNat (s.readSpan e (w k) 512)
  let result : List Byte :=
    if num 3 = 0 then (List.range 512).map fun k => (s.free k).setWidth 8 else beBytes 512 (powMod (num 1) (num 2) (num 3))
  let job := if ok then cryptJob .modexp e desc (w 4) 1 result else cryptJob .modexp e desc 0 4 []
  { s with cr.job := some job }.usedFree 512

/-! ## The end of an operation (R453, R505) -/

/-- The result and STATUS are written; nothing where the descriptor itself does not serve. -/
def State.writeResult (s : State) (j : CryptJob) : State :=
  let s := if j.status = 1#64 ∧ j.op ≠ .verify then s.fillSpan j.eng j.dest j.result else s
  if destOk j.eng j.desc 8 then s.fillSpan j.eng j.desc (leBytes 8 j.status.toNat) else s

/-- CRYPT_COMPLETE: STATUS, and an event for the issuer. -/
def execCryptComplete (s : State) : Host.Outcome State Fault Refusal :=
  match s.cr.job with
  | some j =>
    let s := ({ s with cr.job := none }).lowerRail j.raised
    .next ((s.writeResult j).signal j.eng).pairSign
  | none => .next s

/-! ## Attestation (R480, R506) -/

/-- A port of the host, which may request a QUOTE. -/
def isPort (q : Requester) : Bool :=
  match q with
  | .host => true
  | .sysPort => true
  | .eng _ => false

/-- QREQ is written by the host: QBUSY, and an event for K2; ignored while QBUSY is set, and where no image has verified,
since K2 then accepts only update sessions (R161). -/
def State.requestQuote (s : State) (q : Requester) : State :=
  if isPort q ∧ !s.upd.qBusy ∧ !s.boot.noImage then { s with upd.qBusy := true }.signal .k2 else s

/-- QREADY is written with 1: K2 sets it and clears QBUSY; a port of the host clears it. -/
def State.writeQready (s : State) (q : Requester) : State :=
  if q = .eng .k2 then { s with upd.qReady := true, upd.qBusy := false }
  else if isPort q then { s with upd.qReady := false }
  else s

/-- CERT_READ is written with 1 by K2: the certificate is copied to its port window at 0x0060_F800. -/
def State.readCert (s : State) : State :=
  { s with prt.win := s.prt.win.write 0#8 0xF800 (Config.identityCert.take 2048), upd.certRead := false }

/-- QREQ. -/
def execQreq (q : Requester) (s : State) : Host.Outcome State Fault Refusal :=
  .next (s.byWrite q 49 fun s => s.requestQuote q)

/-- QREADY. -/
def execQready (q : Requester) (s : State) : Host.Outcome State Fault Refusal :=
  .next (s.byWrite q 49 fun s => s.writeQready q)

/-- CERT_READ. -/
def execCertRead (s : State) : Host.Outcome State Fault Refusal :=
  .next (s.byWrite (.eng .k2) 49 State.readCert)

end Sys2Proof.Machine
end

