-- ==== Sys2Proof/Machine/EngineCtl.lean ====
section
/-! DEFINITION. ENGINE_CTRL and the program loader (R400 to R402, R406, Tables 23-36 to 23-38). -/
namespace Sys2Proof.Machine

/-! ## Loading a program (R400, R401) -/

def State.engineRefused (s : State) : State := { s with er.refused := true }

/-- The word at PROG_ADDR is stored, and the address advances; the engine counts as loaded. -/
def State.loadWord (s : State) (e : Eng) (v : W32) : State :=
  let a := s.er.progAddr.toNat
  let s := s.modEngine e fun x => { x with prog := x.prog.setWord32 0#8 a v, loaded := true }
  { s with er.progAddr := s.er.progAddr + 4#17 }

/-- A write of PROG_DATA: dropped with REFUSED in SEALED, beyond the program memory, or for an engine that is not halted
through ENGINE_CTRL. -/
def State.writeProgData (s : State) (v : W32) : State :=
  match engOfNum s.er.progEng.toNat with
  | none => s.engineRefused
  | some e =>
    if s.sealed ∨ !(s.engine e).halt ∨ progEnd e ≤ s.er.progAddr.toNat then s.engineRefused
    else if s.powered (clusterDomain (engCluster e)) then s.loadWord e v
    else s

/-- PROG_DATA_WRITE. -/
def execProgDataWrite (v : W32) (s : State) : Host.Outcome State Fault Refusal :=
  if s.hubServes then .next (s.writeProgData v) else .next s

/-- A write of PROG_ADDR: dropped with REFUSED in SEALED; an engine number above 4 keeps the old one (R622). -/
def State.writeProgAddr (s : State) (v : W32) : State :=
  if s.sealed then s.engineRefused
  else
    let n : BitVec 3 := field v 28 3
    { s with er.progAddr := field v 0 17 &&& 0x1FFFC#17, er.progEng := if n.toNat ≤ 4 then n else s.er.progEng }

/-! ## ENGINE_CTRL (R401, R402, R406) -/

/-- One bit of each engine, in the order of their numbers. -/
def State.engineBits (s : State) (f : Engine → Bool) : BitVec 5 :=
  bit 5 (f s.eng.s0) ||| placeB 5 1 (f s.eng.s1) ||| placeB 5 2 (f s.eng.k01) ||| placeB 5 3 (f s.eng.k2) |||
    placeB 5 4 (f s.eng.k3)

/-- HALT bits as they stand. -/
def State.haltWord (s : State) : BitVec 5 := s.engineBits fun x => x.halt

/-- A write of HALT and STEP that SEALED refuses: it would halt, step or restart S0, S1 or K0–K1. -/
def State.haltRefused (s : State) (halt step : BitVec 5) : Bool :=
  s.sealed && ((halt ^^^ s.haltWord) ||| step) &&& 0x07#5 != 0#5

/-- An engine is halted through ENGINE_CTRL. -/
def State.haltEngine (s : State) (e : Eng) : State :=
  let s := s.modEngine e fun x => { x with halt := true }
  { s with er.haltCause := .host, er.haltEng := BitVec.ofNat 3 (engNum e) }

/-- The HALT bit of an engine is cleared: execution starts at program address 0, whatever had halted it. -/
def Engine.start (x : Engine) : Engine :=
  { x with halt := false, brkHalt := false, dblHalt := false, wait := none, pc := 0#32 }

/-- HALT takes a value: bits that rise halt, bits that fall start. -/
def State.writeHalt (s : State) (halt : BitVec 5) : State :=
  allEngines.foldl (fun (s : State) e =>
    let want := halt.getLsbD (engNum e)
    if want = (s.engine e).halt then s
    else if want then s.haltEngine e
    else s.modEngine e Engine.start) s

/-- ENGINE_HALT. -/
def execEngineHalt (q : Requester) (halt : BitVec 5) (s : State) : Host.Outcome State Fault Refusal :=
  .next (s.byWrite q 34 fun s => if s.haltRefused halt 0#5 then s.engineRefused else s.writeHalt halt)

/-- WD_EN takes a value; a watchdog starts its count as it is enabled. -/
def State.writeWdEn (s : State) (en : BitVec 5) : State :=
  allEngines.foldl (fun (s : State) e =>
    let on := en.getLsbD (engNum e)
    s.modEngine e fun x => { x with wdEn := on, wdCount := if on && !x.wdEn then 0 else x.wdCount }) s

/-- The engine is halted by some cause. -/
def Engine.halted (x : Engine) : Bool := x.halt || x.brkHalt || x.dblHalt

/-- Halted engines that a write of STEP asks to run one instruction: with DEBUG_EN in OPEN alone. -/
def State.stepsAsked (s : State) (step : BitVec 5) : BitVec 5 :=
  if s.er.debugEn ∧ !s.sealed then
    allEngines.foldl (fun m e =>
      if step.getLsbD (engNum e) && (s.engine e).halted then m ||| (1#5 <<< engNum e) else m) 0#5
  else 0#5

/-- A write of ENGINE_CTRL. -/
def State.writeEngineCtrl (s : State) (v : W32) : State :=
  let halt : BitVec 5 := field v 0 5
  let step : BitVec 5 := field v 15 5
  if s.haltRefused halt step then s.engineRefused
  else
    let s := (s.writeHalt halt).writeWdEn (field v 5 5)
    let s := { s with er.wdPeriod := field v 10 4, er.debugEn := if s.sealed then s.er.debugEn else v.getLsbD 14 }
    { s with er.stepReq := s.er.stepReq ||| s.stepsAsked step }

def haltCode : HaltCause → BitVec 3
  | .none => 0#3
  | .host => 1#3
  | .brk => 2#3
  | .doubleTrap => 3#3
  | .step => 4#3

def State.engineCtrlWord (s : State) : W32 :=
  place 32 0 s.haltWord ||| place 32 5 (s.engineBits fun x => x.wdEn) ||| place 32 10 s.er.wdPeriod |||
    placeB 32 14 s.er.debugEn

def State.engineStatWord (s : State) : W32 :=
  place 32 0 (s.engineBits fun x => x.loaded) ||| place 32 5 (s.engineBits fun x => x.inTrap) |||
    place 32 10 (s.engineBits Engine.halted) ||| place 32 15 (haltCode s.er.haltCause) ||| place 32 18 s.er.haltEng |||
    placeB 32 21 s.er.refused ||| placeB 32 22 s.er.mbiOvf ||| placeB 32 23 s.er.mboEmpty

end Sys2Proof.Machine
end

