-- ==== Sys2Proof/Machine/Perturb.lean ====
section
/-! DEFINITION. Test perturbation (ch. 22): the key, the handshake delays, the flow settings and the stalls. -/
namespace Sys2Proof.Machine

/-! ## The key (R606, R607, R627) -/

/-- The accepted unlock: counts and shadows cleared, ROLE released, a delivery aborted with reason TEST, LEGAL outputs
held (R606, R608, R617). -/
def State.unlock (s : State) : State :=
  let s := { s with pt.unlocked := true, pt.bit1 := false, pt.delayed := 0#6, pt.offset := 0#6, pt.drops := 0#6,
                    pt.stalls := 0#6, pt.synths := 0#6, pt.travTest := true, ab.shadow := zeroRods }
  ((s.releaseRole.abortDelivery 11).holdLegalOutputs).flowTested.eventOpen 17

/-- A value written to PERTURB_KEY by the host port. -/
def State.writeKey (s : State) (key : W32) : State :=
  if s.pt.unlocked then (if key = 0#32 then s.lockPerturb else s)
  else if s.pt.bit1 then (if key = 0x0000C0DE#32 then s.unlock else { s with pt.bit1 := false })
  else if key = 0x00005EED#32 then { s with pt.bit1 := true }
  else s

/-- PERTURB_KEY_WRITE (R606): the host port alone writes the key (R399, R560). -/
def execPerturbKeyWrite (q : Requester) (key : W32) (s : State) : Host.Outcome State Fault Refusal :=
  if q = .host then .next (s.onReg 68 fun s => s.writeKey key) else .next s

/-! ## Handshake delays (R609) -/

/-- PERTURB_TIMING: TARGET [4:0], DELAY [12:5], WR [13]; dropped while locked (R608). -/
def State.writeTiming (s : State) (v : W32) : State :=
  if !s.pt.unlocked then s
  else
    let t : Fin 32 := ⟨(field v 0 5).toNat, (field v 0 5).isLt⟩
    let s := { s with pt.target := field v 0 5 }
    if v.getLsbD 13 then { s with pt.delay := s.pt.delay.set t (field v 5 8) } else s

/-- PERTURB_TIMING_WRITE (R609). -/
def execPerturbTimingWrite (q : Requester) (v : W32) (s : State) : Host.Outcome State Fault Refusal :=
  .next (s.byWrite q 69 fun s => s.writeTiming v)

/-! ## Flow settings (R610 to R614, Table 22-5) -/

def State.ptRefused (s : State) : State := { s with pt.bit1 := true }

/-- A setting waits for the next traverse boundary (R610). -/
def State.queueFlow (s : State) (f : FlowSet) : State := { s with pt.flow := s.pt.flow ++ [f] }

/-- CLEAR of a unit 0 to 21, or of everything with unit 31; every stall ends with the latter (R610, R613). -/
def State.clearFlow (s : State) (unit : BitVec 5) (value : BitVec 24) : State :=
  if value ≠ 0#24 ∨ (21 < unit.toNat ∧ unit ≠ 31#5) then s.ptRefused
  else
    let s := s.queueFlow (.clear unit)
    if unit = 31#5 then s.endStalls else s

def State.setStopOffset (s : State) (unit : BitVec 5) (value : BitVec 24) : State :=
  if h : unit.toNat < 22 then
    if value = 0x800000#24 then s.ptRefused else s.queueFlow (.stopOffset ⟨unit.toNat, h⟩ value)
  else s.ptRefused

def State.setDrop (s : State) (unit : BitVec 5) (value : BitVec 24) : State :=
  if h : unit.toNat < 20 then
    if field value 10 14 ≠ 0#14 then s.ptRefused
    else s.queueFlow (.drop ⟨unit.toNat, h⟩ (field value 0 2) (field value 2 8))
  else s.ptRefused

/-- A stall acts at once and counts once; it ends by STALL_EXPIRY, or with VALUE 0 only when cleared (R613). -/
def State.setStall (s : State) (unit : BitVec 5) (value : BitVec 24) : State :=
  if h : unit.toNat < 7 then
    if field value 16 8 ≠ 0#8 then s.ptRefused
    else
      { s with pt.stalled := s.pt.stalled.set unit.toNat true, pt.stalls := satCount s.pt.stalls,
               pt.stallTimed := s.pt.stallTimed.set unit.toNat (value != 0#24) }
  else s.ptRefused

def State.setSynth (s : State) (unit : BitVec 5) (value : BitVec 24) : State :=
  if h : unit.toNat < 20 then
    if value = 0x800000#24 then s.ptRefused else s.queueFlow (.synth ⟨unit.toNat, h⟩ value)
  else s.ptRefused

/-- A write of PERTURB_FLOW: it acts only while unlocked (R608). -/
def State.flowBy (s : State) (q : Requester) (f : State → State) : State :=
  s.byWrite q 70 fun s => if s.pt.unlocked then f s else s

/-- PERTURB_FLOW: UNIT [4:0], OP [7:5], VALUE [31:8]; OP 5 to 7 are dropped with PT_REFUSED (Table 22-5). -/
def State.writeFlow (s : State) (v : W32) : State :=
  if !s.pt.unlocked then s
  else
    let unit := field v 0 5
    let value := field v 8 24
    match (field v 5 3).toNat with
    | 0 => s.clearFlow unit value
    | 1 => s.setStopOffset unit value
    | 2 => s.setDrop unit value
    | 3 => s.setStall unit value
    | 4 => s.setSynth unit value
    | _ => s.ptRefused

/-- PERTURB_CLEAR (R610). -/
def execPerturbClear (q : Requester) (unit : BitVec 5) (value : BitVec 24) (s : State) :
    Host.Outcome State Fault Refusal :=
  .next (s.flowBy q fun s => s.clearFlow unit value)

/-- STOP_OFFSET (R611). -/
def execStopOffset (q : Requester) (unit : BitVec 5) (value : BitVec 24) (s : State) :
    Host.Outcome State Fault Refusal :=
  .next (s.flowBy q fun s => s.setStopOffset unit value)

/-- DROP (R612). -/
def execDrop (q : Requester) (unit : BitVec 5) (value : BitVec 24) (s : State) : Host.Outcome State Fault Refusal :=
  .next (s.flowBy q fun s => s.setDrop unit value)

/-- STALL (R613). -/
def execStall (q : Requester) (unit : BitVec 5) (value : BitVec 24) (s : State) : Host.Outcome State Fault Refusal :=
  .next (s.flowBy q fun s => s.setStall unit value)

/-- STALL_EXPIRY (R613): the stall time of queue `q` has passed; a stall with VALUE 0 has none. -/
def execStallExpiry (q : Fin 7) (s : State) : Host.Outcome State Fault Refusal :=
  .next (if s.pt.stalled[q] && s.pt.stallTimed[q] then s.endStall q else s)

/-- SYNTH_DT (R614). -/
def execSynthDt (q : Requester) (unit : BitVec 5) (value : BitVec 24) (s : State) : Host.Outcome State Fault Refusal :=
  .next (s.flowBy q fun s => s.setSynth unit value)

/-! ## At the traverse boundary (R607, R610, R612, R616) -/

/-- No flow setting. -/
def Perturb.noFlow (p : Perturb) : Perturb :=
  { p with stopOffset := Vector.replicate 22 0#24, drop := Vector.replicate 20 DropSet.none,
           synth := Vector.replicate 20 0#24 }

/-- One setting is latched. -/
def Perturb.latch (p : Perturb) : FlowSet → Perturb
  | .clear unit =>
    if unit = 31#5 then p.noFlow
    else
      let p := if h : unit.toNat < 22 then { p with stopOffset := p.stopOffset.set unit.toNat 0#24 } else p
      if h : unit.toNat < 20 then
        { p with drop := p.drop.set unit.toNat DropSet.none, synth := p.synth.set unit.toNat 0#24 }
      else p
  | .stopOffset l v => { p with stopOffset := p.stopOffset.set l v }
  | .drop c dirs n =>
    { p with drop := p.drop.set c { dirs := dirs, left := if n = 0#8 then Option.none else some n.toNat } }
  | .synth c v => { p with synth := p.synth.set c v }

/-- A DROP has acted for one more traverse. -/
def DropSet.age (d : DropSet) : DropSet :=
  match d.left with
  | .some n => if n ≤ 1 then DropSet.none else { d with left := .some (n - 1) }
  | .none => d

/-- The flow settings at a boundary: after a lock none remains, and a chord that carried a mark enters probation from
FAILED (R616). -/
def State.latchFlow (s : State) : State :=
  let p := { s.pt with drop := s.pt.drop.map DropSet.age }
  let locked := p.lockPending
  let p := if locked then p.noFlow else p
  let p := { p.flow.foldl Perturb.latch p with flow := [], lockPending := false, travTest := p.unlocked }
  let s := { s with pt := p }
  if locked then
    s.mapChords fun _ ch =>
      if ch.perturbed then
        if ch.state = .off then { ch with perturbed := false }
        else { ch.enterProbation .failed with perturbed := false }
      else ch
  else s

end Sys2Proof.Machine
end

