-- ==== Sys2Proof/Machine/Survey.lean ====
section
/-! DEFINITION. The survey (ch. 10): the traverse boundary, the run bit, result delivery and the end of a
calibration. -/
namespace Sys2Proof.Machine

/-! ## Gain at the boundary (R205, R206, R208) -/

/-- A step of the range by one is taken: it stays in the span, or moves toward it. -/
def stepTaken (w : W64) (r : Nat) (up : Bool) : Bool :=
  if up then r < 7 && (decide (r < rgMin w) || (decide (r < rgMax w) && decide (rgMin w ≤ r)))
  else decide (rgMax w < r) || (decide (rgMin w < r) && decide (r ≤ rgMax w))

/-- The gain logic of a chord at a boundary, with AGC_HOLD as in force from it. -/
def ChordSt.agc (ch : ChordSt) (hold : Bool) : ChordSt :=
  let w := ch.live.get offRXG
  let r := ch.range.toNat
  let move (up : Bool) : ChordSt :=
    if stepTaken w r up then { ch with range := if up then ch.range + 1#3 else ch.range - 1#3, gainLimit := false }
    else { ch with gainLimit := true }
  if !rgAgcEn w || !rgOk w || hold || ch.rxgWritten || ch.clipStep then { ch with gainLimit := false }
  else match ch.travPeak with
    | none => { ch with gainLimit := false }
    | some p =>
      if rgHi w < p.toNat then move false
      else if p.toNat < rgLo w then move true
      else { ch with gainLimit := false }

/-! ## A chord island at the boundary (R186, R205, R216, R261) -/

/-- A prediction word keeps VALID only if a write to it was applied at this boundary (R261). -/
def keepPred (fresh : Bool) (w : W64) : W64 := if fresh then w else w &&& ~~~(1#64 <<< 40)

/-- Held words apply, predictions age, the gain is decided, and times counted from the old boundary are counted from the
new one. -/
def ChordSt.boundary (ch : ChordSt) (hold : Bool) (period : Nat) : ChordSt :=
  let ch := { ch.heldW.foldl (fun (x : ChordSt) kv => x.applyWord kv.1 kv.2) ch with heldW := [] }
  let live := ch.live.set offPREDD (keepPred ch.predFreshD (ch.live.get offPREDD))
  let live := live.set offPREDU (keepPred ch.predFreshU (live.get offPREDU))
  let ch := { ({ ch with live := live }).agc hold with
    predFreshD := false, predFreshU := false, rxgWritten := false, clipStep := false, travPeak := none }
  let rebase (sh : Shot) : Shot := { sh with capEnd := sh.capEnd - period }
  { ch with cur := ch.cur.map rebase, correlating := ch.correlating.map rebase }

/-! ## CHORD_EN at the boundary (R190, R308, R310) -/

/-- The chord is OFF from this boundary: its ledger is cleared and its ports are in PARK, unless a shot still runs. The
entry is kept aside for the traverses in which the chord was fired and that have not closed. -/
def ChordSt.disable (ch : ChordSt) : ChordSt :=
  let ch := { ch.enterProbation .off with state := .off, saved := none, last := some ch.ledger }
  if ch.cur.isNone then { ch with portA := .park, portB := .park } else ch

def State.applyChordEn (s : State) : State :=
  let old := s.sv.chordEn
  let new := s.sv.chordEnReg
  let s := s.mapChords fun c ch =>
    if old.getLsbD c.val && !new.getLsbD c.val then ch.disable
    else if !old.getLsbD c.val && new.getLsbD c.val then { ch.enterProbation .off with shorted := false, saved := none, last := none }
    else ch
  { s with sv.chordEn := new }

/-! ## Settings that a boundary brings into force -/

/-- The band in force (R185). -/
def State.bandNow (s : State) : BitVec 3 := if s.sv.bandForce then s.sv.bandSel else s.sv.sensorBand

/-- TIMING, FIRING, AGC_HOLD, boost, band and TRAV_PERIOD (R173, R185, R208, R255, R284, R290). -/
def State.applySettings (s : State) : State :=
  { s with sv.grid := s.sv.timingReg, sv.cdiv := s.sv.firingReg, sv.agcHold := s.sv.agcHoldReg,
           sv.boostEn := s.sv.boostEnReg, sv.vdrvSet := s.sv.vdrvSetReg, sv.band := s.bandNow,
           sv.travPeriod := s.sv.travNext.getD s.sv.travPeriod, sv.travNext := none }

/-- RH_SET comes into force, logged where it changes (R343); above 1000 it is taken as 1000. -/
def State.applyHumidity (s : State) : State :=
  let new : BitVec 10 := BitVec.ofNat 10 (min 1000 s.aux.rhSet.toNat)
  if new = s.aux.rhInForce then s else ({ s with aux.rhInForce := new }).logOpen

/-- The PLL reference at a boundary (R125, R131): AUTO_SWITCH holds it at XHF while the source is cold; a held change is
carried out; and with the source warm since the last boundary XHF gives way to XREF. -/
def State.boundaryRef (s : State) : State :=
  let auto := s.clk.autoSwitch && s.clk.xrefEn
  if s.sys.state = .hold ∨ s.clk.refBusy ∨ !s.powered 4 then s
  else if auto && !s.clk.ovenWarm then
    let s := { s with clk.refSel := .xhf, clk.refHeld := false, clk.warmMoved := false }
    if s.clk.refUse = .xhf then s else s.startRefSwitch
  else if s.clk.refHeld then s.startRefSwitch
  else if auto && s.clk.warmMoved && s.clk.refUse == .xhf then
    ({ s with clk.refSel := .xref, clk.warmMoved := false } : State).startRefSwitch
  else { s with clk.warmMoved := false }

/-- Deferred shots of the traverse that ends can no longer close their windows in its slot (R375). -/
def State.expireDeferred (s : State) : State :=
  let members := (s.aux.deferred.map Deferred.members).flatten
  ({ s with aux.deferred := [] }).fireMembers true members []

/-- The rotation at the boundary, with a step that has waited for the one that ends here (R245). -/
def State.rotate (s : State) : State :=
  let s := s.rotationBoundary
  if s.lr.stepWaiting && s.lr.step.isNone then s.stepEnded.rotationBoundary else s

/-- The owner of the chords changes at the first boundary after DEV_STATE (R280, R281). -/
def State.boundaryOwner (s : State) : State :=
  match s.sys.state with
  | .vigil => { s with sv.ownerS1 := true }
  | .line => { s with sv.ownerS1 := false }
  | .service => { s with sv.ownerS1 := false }
  | _ => s

/-- An AT that waits ends at the boundary (R441). -/
def Engine.atEnds (x : Engine) (tc : W64) : Engine :=
  match x.wait with
  | some (.atTarget d _) => (x.setReg d tc).done
  | some (.atBoundary d) => (x.setReg d tc).done
  | _ => x

/-! ## The boundary (R284 to R289) -/

/-- The part of a boundary that ends the old traverse: it closes where its owner has no entry to collect, and its
interval ends; an owner that has not collected is late (R287, R324). Neither happens in HOLD (R326). -/
def State.endTraverse (s : State) (ring : W64) : State :=
  let n := s.sv.traverses.length
  let s := State.closeAll (fun t => t.owed == 0) n s
  let s := if s.sv.traverses.all fun t => t.owed == 0 then s else { s with sv.overrun := true }
  let s := s.expireDeferred
  if s.sys.state = .hold then s else s.flowBoundary ring

/-- The part that brings the settings of the new traverse into force. -/
def State.openTraverse (s : State) : State :=
  let s := s.applySettings.applyHumidity
  let hold := s.sv.agcHold
  let period := s.sv.timeBase
  let s := s.mapChords fun c ch => (if s.powered (chordDomain c) then ch.boundary hold period else ch).activate
  s.applyChordEn.rotate.latchFlow.boundaryRef.boundaryOwner

/-- The part that starts the new traverse: tc and the time base, LATE_START, the waits of AT. -/
def State.startTraverse (s : State) : State :=
  let s := { s with sv.tc := s.sv.tc + 1#64, sv.timeBase := 0, sv.lateStart := !s.clk.pllLock }
  let s := (s.restartBlankCount.twinBoundary).refreshGrades
  let tc := s.sv.tc
  (s.modEngine .s0 fun x => x.atEnds tc).modEngine .s1 fun x => x.atEnds tc

/-- The traverse that begins is entered, under the records in force from it (R317); it closes at once where nothing can be
fired in it. In HOLD none begins (R326). -/
def State.enterTraverse (s : State) : State :=
  if s.sys.state = .hold then s
  else
    let s := { s with sv.boundaryAt := s.rtc.elapsed }.loadRecords
    let t := s.newTraverse
    ({ s with sv.traverses := s.sv.traverses ++ [t] } : State).closeWhere fun x => x.tc == t.tc && x.full

/-- A traverse boundary, `ring` RING periods after the last. While PD2 is unpowered the timer only counts it, and the time
base restarts (R27, R284, R389). -/
def State.boundary (s : State) (ring : W64) : State :=
  if s.powered 2 then (s.endTraverse ring).openTraverse.startTraverse.enterTraverse
  else { s with sv.sleepCount := s.sv.sleepCount + 1, sv.travPeriod := s.sv.travNext.getD s.sv.travPeriod,
                sv.travNext := none, sv.timeBase := 0, sv.boundaryAt := s.rtc.elapsed }

/-- TRAVERSE_BOUNDARY (R284): while RUN = 1. -/
def execTraverseBoundary (ring : W64) (s : State) : Host.Outcome State Fault Refusal :=
  if s.sv.run then .next (s.boundary ring) else .next s

/-- SURVEY_CTRL.RUN is written: the first boundary at its rise, which ends no interval, and with its fall the interval in progress stops accruing
(R285, R326). -/
def State.writeRun (s : State) (run : Bool) : State :=
  if run = s.sv.run then s
  else if run then ({ s with sv.run := true } : State).boundary 0#64
  else ({ s with sv.run := false } : State).flowStops

/-- SURVEY_RUN_WRITE (R285). -/
def execSurveyRunWrite (q : Requester) (run : Bool) (s : State) : Host.Outcome State Fault Refusal :=
  if !s.mayWriteReg q 22 then .next s
  else if s.powered 0 ∧ !s.powered 2 then .next (s.writeRun run)
  else .next (s.onReg 22 fun s => s.writeRun run)

/-- TRAVERSE_TIME_TARGET (R441): the time base reaches the target of an AT that waits. -/
def execTraverseTimeTarget (e : Eng) (s : State) : Host.Outcome State Fault Refusal :=
  match (s.engine e).wait with
  | some (.atTarget _ _) =>
    let tc := s.sv.tc
    .next (s.modEngine e fun x => x.atEnds tc)
  | _ => .next s

/-! ## Results (R47, R48) -/

/-- The result queue of a sheet can deliver: its control island is powered, not fenced and clocked, the queue is not
stalled (R613), the bridge is up, and the survey cluster takes entries (R28, R30, R41, R47). -/
def State.queueDelivers (s : State) (south : Bool) : Bool :=
  let q : Fin 7 := if south then 1 else 0
  s.powered (if south then 5 else 4) && s.powered 2 && !s.pt.stalled[q] && (s.br.get (sheetBridge south)).up &&
    !s.fenced (senseCtl south) && !s.fenced .survey && s.clocksRun

/-- RESULT_ENTRY_DELIVERY (R47): an entry that cannot be delivered stays in its queue, which never drops one (R48). -/
def execResultEntryDelivery (south : Bool) (s : State) : Host.Outcome State Fault Refusal :=
  if !s.queueDelivers south then .next s
  else .next ((s.deliverOne south).hop [25])

/-! ## End of a calibration (R237 to R239, R246, R247) -/

/-- The lane takes the graticule of a calibration that passed. -/
def LaneSt.calibrated (l : LaneSt) (hits : List Nat) : LaneSt :=
  { l with grat := calibrate l.logH hits, gratH := l.logH, valid := true, calibrating := false, hist := hits }

/-- A lane in service again, its failures forgotten. -/
def LaneSt.enters (l : LaneSt) : LaneSt := { l with out := false, fails := 0, dead := false }

/-- A calibration of a rotation step ends. -/
def State.stepCalibrated (s : State) (st : RotStep) (hits : List Nat) : State :=
  if sanityFails (s.lane st.lane).logH hits then ((s.modLane st.lane fun x => { x with hist := hits }).laneFails st.lane).stepEnded
  else
    let s := s.modLane st.lane fun x => x.calibrated hits
    if st.lane = L21 then ({ s.modLane L21 LaneSt.enters with lr.step := none } : State).stepEnded
    else { s with lr.step := some { st with phase := .passed } }

/-- A calibration under calibrate-all ends: a lane that fails it is out of service, and the rotation visits it again
(R239, R248). -/
def State.allCalibrated (s : State) (l : Lane) (hits : List Nat) : State :=
  let s := if sanityFails (s.lane l).logH hits then
      (s.modLane l fun x => { x with calibrating := false, out := true, dead := false, fails := 0, hist := hits }).event 5
    else
      let s := s.modLane l fun x => (x.calibrated hits).enters
      { s with lr.repeatLane := if s.lr.repeatLane = some l then none else s.lr.repeatLane }
  s.checkCalAll

/-- CALIBRATION_COMPLETE (R237): lane `l` has reached its hit count with this histogram. -/
def execCalibrationComplete (l : Lane) (hits : List Nat) (s : State) : Host.Outcome State Fault Refusal :=
  let x := s.lane l
  if !x.calibrating ∨ !s.lanePowered l ∨ !histogramOk x.logH hits then .next s
  else match s.lr.step with
    | some st => if st.lane = l then .next (s.stepCalibrated st hits) else .next (s.allCalibrated l hits)
    | none => .next (s.allCalibrated l hits)

end Sys2Proof.Machine
end

