-- ==== Sys2Proof/Machine/Registers.lean ====
section
/-! DEFINITION. The 72 registers (ch. 23): where each lies, what a read returns and what a write does, field by field
under the access codes of Table 00-4. -/
namespace Sys2Proof.Machine

/-! ## Codes of fields -/

def devCode : DevState → BitVec 3
  | .off => 0#3
  | .backup => 1#3
  | .boot => 2#3
  | .vigil => 3#3
  | .line => 4#3
  | .service => 5#3
  | .hold => 6#3

def refCode : PllRef → BitVec 2
  | .xref => 0#2
  | .xhf => 1#2
  | .ring => 2#2


def keyCode : KeyState → BitVec 2
  | .empty => 0#2
  | .valid => 1#2
  | .retired => 2#2

def delivCode : DelivState → BitVec 3
  | .idle => 0#3
  | .armed => 1#3
  | .running => 2#3
  | .trim => 3#3
  | .closing => 4#3
  | .done => 5#3
  | .aborted => 6#3

def roleBits : Role → BitVec 2
  | .solo => 0#2
  | .principal => 1#2
  | .check => 2#2

def linkCode : Link → BitVec 2
  | .down => 0#2
  | .up => 1#2
  | .paired => 2#2
  | .lost => 3#2

/-! ## Identity and power words (Tables 23-2 to 23-17) -/

def State.devStateWord (s : State) : W32 :=
  place 32 0 (devCode s.sys.state) ||| placeB 32 6 s.sys.refused ||| place 32 7 (devCode s.sys.left)

def State.pwrModeWord (s : State) : W32 :=
  place 32 0 s.pwr.sleepLevel ||| placeB 32 2 s.pwr.demoted ||| place 32 3 s.pwr.lastLevel ||| placeB 32 5 s.pwr.pathBat |||
    place 32 6 s.pwr.wakeLead ||| placeB 32 14 s.pwr.driveOt ||| placeB 32 16 s.pwr.otRefused

def State.islandVoltWord (s : State) : W32 :=
  place 32 0 s.pwr.vset ||| placeB 32 5 s.pwr.regHP ||| placeB 32 6 s.pwr.settled ||| placeB 32 7 s.pwr.voltRefused

def State.supplyStatWord (s : State) : W32 :=
  placeB 32 0 s.pwr.vinOk ||| placeB 32 1 s.pwr.vbatOk ||| placeB 32 2 s.pwr.vbkOk ||| placeB 32 3 s.pwr.vbatLow |||
    placeB 32 4 s.pwr.pfail ||| placeB 32 5 (s.pwr.source == Source.vbat) ||| placeB 32 6 s.pwr.vinIlim |||
    placeB 32 7 s.pwr.vbatIlim ||| placeB 32 8 s.pwr.vioLow

def State.readPower (s : State) (idx : Nat) : W32 :=
  match idx with
  | 0 => 0x00002040#32
  | 1 => Config.devRev &&& 0x1FFFF#32
  | 2 => s.devStateWord
  | 3 => s.sys.eventFlags.setWidth 32
  | 4 => s.sys.eventMask.setWidth 32
  | 5 => faultWord s.fault
  | 7 => s.sys.scratch
  | 8 => s.pwrModeWord
  | 9 => (s.pwr.en ||| 1#8).setWidth 32
  | 10 => place 32 0 s.pwr.on ||| place 32 8 s.pwr.ready
  | 11 => s.islandVoltWord
  | 12 => s.supplyStatWord
  | 14 => s.rwtWord 14 ||| 0x80#32
  | 15 => s.pwr.wakeCause.setWidth 32
  | _ => s.rwtWord idx

/-! ## Clock, survey and auxiliary words (Tables 23-18 to 23-35) -/

def State.clkStatWord (s : State) : W32 :=
  let k := s.clk
  placeB 32 0 (k.xrefRun && !k.xrefFail) ||| placeB 32 1 (k.xhfRun && !k.xhfFail) |||
    placeB 32 2 (k.x32Run && !k.x32Fail) ||| placeB 32 3 k.pllLock |||
    placeB 32 4 k.ovenWarm ||| place 32 5 (BitVec.ofNat 2 s.gradeNow.code) ||| placeB 32 7 (k.refBusy || k.engBusy) |||
    placeB 32 8 k.oldDead ||| placeB 32 9 k.switchFail ||| placeB 32 10 k.ringForced ||| placeB 32 11 k.cfgRefused |||
    placeB 32 12 k.gateForced ||| placeB 32 13 k.xrefFail ||| placeB 32 14 k.xhfFail ||| placeB 32 15 k.x32Fail |||
    placeB 32 16 k.ringFail

def State.clkSrcWord (s : State) : W32 :=
  placeB 32 0 s.clk.xrefEn ||| placeB 32 1 s.clk.xhfEn ||| placeB 32 2 s.clk.xhfLp ||| place 32 3 (refCode s.clk.refSel) |||
    placeB 32 5 s.clk.engPll

/-- SURVEY_STAT. VDRV_OK is live (Table 23-25): what the rail does at a read is no operand of it, so that the bit is
`vdrvOk` (log 80). -/
def State.surveyStatWord (s : State) (vdrvOk : Bool) : W32 :=
  placeB 32 0 vdrvOk ||| placeB 32 1 s.sv.lateStart ||| placeB 32 2 s.sv.overrun ||| place 32 3 s.sv.band |||
    placeB 32 6 s.sv.portFault ||| placeB 32 7 s.sv.ownerS1

/-- CHORD_STAT of one requester (R624): PRED in force (R261), and the range of the chord's last shot (R204). -/
def State.chordStatWord (s : State) (q : Requester) : W32 :=
  let sel := s.sv.sel[reqIdx q]
  if h : sel.toNat < 20 then
    let c : Chord := ⟨sel.toNat, h⟩
    let ch := s.chord c
    place 32 0 sel ||| place 32 5 (chordCode ch.state) ||| placeB 32 8 (s.fenced (.chord c)) |||
      place 32 9 (probCode ch.probFrom) ||| place 32 11 ch.probCount |||
      placeB 32 15 (predValid (ch.live.get offPREDD)) ||| placeB 32 16 (predValid (ch.live.get offPREDU)) |||
      place 32 17 ch.lastRange ||| place 32 20 ch.peakDn ||| place 32 26 ch.peakUp
  else sel.setWidth 32

def State.laneMapWord (s : State) : W32 :=
  let step : BitVec 5 := match s.lr.step with
    | some r => if r.phase = .due then 31#5 else BitVec.ofNat 5 r.lane.val
    | none => 31#5
  place 32 0 s.lr.spareFor ||| place 32 5 step ||| place 32 10 s.laneOut

/-- An island of the auxiliary front end has work (R360). -/
def AuxIsl.busy (x : AuxIsl) : Bool := x.cur.isSome || !x.queue.isEmpty

def State.auxStatWord (s : State) : W32 :=
  placeB 32 0 s.aux.queueFull ||| placeB 32 1 s.aux.res.busy ||| placeB 32 2 s.aux.pres.busy |||
    placeB 32 3 s.aux.blankActive ||| placeB 32 4 s.aux.blankStuck ||| placeB 32 5 s.aux.blankChatter |||
    place 32 6 s.aux.stFail

def State.readMeasure (s : State) (q : Requester) (idx : Nat) : W32 :=
  match idx with
  | 16 => s.clkSrcWord
  | 17 => s.clkStatWord
  | 18 => placeB 32 0 s.clk.pllEn ||| place 32 1 s.clk.kdiv ||| place 32 8 s.clk.sdiv
  | 19 => s.clk.gateReg.setWidth 32
  | 22 => s.rwtWord 22 ||| bit 32 s.sv.run
  | 25 => s.chordStatWord q
  | 26 => s.laneMapWord
  | 29 => s.sv.resultSeq
  | 30 => s.rwtWord 30 ||| placeB 32 7 s.aux.selfTest
  | 31 => s.auxStatWord
  | 33 => s.aux.clamp.setWidth 32
  | _ => s.rwtWord idx

/-! ## Engine, store, update and calendar words (Tables 23-36 to 23-53) -/

def State.storeStatWord (s : State) : W32 :=
  placeB 32 0 s.st.recordConflict ||| placeB 32 1 s.boot.defaultsUsed ||| placeB 32 2 s.st.pfw |||
    placeB 32 3 (s.st.hostSave || s.st.rawBusy) ||| place 32 4 s.st.saveStatus ||| placeB 32 7 s.st.rawRefused |||
    placeB 32 8 s.st.protectRefused ||| placeB 32 9 s.st.logRefused ||| place 32 10 s.log.lost

def State.sealStatWord (s : State) : W32 :=
  placeB 32 0 s.sealed ||| place 32 1 (keyCode s.keys.v0.state) ||| place 32 3 (keyCode s.keys.v1.state) |||
    placeB 32 5 s.keys.owner.isSome ||| placeB 32 6 s.keys.updLock

def State.updCtrlWord (s : State) : W32 :=
  place 32 4 s.upd.kindReg ||| placeB 32 6 s.upd.resumeReg ||| place 32 7 s.upd.portReg ||| place 32 9 s.upd.blockReg

def Alarm.word (a : Alarm) : W32 :=
  place 32 0 a.sec ||| place 32 6 a.min ||| place 32 12 a.hour ||| place 32 17 a.day ||| place 32 22 a.month |||
    place 32 26 a.wday

def State.alarmMaskWord (s : State) : W32 :=
  let a := s.rtc.alarm0
  let b := s.rtc.alarm1
  place 32 0 a.mask ||| place 32 6 b.mask ||| placeB 32 12 a.arm ||| placeB 32 13 b.arm ||| placeB 32 14 a.fired |||
    placeB 32 15 b.fired ||| placeB 32 16 a.skipped ||| placeB 32 17 b.skipped ||| placeB 32 18 a.refused |||
    placeB 32 19 b.refused

/-- RTC_DATE and RTC_SUBSEC show the requester's shadow (R514, R515). -/
def State.rtcDateWord (s : State) (q : Requester) : W32 :=
  let x := s.rtc.shadow[reqIdx q]
  place 32 0 x.day ||| place 32 8 x.month ||| place 32 16 x.year

def State.rtcSubsecWord (s : State) (q : Requester) : W32 :=
  let x := s.rtc.shadow[reqIdx q]
  place 32 0 x.subsec ||| placeB 32 15 x.stale ||| place 32 16 s.rtc.trim

def State.readKeep (s : State) (q : Requester) (idx : Nat) : W32 :=
  match idx with
  | 34 => s.engineCtrlWord
  | 35 => s.engineStatWord
  | 36 => place 32 0 s.er.progAddr ||| place 32 28 s.er.progEng
  | 41 => s.storeStatWord
  | 42 => s.st.bp.setWidth 32
  | 43 => place 32 0 s.st.addr ||| placeB 32 24 s.st.codeSpace
  | 45 => s.updCtrlWord
  | 46 => s.updStat
  | 48 => s.sealStatWord
  | 49 => placeB 32 1 s.upd.qBusy ||| placeB 32 2 s.upd.qReady ||| placeB 32 3 s.upd.certRead
  | 51 => s.rtcDateWord q
  | 52 => s.rtcSubsecWord q
  | 53 => placeB 32 0 s.rtc.commit ||| placeB 32 1 s.rtc.cmtRefused ||| placeB 32 2 s.rtc.wrapped |||
      placeB 32 3 s.rtc.suspect
  | 54 => s.rtc.alarm0.word
  | 55 => s.rtc.alarm1.word
  | 56 => s.alarmMaskWord
  | 57 => place 32 0 s.rtc.pwronSrc ||| placeB 32 6 s.rtc.pwron
  | _ => s.rwtWord idx

/-! ## Panel, port, delivery, twin and perturbation words (Tables 23-54 to 23-65) -/

def State.panelStatWord (s : State) : W32 :=
  let p := s.pn
  let pass : BitVec 2 := match p.run with
    | some r => BitVec.ofNat 2 r.pass
    | none => 0#2
  placeB 32 0 p.busy ||| placeB 32 1 p.pumpOk ||| place 32 2 p.band ||| placeB 32 5 p.bandShift ||| placeB 32 6 p.tempRange |||
    place 32 7 pass ||| place 32 9 p.reason ||| placeB 32 12 p.shownValid ||| placeB 32 13 p.shownFail |||
    placeB 32 14 p.interrupted ||| placeB 32 15 p.markSuppressed ||| placeB 32 16 p.dcWarn

/-- PO_BAD of each pulse output (R569). -/
def State.poBadBits (s : State) : BitVec 4 :=
  (List.finRange 4).foldl (fun m (k : Fin 4) => if poBad (s.out.po[k]).cfg then m ||| (1#4 <<< k.val) else m) 0#4

def State.deliveryStatWord (s : State) : W32 :=
  let d := s.dl
  place 32 0 (delivCode d.state) ||| place 32 3 d.reason ||| placeB 32 7 d.final ||| placeB 32 8 d.cmdRefused |||
    placeB 32 9 d.cfgLocked ||| placeB 32 10 d.valveFault ||| placeB 32 11 d.trimSkipped |||
    placeB 32 12 d.runoutTimeout ||| placeB 32 13 d.learned ||| placeB 32 14 d.mismatch

def State.twinStatWord (s : State) : W32 :=
  let t := s.tw
  place 32 0 (roleBits t.role) ||| place 32 2 (linkCode t.link) ||| place 32 4 t.pairFail ||| place 32 8 t.linkErr |||
    placeB 32 16 t.syncFault ||| placeB 32 17 t.probation ||| place 32 18 t.probCount ||| placeB 32 23 t.noMark |||
    placeB 32 24 t.staleMark ||| placeB 32 25 t.winSkip

/-- The fields of PORT_CFG whose block has its gate open: I2C_* by the I²C port's, OPT_* by the optical port's (R141,
Table 04-6). -/
def State.portCfgMask (s : State) : W32 :=
  (if s.clk.gateOpen.getLsbD 1 then 0x3#32 else 0#32) ||| (if s.clk.gateOpen.getLsbD 2 then 0xFFFFFFFC#32 else 0#32)

def State.timingWord (s : State) : W32 := place 32 0 s.pt.target ||| place 32 5 (s.pt.delay[s.pt.target.toNat])

def State.readPorts (s : State) (idx : Nat) : W32 :=
  match idx with
  | 58 => s.rwtWord 58 ||| placeB 32 2 s.pn.bandForce ||| place 32 3 s.pn.bandSel ||| place 32 6 s.pn.balFrames
  | 59 => s.panelStatWord
  | 60 => place 32 0 s.pn.crc ||| place 32 16 s.pn.shownCrc
  | 61 => s.rwtWord 61 &&& s.portCfgMask
  | 62 => s.rwtWord 62 ||| place 32 10 s.poBadBits
  | 64 => s.deliveryStatWord
  | 66 => s.twinStatWord
  | 67 => place 32 0 s.tw.dev ||| placeB 32 24 s.tw.devValid ||| placeB 32 25 s.tw.devAlarm ||| place 32 26 s.tw.wseq
  | 69 => s.timingWord
  | 71 => perturbStatWord s.pt
  | _ => s.rwtWord idx

/-! ## A read -/

/-- The value of a register that answers, with what the read itself does (R410, R469, R514). -/
def State.fetchReg (s : State) (q : Requester) (idx : Nat) : State × W32 :=
  match idx with
  | 38 => if isPort q then s.mailboxOutRead else (s, 0#32)
  | 23 => (s.usedFree 1, s.surveyStatWord ((s.free 0).getLsbD 0))
  | 44 => if s.st.rawBusy || s.st.hostSave then (s, 0#32) else s.readStoreData
  | 50 => s.readRtcTime q
  | _ =>
    if idx < 16 then (s, s.readPower idx)
    else if idx < 34 then (s, s.readMeasure q idx)
    else if idx < 58 then (s, s.readKeep q idx)
    else (s, s.readPorts idx)

/-- A read of a register (R14, R32, R37, R41): zero from an unpowered domain, a fenced cluster, or over a link that is
down. RUN lies in PD0 and shows even where PD2 is off. -/
def State.readReg (s : State) (q : Requester) (idx : Nat) : State × W32 :=
  if !s.regAnswers idx then (s, if idx = 22 then bit 32 s.sv.run else 0#32)
  else
    let r := s.regCross idx
    if r.2 then r.1.fetchReg q idx else (r.1, 0#32)

/-! ## Writes: identity and power -/

/-- Flags of a register that writing 1 clears (Table 00-4). -/
def clears (b : Bool) (v : W32) (k : Nat) : Bool := b && !v.getLsbD k

def State.writeDevState (s : State) (v : W32) : State :=
  ({ s with sys.refused := clears s.sys.refused v 6 }).requestState (field v 3 3)

/-- HOST_CTRL: the snapshot and the save, then the reset, which engines cannot ask for here (R146, R399). -/
def State.writeHostCtrl (s : State) (q : Requester) (v : W32) : State :=
  let s := if v.getLsbD 2 && s.powered 2 then s.snapshot else s
  let s := if v.getLsbD 1 then s.saveSettings else s
  if v.getLsbD 0 && isPort q then s.deviceReset 0x09#8 false else s

/-- The Drive die's sensor reads below 130 °C (R81). A register write carries no reading, and no rule says by which one
it is judged: the model takes what the device last learnt, from a trip, a panel sample or an OT_CLEAR of its own row
(DESIGN CHOICE, log 60). -/
def State.driveCool (s : State) : Bool := !s.pwr.driveHot

def State.writePwrMode (s : State) (v : W32) : State :=
  let s := { s with pwr.sleepLevel := field v 0 2, pwr.otRefused := clears s.pwr.otRefused v 16 }
  let s := (s.writePathSel (v.getLsbD 5)).putRwt 8 v
  if v.getLsbD 15 then s.clearOt s.driveCool else s

def State.writePower (s : State) (q : Requester) (idx : Nat) (v : W32) : State :=
  match idx with
  | 2 => s.writeDevState v
  | 3 => { s with sys.eventFlags := s.sys.eventFlags &&& ~~~(field v 0 24) }
  | 4 => { s with sys.eventMask := field v 0 23 }
  | 5 => if v.getLsbD 31 then s.ackFault else s
  | 6 => s.writeHostCtrl q v
  | 7 => { s with sys.scratch := v }
  | 8 => s.writePwrMode v
  | 9 => s.setEnables (enablesAfter s.pwr.en (field v 0 8))
  | 11 => s.writeIslandVolt v
  | 13 => s.putRwt 13 v
  | 14 => s.putRwt 14 v
  | 15 => { s with pwr.wakeCause := s.pwr.wakeCause &&& ~~~(field v 0 8) }
  | _ => s

/-! ## Writes: clocks, survey, auxiliary front end -/

/-- The W1C flags of CLK_STAT. -/
def State.writeClkStat (s : State) (v : W32) : State :=
  { s with clk.oldDead := clears s.clk.oldDead v 8, clk.switchFail := clears s.clk.switchFail v 9,
           clk.ringForced := clears s.clk.ringForced v 10, clk.cfgRefused := clears s.clk.cfgRefused v 11,
           clk.gateForced := clears s.clk.gateForced v 12 }

/-- OVEN_CFG: a write of XHF_DEV sets its age to 0 (Table 23-22). -/
def State.writeOvenCfg (s : State) (v : W32) : State := { s.putRwt 20 v with clk.xhfDevAge := 0#6 }.ovenChecked

/-- SURVEY_CTRL: the settings, in force at once for the boost while the survey is stopped (R173), then RUN. -/
def State.writeSurveyCtrl (s : State) (v : W32) : State :=
  let quiet := s.sv.boostQuiet
  ((s.putRwt 22 v).reviewQuiet quiet).writeRun (v.getLsbD 0)

/-- AUX_CTRL: CLAMP_HOLD may arm or disarm the clamps, and a bridge that is enabled is switched on; SELF_TEST is ignored
outside SERVICE (R371, R379, R381). -/
def State.writeAuxCtrl (s : State) (v : W32) : State :=
  let armed := s.clampsArmed
  let off (ch : Fin 6) : Bool := !s.aux.enabled ch
  let s := (s.putRwt 30 v).clampsMoved armed
  let s := if off 4 then s.excitationOn 4 else s
  let s := if off 5 then s.excitationOn 5 else s
  if v.getLsbD 7 then s.startSelfTest else { s with aux.selfTest := false }

def State.writeMeasure (s : State) (q : Requester) (idx : Nat) (v : W32) : State :=
  match idx with
  | 16 => s.writeClkSrc v
  | 17 => s.writeClkStat v
  | 18 => s.writePllCfg v
  | 19 => s.writeClkGate v
  | 20 => s.writeOvenCfg v
  | 21 => if v.getLsbD 20 then (s.putRwt 21 v).writeRelease else (s.putRwt 21 v).autoReleases
  | 22 => s.writeSurveyCtrl v
  | 23 => { s with sv.overrun := clears s.sv.overrun v 2, sv.portFault := clears s.sv.portFault v 6 }
  | 25 => { s with sv.sel := s.sv.sel.set (reqIdx q) (field v 0 5) }
  | 29 => if q = .eng .k01 then { s with sv.resultSeq := v } else s
  | 30 => s.writeAuxCtrl v
  | 31 => { s with aux.queueFull := clears s.aux.queueFull v 0, aux.blankStuck := clears s.aux.blankStuck v 4,
                   aux.blankChatter := clears s.aux.blankChatter v 5 }
  | 33 => { s with aux.clamp := s.aux.clamp &&& ~~~(field v 0 27) }
  | _ => s.putRwt idx v

/-! ## Writes: engines, store, update, calendar -/

/-- STORE_CTRL: CLR_LOST, then OP (R473, R625). -/
def State.writeStoreCtrl (s : State) (q : Requester) (v : W32) : State :=
  let s := if v.getLsbD 16 then { s with log.lost := 0#8 } else s
  match (field v 29 3).toNat with
  | 1 => s.stageLog q false (field v 0 16)
  | 2 => s.stageLog q true (field v 0 16)
  | 3 => s.submitLog q (field v 0 12)
  | _ => s

/-- ATTEST_CTRL (R480, R506). -/
def State.writeAttest (s : State) (q : Requester) (v : W32) : State :=
  let s := if v.getLsbD 2 then s.writeQready q else s
  let s := if v.getLsbD 0 then s.requestQuote q else s
  if v.getLsbD 3 ∧ q = .eng .k2 then s.readCert else s

/-- RTC_CTRL: flags cleared by 1, a backup halfword, and COMMIT (R517, R523). -/
def State.writeRtcCtrl (s : State) (v : W32) : State :=
  let s := { s with rtc.cmtRefused := clears s.rtc.cmtRefused v 1, rtc.wrapped := clears s.rtc.wrapped v 2 }
  let s := if v.getLsbD 4 then s.writeBackup (field v 5 5) (field v 16 16) else s
  if v.getLsbD 0 then s.requestCommit else s

/-- PWRON_CTRL: SRC, RELEASE and ASSERT (R526, R527); ASSERT is the stronger of the two in one write. -/
def State.writePwron (s : State) (v : W32) : State :=
  { s with rtc.pwronSrc := field v 0 4, rtc.pwron := v.getLsbD 4 || (s.rtc.pwron && !v.getLsbD 5) }

def State.writeCalendar (s : State) (idx : Nat) (v : W32) : State :=
  match idx with
  | 50 => s.writeRtcTime v
  | 51 => s.writeRtcDate v
  | 52 => s.putRwt 52 v
  | 53 => s.writeRtcCtrl v
  | 54 => { s with rtc.alarm0 := s.rtc.alarm0.write v }
  | 55 => { s with rtc.alarm1 := s.rtc.alarm1.write v }
  | 56 => s.writeAlarmMask v
  | _ => s.writePwron v

def State.writeKeep (s : State) (q : Requester) (idx : Nat) (v : W32) : State :=
  match idx with
  | 34 => s.writeEngineCtrl v
  | 35 => { s with er.refused := clears s.er.refused v 21, er.mbiOvf := clears s.er.mbiOvf v 22 }
  | 36 => if isPort q then s.writeProgAddr v else s
  | 37 => if isPort q then s.writeProgData v else s
  | 39 => if isPort q then s.mailboxIn v else s
  | 40 => s.writeStoreCtrl q v
  | 41 => { s with st.recordConflict := clears s.st.recordConflict v 0, st.rawRefused := clears s.st.rawRefused v 7,
                   st.protectRefused := clears s.st.protectRefused v 8, st.logRefused := clears s.st.logRefused v 9 }
  | 42 => s.changeBp (field v 0 2) false
  | 43 => { s with st.addr := field v 0 23 &&& 0x7FFFFC#23, st.codeSpace := v.getLsbD 24 }
  | 44 => if s.st.rawBusy || s.st.hostSave then s else s.writeStoreData v
  | 45 => s.writeUpdCtrl q v
  | 47 => if s.sealed then s else s.putRwt 47 v
  | 49 => s.writeAttest q v
  | _ => if 50 ≤ idx then s.writeCalendar idx v else s

/-! ## Writes: panel, ports, delivery, twin, perturbation -/

def panelCmdOf : Nat → Option PanelCmd
  | 1 => some .update
  | 2 => some .clearRedraw
  | 3 => some .balance
  | _ => none

/-- PANEL_CTRL: the settings, then a command of K0–K1 (R539); BAL_FRAMES takes 1 to 64 (R542, R622). -/
def State.writePanelCtrl (s : State) (q : Requester) (v : W32) : State :=
  let s := { s.putRwt 58 v with pn.bandForce := v.getLsbD 2, pn.bandSel := field v 3 3,
                                pn.balFrames := inRange 1 64 s.pn.balFrames (field v 6 7) }
  match panelCmdOf (field v 0 2).toNat with
  | some c => if q = .eng .k01 then s.panelCommand c else s
  | none => s

def State.writePanelStat (s : State) (v : W32) : State :=
  { s with pn.bandShift := clears s.pn.bandShift v 5, pn.tempRange := clears s.pn.tempRange v 6,
           pn.shownFail := clears s.pn.shownFail v 13, pn.dcWarn := clears s.pn.dcWarn v 16 }

/-- TWIN_CTRL: EN and SEAT, then the command. -/
def State.writeTwinCtrl (s : State) (v : W32) : State :=
  let s := s.putRwt 65 v
  match (field v 2 2).toNat with
  | 1 => s.pairCommand
  | 2 => s.detachCommand
  | 3 => s.releaseCommand
  | _ => s

def State.writePorts (s : State) (q : Requester) (idx : Nat) (v : W32) : State :=
  match idx with
  | 58 => s.writePanelCtrl q v
  | 59 => s.writePanelStat v
  | 60 => { s with pn.crc := field v 0 16 }
  | 61 => s.putRwt 61 ((v &&& s.portCfgMask) ||| (s.rwtWord 61 &&& ~~~s.portCfgMask))
  | 62 => s.putRwt 62 v
  | 63 => s.deliveryCommand (field v 0 3)
  | 64 => { s with dl.cmdRefused := clears s.dl.cmdRefused v 8, dl.cfgLocked := clears s.dl.cfgLocked v 9 }
  | 65 => s.writeTwinCtrl v
  | 66 => { s with tw.noMark := clears s.tw.noMark v 23, tw.staleMark := clears s.tw.staleMark v 24,
                   tw.winSkip := clears s.tw.winSkip v 25 }
  | 68 => if q = .host then s.writeKey v else s
  | 69 => s.writeTiming v
  | 70 => s.writeFlow v
  | 71 => if s.pt.unlocked then { s with pt.bit1 := clears s.pt.bit1 v 1 } else s
  | _ => s

/-! ## A write -/

/-- The effect of a write on a register that answers. -/
def State.applyReg (s : State) (q : Requester) (idx : Nat) (v : W32) : State :=
  if idx < 16 then s.writePower q idx v
  else if idx < 34 then s.writeMeasure q idx v
  else if idx < 58 then s.writeKeep q idx v
  else s.writePorts q idx v

/-- A write of a register (R14, R15, R32, R37, R41): dropped by an unpowered domain, a fenced cluster, or a link that is
down. RUN lies in PD0 and takes its write even where PD2 is off (R284). -/
def State.writeReg (s : State) (q : Requester) (idx : Nat) (v : W32) : State :=
  if idx = 22 ∧ s.powered 0 ∧ !s.powered 2 then s.writeRun (v.getLsbD 0) else s.onReg idx fun s => s.applyReg q idx v

end Sys2Proof.Machine
end

