-- ==== Sys2Proof/Machine/Drain.lean ====
section
/-! DEFINITION. Posted stores and what waits for them: the store buffer, the held SEND, TRYSEND, SIG and FENCE, and
POSTED_STORE_ACKNOWLEDGED (R397, R408, R411, R414). -/
namespace Sys2Proof.Machine

/-! ## The store buffer (R397, R414) -/

/-- A posted store reaches its target: memory, a window, or a control register (R425, R451). -/
def State.applyStore (s : State) (e : Eng) : StoreTarget → State
  | .word64 a v => s.storeAt e a 8 v
  | .word32 a v => s.storeAt e a 4 (v.setWidth 64)
  | .reg idx v => s.writeReg (.eng e) idx.toNat v

/-- The oldest posted store of an engine is acknowledged by its target. -/
def State.drainOne (s : State) (e : Eng) : State :=
  match (s.engine e).stores with
  | [] => s
  | t :: ts => ((s.modEngine e fun x => { x with stores := ts }).applyStore e t).settleGates

/-- Up to `n` posted stores are acknowledged. -/
def State.drainUpTo (s : State) (e : Eng) : Nat → State
  | 0 => s
  | n + 1 => (s.drainOne e).drainUpTo e n

/-- Every posted store of an engine is acknowledged, before an access that must see them (R397). -/
def State.drain (s : State) (e : Eng) : State := s.drainUpTo e (s.engine e).stores.length

/-- An instruction acts behind the engine's earlier stores; where one of them has stopped the engine, it waits. -/
def State.behindStores (s : State) (e : Eng) (f : State → State) : State :=
  let s := s.drain e
  if s.issues e then f s else s

/-- A store joins the buffer of eight; a full one first drains its oldest entry (R414). -/
def State.post (s : State) (e : Eng) (t : StoreTarget) : State :=
  let s := if 8 ≤ (s.engine e).stores.length then s.drainOne e else s
  if s.issues e then s.modEngine e fun x => { x with stores := x.stores ++ [t] }.retire else s

/-! ## SEND, TRYSEND, SIG (R408, R410, R411) -/

/-- The instruction in progress of an engine waits. -/
def State.await (s : State) (e : Eng) (w : Wait) : State := s.modEngine e fun x => { x with wait := some w }

/-- There is room at destination `dst`: an engine's queue, or MAILBOX_OUT for number 7. -/
def State.roomAt (s : State) (dst : BitVec 5) : Bool :=
  match engOfNum dst.toNat with
  | some t => s.queueHasRoom t
  | none => s.mailboxRoom

/-- An entry of `e` joins the queue of destination `dst`. -/
def State.sendEntry (s : State) (e : Eng) (payload : W64) (dst : BitVec 5) : State :=
  match engOfNum dst.toNat with
  | some t => s.append t (entryWord (engNum e) payload)
  | none => s.appendOut payload

/-- SEND acts: it appends, or stalls while the queue is full (R408). -/
def State.sendNow (s : State) (e : Eng) (payload : W64) (dst : BitVec 5) : State :=
  if s.roomAt dst then (s.sendEntry e payload dst).modEngine e Engine.done else s.await e (.sendFull payload dst)

/-- TRYSEND acts: 1 where it appended, 0 from a full queue (R408). -/
def State.tryNow (s : State) (e : Eng) (d : GReg) (payload : W64) (dst : BitVec 5) : State :=
  if s.roomAt dst then (s.sendEntry e payload dst).endWait e d 1#64 else s.endWait e d 0#64

/-- SIG acts: the bit of FW_EVENT for the host, an event for another engine, nothing for the engine itself (R411). -/
def State.sigNow (s : State) (e : Eng) (dst : BitVec 5) (fn : BitVec 11) : State :=
  let s := match engOfNum dst.toNat with
    | some t => if t = e then s else s.signal t
    | none => s.event (19 + (field fn 0 2).toNat)
  s.modEngine e Engine.done

/-- What an engine holds until its stores are acknowledged acts once they are (R397). -/
def State.releaseHeld (s : State) (e : Eng) : State :=
  if !(s.engine e).stores.isEmpty || !s.hubServes then s
  else match (s.engine e).wait with
    | some (.sendHeld payload dst) => s.sendNow e payload dst
    | some (.tryHeld d payload dst) => s.tryNow e d payload dst
    | some (.sigHeld dst fn) => s.sigNow e dst fn
    | some .fence => s.modEngine e Engine.done
    | _ => s

/-- A held operation: at once where no store is outstanding (R397). -/
def State.hold (s : State) (e : Eng) (w : Wait) : State := (s.await e w).releaseHeld e

/-- POSTED_STORE_ACKNOWLEDGED: the oldest store of the engine reaches its target. -/
def execPostedStoreAcknowledged (e : Eng) (s : State) : Host.Outcome State Fault Refusal :=
  .next ((s.drainOne e).releaseHeld e)

/-! ## The instructions -/

/-- The number names no destination: neither another engine nor the host (R408). -/
def badDest (e : Eng) (dst : BitVec 5) : Bool :=
  match engOfNum dst.toNat with
  | some t => t == e
  | none => dst != 7#5

/-- The number is not one of Table 14-1. -/
def unassigned (dst : BitVec 5) : Bool := (engOfNum dst.toNat).isNone && dst != 7#5

/-- A destination number as a trap value. -/
def destTval (dst : BitVec 5) : W64 := dst.setWidth 64

/-- An operation of the mailbox and handshake unit; it stalls while the unit does not serve (R407). -/
def State.hubTeique (s : State) (e : Eng) (checks : List Check) (f : State → State) :
    Host.Outcome State Fault Refusal :=
  s.teique e checks fun s => if s.hubServes then f s else s

/-- SIG (R449). -/
def execSig (e : Eng) (dst : BitVec 5) (fn : BitVec 11) (s : State) : Host.Outcome State Fault Refusal :=
  let bad := if dst = 7#5 then field fn 2 9 != 0#9 else fn != 0#11
  s.hubTeique e [illegalIf (.sig e dst fn) bad, ⟨.access, destTval dst, unassigned dst⟩] fun s =>
    s.hold e (.sigHeld dst fn)

/-- HSK SEND (R408, R450). -/
def execHskSend (e : Eng) (a : GReg) (dst : BitVec 5) (s : State) : Host.Outcome State Fault Refusal :=
  s.hubTeique e [⟨.access, destTval dst, badDest e dst⟩] fun s => s.hold e (.sendHeld (s.reg e a) dst)

/-- HSK TRYSEND (R408, R450). -/
def execHskTrysend (e : Eng) (d a : GReg) (dst : BitVec 5) (s : State) : Host.Outcome State Fault Refusal :=
  s.hubTeique e [⟨.access, destTval dst, badDest e dst⟩] fun s => s.hold e (.tryHeld d (s.reg e a) dst)

/-- The end that a system event makes of a waiting instruction: all ones, the latch clear (R415). -/
def State.endAll (s : State) (e : Eng) (d : GReg) : State :=
  s.modEngine e fun x => ({ x with sysEvent := false }.setReg d (BitVec.allOnes 64)).done

/-- A waiting instruction: one that issues while the latch is set ends at once (R415). -/
def State.waiting (s : State) (e : Eng) (d : GReg) (f : State → State) : State :=
  if (s.engine e).sysEvent then s.endAll e d else f s

/-- The oldest entry leaves the engine's queue, and stalled senders go on (R408). -/
def State.receive (s : State) (e : Eng) (d : GReg) : State :=
  match (s.engine e).inbox with
  | [] => s.await e (.recv d)
  | w :: rest => (s.modEngine e fun x => ({ x with inbox := rest }.setReg d w).retire).serveSends e

/-- HSK RECV (R408, R450). -/
def execHskRecv (e : Eng) (d : GReg) (s : State) : Host.Outcome State Fault Refusal :=
  s.hubTeique e [] fun s => s.waiting e d fun s => s.receive e d

/-- HSK PEEK (R408, R450). -/
def execHskPeek (e : Eng) (d : GReg) (s : State) : Host.Outcome State Fault Refusal :=
  s.hubTeique e [] fun s => s.onEngine e fun x => { x.setReg d (x.inbox.headD 0#64) with z := x.inbox.isEmpty }

/-- HSK FENCE (R397, R450). -/
def execHskFence (e : Eng) (s : State) : Host.Outcome State Fault Refusal := s.hubTeique e [] fun s => s.hold e .fence

/-- HSK KICK (R406, R450). -/
def execHskKick (e : Eng) (s : State) : Host.Outcome State Fault Refusal :=
  s.hubTeique e [] fun s => s.onEngine e fun x => { x with wdCount := 0 }

end Sys2Proof.Machine
end

