-- ==== Sys2Proof/Machine/Memory.lean ====
section
/-! DEFINITION. Loads, stores and SYS (R393 to R399, R414, R425, R451). -/
namespace Sys2Proof.Machine

/-! ## Loads (R425) -/

/-- A load finds its value behind the engine's own stores. -/
def State.loadValue (s : State) (e : Eng) (n a : Nat) : State × W64 :=
  match placeOf e a with
  | some p => s.readPlace e n p
  | none => (s, 0#64)

/-- g[d] takes a value that a read has fetched, and the instruction is complete. -/
def State.take (r : State × W64) (e : Eng) (d : GReg) : State := r.1.onEngine e fun x => x.setReg d r.2

/-- A load of `n` bytes at g[a] + imm. -/
def State.load (s : State) (e : Eng) (d a : GReg) (imm : BitVec 16) (n : Nat) : Host.Outcome State Fault Refusal :=
  let addr := (s.engine e).address a imm
  s.teique e [alignIf addr (addr.toNat % n != 0), accessIf addr (!reaches e addr (mayLoad n))] fun s =>
    s.behindStores e fun s => State.take (s.loadValue e n addr.toNat) e d

/-- LD64. -/
def execLd64 (e : Eng) (d a : GReg) (imm : BitVec 16) (s : State) : Host.Outcome State Fault Refusal :=
  s.load e d a imm 8

/-- LD32: the four bytes, zero-extended. -/
def execLd32 (e : Eng) (d a : GReg) (imm : BitVec 16) (s : State) : Host.Outcome State Fault Refusal :=
  s.load e d a imm 4

/-! ## Stores (R414, R425) -/

/-- An address of the output and delivery window, whose permissions earlier stores may change (Table 20-6). -/
def inOutWindow (e : Eng) (a : Nat) : Bool :=
  match placeOf e a with
  | some (.out _) => true
  | _ => false

/-- What a store finds: into the output and delivery window it issues behind the engine's earlier stores. -/
def State.beforeStore (s : State) (e : Eng) (a : Nat) : State :=
  if s.issues e && inOutWindow e a then s.drain e else s

/-- A store of `n` bytes at g[a] + imm, posted as `t`. -/
def State.store (s : State) (e : Eng) (a : GReg) (imm : BitVec 16) (n : Nat) (t : Nat → StoreTarget) :
    Host.Outcome State Fault Refusal :=
  let addr := (s.engine e).address a imm
  let s := s.beforeStore e addr.toNat
  s.teique e [alignIf addr (addr.toNat % n != 0), accessIf addr (!reaches e addr (s.mayStore e n))] fun s =>
    s.post e (t addr.toNat)

/-- ST64. -/
def execSt64 (e : Eng) (d a : GReg) (imm : BitVec 16) (s : State) : Host.Outcome State Fault Refusal :=
  s.store e a imm 8 fun addr => .word64 addr (s.reg e d)

/-- ST32 stores g[d][31:0]. -/
def execSt32 (e : Eng) (d a : GReg) (imm : BitVec 16) (s : State) : Host.Outcome State Fault Refusal :=
  s.store e a imm 4 fun addr => .word32 addr ((s.reg e d).setWidth 32)

/-! ## SYS (R398, R399, R451) -/

/-- An index beyond the 72 registers, or a register of the host's. -/
def sysAccess (idx : BitVec 7) : Check :=
  accessIf (BitVec.ofNat 64 (4 * idx.toNat)) (decide (71 < idx.toNat) || hostOnly idx.toNat)

/-- SYS READ. -/
def execSysRead (e : Eng) (d : GReg) (idx : BitVec 7) (s : State) : Host.Outcome State Fault Refusal :=
  s.teique e [privIf (.sysRead e d idx) (e == .k3), sysAccess idx] fun s =>
    s.behindStores e fun s =>
      let r := s.readReg (.eng e) idx.toNat
      State.take (r.1, r.2.setWidth 64) e d

/-- A write of UPD_CTRL by K2 whose BLOCK the rail does not permit: VOLTAGE (R90, R494). -/
def State.blockVoltage (s : State) (e : Eng) (idx : BitVec 7) (v : W32) : Bool :=
  e == .k2 && idx == 45#7 && (field v 0 4 == 2#4) && s.blockTraps (.eng .k2) (field v 7 2) (field v 9 10).toNat

/-- SYS WRITE of a value: posted, but the write whose BLOCK traps is refused by the update controller at once. -/
def State.sysWrite (s : State) (e : Eng) (idx : BitVec 7) (v : W32) : State :=
  if s.blockVoltage e idx v then
    (s.writeReg (.eng e) idx.toNat v).trap e .voltage (s.pwr.vset.setWidth 64)
  else s.post e (.reg idx v)

/-- SYS WRITE: what traps it decides behind the engine's earlier stores where it writes UPD_CTRL. -/
def execSysWrite (e : Eng) (a : GReg) (idx : BitVec 7) (s : State) : Host.Outcome State Fault Refusal :=
  let v : W32 := (s.reg e a).setWidth 32
  let priv := e == .k3 || s.k2Barred e (sealedWrite idx.toNat)
  s.teique e [privIf (.sysWrite e a idx) priv, sysAccess idx] fun s =>
    if idx = 45#7 then s.behindStores e fun s => s.sysWrite e idx v else s.sysWrite e idx v

/-- SYS reset (R146). -/
def execSysReset (e : Eng) (s : State) : Host.Outcome State Fault Refusal :=
  s.teique e [privIf (.sysReset e) (e == .k3)] fun s => s.behindStores e fun s => s.deviceReset 0x0A#8 false

/-- The clusters that SYS may fence: the chords, the spare lane and the auxiliary cluster (R31). -/
def sysCluster (n : Nat) : Option Cluster :=
  if h : n < 20 then some (.chord ⟨n, h⟩)
  else if n = 20 then some .spare
  else if n = 21 then some .aux
  else none

/-- A SYS fence operation on the cluster g[a]. -/
def State.sysFence (s : State) (e : Eng) (i : Instr) (a : GReg) (f : State → Cluster → State) :
    Host.Outcome State Fault Refusal :=
  let n := s.reg e a
  let priv := e == .k3 || s.k2Barred e false
  s.teique e [privIf i priv, accessIf n (sysCluster n.toNat).isNone] fun s =>
    let s := match sysCluster n.toNat with
      | some cl => f s cl
      | none => s
    s.onEngine e fun x => x

/-- SYS raises a fence (R31). -/
def execSysFenceRaise (e : Eng) (a : GReg) (s : State) : Host.Outcome State Fault Refusal :=
  s.sysFence e (.sysFenceRaise e a) a fun s cl => s.raiseFence cl (setSys true)

/-- SYS lowers a fence that SYS raised; another cause still holds it (R451). -/
def execSysFenceLower (e : Eng) (a : GReg) (s : State) : Host.Outcome State Fault Refusal :=
  s.sysFence e (.sysFenceLower e a) a fun s cl => s.lowerFence cl (setSys false)

/-! ## INC_POP (R578) -/

/-- INC_POP: a read of the window word by an engine that may read it. -/
def execIncPop (e : Eng) (s : State) : Host.Outcome State Fault Refusal :=
  if (e = .k01 ∨ e = .k3) ∧ s.powered 3 ∧ !s.fenced .customer then
    let r := s.popIncrement
    .next { r.1 with readOut := r.2 }
  else .next s

end Sys2Proof.Machine
end

