-- ==== Sys2Proof/Machine/CryptOps.lean ====
section
/-! DEFINITION. CRYPT (R398, R452, R453): hashing, VERIFY, QSIGN and MODEXP. -/
namespace Sys2Proof.Machine

/-! ## Checks -/

/-- The rail does not permit a crypto operation: below 1.00 V, or LP (R452). -/
def State.cryptVoltage (s : State) : Check :=
  ⟨.voltage, s.pwr.vset.setWidth 64, !s.pwr.regHP || decide (s.pwr.vset.toNat < 2)⟩

/-- The gate of the crypto engine is closed. -/
def State.cryptGated (s : State) : Check := ⟨.gated, 0#64, !s.clk.gateOpen.getLsbD 0⟩

/-- Hashing: K0–K1 and K2 (Table 14-2). -/
def hashChecks (e : Eng) (i : Instr) : List Check := [privIf i (e == .k3), engineIf i (isSurveyor e)]

/-- The asynchronous operations: K2 alone. -/
def asyncChecks (e : Eng) (i : Instr) (barred : Bool) : List Check :=
  [privIf i (e == .k3 || barred), engineIf i (e != .k2)]

/-! ## Hashing (R452) -/

/-- The bytes hashed so far by the issuer. -/
def State.hashCtx (s : State) (e : Eng) : List Byte := if e = .k01 then s.cr.ctxK01 else s.cr.ctxK2

def State.setHashCtx (s : State) (e : Eng) (l : List Byte) : State :=
  if e = .k01 then { s with cr.ctxK01 := l } else { s with cr.ctxK2 := l }

/-- HINIT. -/
def execHinit (e : Eng) (s : State) : Host.Outcome State Fault Refusal :=
  s.teique e (hashChecks e (.hinit e) ++ [s.cryptVoltage, s.cryptGated]) fun s =>
    (s.setHashCtx e []).onEngine e fun x => x

/-- HUPD. -/
def execHupd (e : Eng) (a b : GReg) (s : State) : Host.Outcome State Fault Refusal :=
  let addr := s.reg e a
  let len := (s.reg e b).toNat
  s.teique e (hashChecks e (.hupd e a b) ++
      [accessIf addr (!mayReadSpan e addr.toNat len), s.cryptVoltage, s.cryptGated]) fun s =>
    s.behindStores e fun s =>
      (s.setHashCtx e (s.hashCtx e ++ s.readSpan e addr.toNat len)).onEngine e fun x => x

/-- HFIN. -/
def execHfin (e : Eng) (a : GReg) (s : State) : Host.Outcome State Fault Refusal :=
  let addr := s.reg e a
  s.teique e (hashChecks e (.hfin e a) ++
      [accessIf addr (!mayFillSpan e addr.toNat 64), s.cryptVoltage, s.cryptGated]) fun s =>
    s.behindStores e fun s =>
      ((s.fillSpan e addr.toNat (sha512 (s.hashCtx e))).setHashCtx e []).onEngine e fun x => x

/-! ## The asynchronous operations (R453, R505) -/

/-- An operation is started where the crypto engine is free: 1 in g[d], 0 where it is busy. -/
def State.startCrypt (s : State) (e : Eng) (d a : GReg) (f : State → Eng → Nat → State) : State :=
  s.behindStores e fun s =>
    if s.cryptFree then (f s e (s.reg e a).toNat).onEngine e fun x => x.setReg d 1#64
    else s.onEngine e fun x => x.setReg d 0#64

/-- VERIFY. -/
def execCryptVerify (e : Eng) (d a : GReg) (s : State) : Host.Outcome State Fault Refusal :=
  s.teique e (asyncChecks e (.cryptVerify e d a) false ++ [s.cryptVoltage, s.cryptGated]) fun s =>
    s.startCrypt e d a State.startVerify

/-- QSIGN, which sets the regulator itself. -/
def execQsign (e : Eng) (d a : GReg) (s : State) : Host.Outcome State Fault Refusal :=
  s.teique e (asyncChecks e (.qsign e d a) false ++ [s.cryptGated]) fun s => s.startCrypt e d a State.startQsign

/-- MODEXP, only in OPEN. -/
def execModexp (e : Eng) (d a : GReg) (s : State) : Host.Outcome State Fault Refusal :=
  s.teique e (asyncChecks e (.modexp e d a) (e == .k2 && s.sealed) ++ [s.cryptVoltage, s.cryptGated]) fun s =>
    s.startCrypt e d a State.startModexp

end Sys2Proof.Machine
end

