-- ==== Sys2Proof/Machine/Measure.lean ====
section
/-! DEFINITION. The survey instructions: FIRE, ARM, STAMP, CORR, CAPT, STAT, AUX, AT, PACE and LANE (R431 to R443). -/
namespace Sys2Proof.Machine

/-! ## Checks of the measurement instructions (R121, R142, R280, Table 14-2) -/

/-- The engine is the authority: the Surveyor that owns the chords (R280). -/
def State.isAuthority (s : State) (e : Eng) : Bool := e == (if s.sv.ownerS1 then .s1 else .s0)

/-- Only Surveyors have the measurement instructions, and only with the PLL locked. -/
def State.measureChecks (s : State) (e : Eng) (i : Instr) : List Check :=
  [engineIf i (!isSurveyor e), clockIf i (!s.clk.pllLock)]

/-- A capture is not permitted at this VSET, or in LP (Table 03-2, R102). -/
def State.captureVoltage (s : State) : Bool := !s.pwr.regHP || decide (s.pwr.vset.toNat < 2)

/-- ISLAND_VOLT.VSET as a trap value. -/
def State.vsetTval (s : State) : W64 := s.pwr.vset.setWidth 64

/-- In grid timing, VOLTAGE and the correlator gates of the named chords (R432). -/
def State.captureChecks (s : State) (cs : List Chord) : List Check :=
  let shut (south : Bool) (k : Nat) : Check :=
    ⟨.gated, BitVec.ofNat 64 k, s.sv.grid && !s.clk.gateOpen.getLsbD k && cs.any fun c => decide (10 ≤ c.val) == south⟩
  [⟨.voltage, s.vsetTval, s.sv.grid && s.captureVoltage⟩, shut false 12, shut true 13]

/-! ## FIRE (R432, R433) -/

def inBoot (s : State) : Bool := s.sys.state == .boot

/-- A chord that slot names. -/
def slotChord (slot : BitVec 8) : Option Chord := if h : slot.toNat < 20 then some ⟨slot.toNat, h⟩ else none

/-- The chords of a mask, bits [19:0] of g[d]. -/
def maskChords (m : BitVec 20) : List Chord := allChords.filter fun c => m.getLsbD c.val

/-- The chords that a FIRE names. -/
def State.fireChords (s : State) (e : Eng) (d : GReg) (slot : BitVec 8) : List Chord :=
  match slotChord slot with
  | some c => [c]
  | none => maskChords (field (s.reg e d) 0 20)

/-- Slot, d and mod do not fit together (R432). -/
def fireIllegal (d : GReg) (slot mod : BitVec 8) : Bool :=
  field mod 3 5 != 0#5 ||
    (if (slotChord slot).isSome then d != 0#5 || mod.getLsbD 1 else slot != 0xFF#8 || !mod.getLsbD 1)

/-- The marks that the FIRE itself decides (R433). -/
def State.fireMarks (s : State) (group : Bool) (c : Chord) : BitVec 38 :=
  if (s.chord c).state = .off ∨ s.fenced (.chord c) then Mark.aborted
  else if group ∧ !s.sv.cdiv then Mark.codeFault
  else 0#38

/-- The command leaves for the chord island; one for an unpowered domain is answered by the Core bridge port (R286). -/
def State.sendShot (s : State) (cmd : ShotCmd) : State :=
  if s.powered (chordDomain cmd.chord) then { s with sv.inTransit := s.sv.inTransit ++ [cmd] }
  else s.deliverEntry (s.abortCommand { cmd with marks := Mark.aborted })

/-- The bridge to a powered chord that a command must cross and that is down. -/
def State.shotBridge (s : State) (cs : List Chord) : Option Bridge :=
  (cs.filter fun c => s.powered (chordDomain c)).findSome? fun c =>
    let b := chordBridge c
    if (s.br.get b).up then none else some b

/-- Shot commands are issued, unless the bridge port refuses them, and then the instruction stalls (R432). -/
def State.issueShots (s : State) (e : Eng) (cmds : List ShotCmd) (f : Engine → Engine) : State :=
  match s.shotBridge (cmds.map ShotCmd.chord) with
  | some b => s.bridgeRefuse b
  | none => (cmds.foldl (fun (s : State) c => s.sendShot c) (s.scheduleShots cmds)).onEngine e f

/-- The commands of a FIRE. -/
def State.fireCommands (s : State) (e : Eng) (d a : GReg) (slot mod : BitVec 8) : List ShotCmd :=
  let group := mod.getLsbD 1
  let up := mod.getLsbD 0 != (mod.getLsbD 2 && s.sv.tc.getLsbD 0)
  (s.fireChords e d slot).map fun c =>
    { chord := c, up := up, listen := false, group := if group then some (field (s.reg e d) 0 20) else none,
      target := (s.reg e a).toNat, fromS1 := e == .s1, tc := s.sv.tc, marks := s.fireMarks group c }

/-- FIRE. -/
def execFire (e : Eng) (d a : GReg) (slot mod : BitVec 8) (s : State) : Host.Outcome State Fault Refusal :=
  let i : Instr := .fire e d a slot mod
  s.teique e ([illegalIf i (fireIllegal d slot mod), engineIf i (!s.isAuthority e || inBoot s),
      clockIf i (!s.clk.pllLock)] ++ s.captureChecks (s.fireChords e d slot)) fun s =>
    s.behindStores e fun s =>
      s.issueShots e (s.fireCommands e d a slot mod) fun x => x

/-! ## ARM (R434) -/

/-- ARM is not accepted: 0 in g[d], no entry, no trap. -/
def State.armRefusedBy (s : State) (e : Eng) (slot : BitVec 8) : Bool :=
  !s.isAuthority e || inBoot s || (slotChord slot).all fun c => (s.chord c).state == .off

/-- The command of an ARM. -/
def State.armCommand (s : State) (e : Eng) (a : GReg) (slot mod : BitVec 8) : List ShotCmd :=
  (slotChord slot).toList.map fun c =>
    { chord := c, up := mod.getLsbD 0, listen := true, group := none, target := (s.reg e a).toNat, fromS1 := e == .s1,
      tc := s.sv.tc, marks := s.fireMarks false c }

/-- ARM. -/
def execArm (e : Eng) (d a : GReg) (slot mod : BitVec 8) (s : State) : Host.Outcome State Fault Refusal :=
  let i : Instr := .arm e d a slot mod
  let bad := (slotChord slot).isNone || field mod 1 7 != 0#7
  s.teique e ([illegalIf i bad] ++ s.measureChecks e i ++ s.captureChecks (slotChord slot).toList) fun s =>
    s.behindStores e fun s =>
      if s.armRefusedBy e slot then s.onEngine e fun x => x.setReg d 0#64
      else s.issueShots e (s.armCommand e a slot mod) fun x => x.setReg d 1#64

/-! ## STAMP and CORR (R435) -/

/-- One of the four words of an entry does not fit the engine's rights. -/
def State.entryBarred (s : State) (e : Eng) (addr : W64) : Bool :=
  [0, 8, 16, 24].any fun k => !reaches e (addr + BitVec.ofNat 64 k) (s.mayStore e 8)

/-- With a matching entry it is collected; without one the instruction answers 0xFF or waits. -/
def State.collectEntry (s : State) (e : Eng) (grid : Bool) (d a : GReg) (slot mod : BitVec 8) : State :=
  let addr := (s.reg e a).toNat
  match takeEntry (entryMatches grid slot) (s.entriesOf e) with
  | some (en, rest) => s.collect e d addr en rest
  | none =>
    if mod.getLsbD 0 then s.onEngine e fun x => x.setReg d 0xFF#64 else s.await e (.entry grid d addr slot)

/-- STAMP for entries of KIND 0, CORR for those of KIND 1. -/
def State.takeResult (s : State) (e : Eng) (i : Instr) (grid : Bool) (d a : GReg) (slot mod : BitVec 8) :
    Host.Outcome State Fault Refusal :=
  let addr := s.reg e a
  let bad := field mod 1 7 != 0#7 || (decide (20 ≤ slot.toNat) && slot != 0xFF#8)
  s.teique e [illegalIf i bad, engineIf i (!isSurveyor e), alignIf addr (addr.toNat % 8 != 0),
      accessIf addr (s.entryBarred e addr), clockIf i (!s.clk.pllLock)] fun s =>
    s.behindStores e fun s =>
      if mod.getLsbD 0 then s.collectEntry e grid d a slot mod
      else s.waiting e d fun s => s.collectEntry e grid d a slot mod

/-- STAMP. -/
def execStamp (e : Eng) (d a : GReg) (slot mod : BitVec 8) (s : State) : Host.Outcome State Fault Refusal :=
  s.takeResult e (.stamp e d a slot mod) false d a slot mod

/-- CORR. -/
def execCorr (e : Eng) (d a : GReg) (slot mod : BitVec 8) (s : State) : Host.Outcome State Fault Refusal :=
  s.takeResult e (.corr e d a slot mod) true d a slot mod

/-! ## CAPT (R437) -/

/-- A word of the capture area through the chord window, or zero where the island does not answer. -/
def State.captureWord (s : State) (c : Chord) (k : Nat) : W64 :=
  if s.chordAnswers c && (s.br.get (chordBridge c)).up then (s.chord c).cap.get k else 0#64

/-- The word numbers that a CAPT copies, the descriptors last. -/
def captWords (mod : BitVec 8) : List Nat :=
  if mod.getLsbD 1 then List.range 0x402
  else if mod.getLsbD 0 then (List.range 0x200).map (· + 0x200) ++ [0x401]
  else List.range 0x200 ++ [0x400]

/-- The descriptors that decide its result. -/
def captDescs (mod : BitVec 8) : List Nat :=
  if mod.getLsbD 1 then [0x400, 0x401] else if mod.getLsbD 0 then [0x401] else [0x400]

/-- The copy: the words, and 1 where every descriptor shows DONE. -/
def State.capture (s : State) (e : Eng) (c : Chord) (d a : GReg) (mod : BitVec 8) : State :=
  let b := chordBridge c
  let s := if s.chordAnswers c && !(s.br.get b).up then s.bridgeRefuse b else s
  let words := (captWords mod).map fun k => s.captureWord c k
  let done := (captDescs mod).all fun k => (s.captureWord c k).getLsbD 23
  let s := if s.chordAnswers c && (s.br.get b).up then s.hop (chordHops c) else s
  (s.putBytes e (s.reg e a).toNat (words.flatMap fun w => leBytes 8 w.toNat)).onEngine e fun x =>
    x.setReg d (bit 64 done)

/-- CAPT. -/
def execCapt (e : Eng) (d a : GReg) (slot mod : BitVec 8) (s : State) : Host.Outcome State Fault Refusal :=
  let i : Instr := .capt e d a slot mod
  let addr := s.reg e a
  let bytes := if mod.getLsbD 1 then 8208 else 4104
  let bad := (slotChord slot).isNone || field mod 2 6 != 0#6
  s.teique e [illegalIf i bad, engineIf i (!isSurveyor e), accessIf addr (!mayWriteSpan e addr.toNat bytes),
      clockIf i (!s.clk.pllLock)] fun s =>
    s.behindStores e fun s =>
      match slotChord slot with
      | some c => s.capture e c d a mod
      | none => s

/-! ## STAT (R251, R252, R438, R439) -/

def State.setStat (s : State) (c : Chord) (o : Option StatSet) : State := { s with stats := s.stats.set c o }

/-- Nothing fed yet. -/
def Moments.none : Moments := { s1 := 0, s2 := 0, min := 0, max := 0 }

/-- One more value, `first` for the first. -/
def Moments.add (m : Moments) (first : Bool) (x : Int) : Moments :=
  { s1 := m.s1 + x, s2 := m.s2 + x * x, min := if first || decide (x < m.min) then x else m.min,
    max := if first || decide (m.max < x) then x else m.max }

/-- A new set. -/
def newStat (n : Nat) (e : Eng) (addr : Nat) : StatSet :=
  { n := n, count := 0, starterS1 := e == .s1, addr := addr, dn := Moments.none, up := Moments.none, dt := Moments.none,
    firstLane := 0#5, switched := false, grade := 0#2, done := false }

/-- Mean in 2⁻¹⁶ ticks, rounded to nearest; without a pair no rule gives it. -/
def meanWord (n : Nat) (m : Moments) (free : W64) : W64 :=
  if n = 0 then free else BitVec.ofInt 64 (roundDiv (m.s1 * 2 ^ 16) n)

/-- Standard deviation in 2⁻⁸ ticks, rounded down or up by `up` where it is not exact; what does not fit 32 bits, and a
set without a pair, are free. -/
def sdWord (n : Nat) (m : Moments) (up : Bool) (free : W64) : W32 :=
  if n = 0 then free.setWidth 32
  else if n = 1 then 0#32
  else
    let num := ((n * m.s2 - m.s1 * m.s1) * 2 ^ 16).toNat
    let d := n * (n - 1)
    let r := isqrt (num / d)
    let r := if r * r * d = num ∨ !up then r else r + 1
    if r < 2 ^ 32 then BitVec.ofNat 32 r else free.setWidth 32

/-- Minimum and maximum, free without a pair. -/
def edgeWord (n : Nat) (x : Int) (free : W64) : W64 := if n = 0 then free else BitVec.ofInt 64 x

/-- Word 0 of the block. -/
def StatSet.head (st : StatSet) (c : Chord) : W64 :=
  place 64 0 (BitVec.ofNat 16 st.n) ||| place 64 16 (BitVec.ofNat 16 st.count) ||| place 64 32 (BitVec.ofNat 5 c.val) |||
    placeB 64 37 st.done ||| placeB 64 38 st.switched ||| place 64 39 st.grade

/-- The 12 words of a block (Table 08-9), whose open values are free. -/
def State.statBlock (s : State) (c : Chord) (st : StatSet) : List W64 :=
  let k := st.count
  let sd (m : Moments) (i : Nat) : W64 := (sdWord k m (Config.roundUp (s.freeCtr + i)) (s.free i)).setWidth 64
  [st.head c, meanWord k st.dn (s.free 0), meanWord k st.up (s.free 1), meanWord k st.dt (s.free 2),
    sd st.dn 3 ||| (sd st.up 4 <<< 32), sd st.dt 5, edgeWord k st.dn.min (s.free 6), edgeWord k st.dn.max (s.free 7),
    edgeWord k st.up.min (s.free 8), edgeWord k st.up.max (s.free 9), edgeWord k st.dt.min (s.free 10),
    edgeWord k st.dt.max (s.free 11)]

/-- A block is written to an engine's data memory. -/
def State.writeStat (s : State) (e : Eng) (addr : Nat) (ws : List W64) : State :=
  (s.putBytes e addr (ws.flatMap fun w => leBytes 8 w.toNat)).usedFree 12

/-- The checks of a STAT, the block address where it has one. -/
def State.statChecks (s : State) (e : Eng) (i : Instr) (slot : BitVec 8) (addr : Option W64) : List Check :=
  let block := match addr with
    | some a => [alignIf a (a.toNat % 8 != 0), accessIf a (decide (dataSize e < a.toNat + 96))]
    | none => []
  [illegalIf i (slotChord slot).isNone, engineIf i (!isSurveyor e)] ++ block ++ [clockIf i (!s.clk.pllLock)]

/-- STAT START. -/
def execStatStart (e : Eng) (d a : GReg) (slot : BitVec 8) (s : State) : Host.Outcome State Fault Refusal :=
  s.teique e (s.statChecks e (.statStart e d a slot) slot (some (s.reg e a))) fun s =>
    let n := (field (s.reg e d) 0 16).toNat
    let s := match slotChord slot with
      | some c => s.setStat c (if n = 0 then none else some (newStat n e (s.reg e a).toNat))
      | none => s
    s.onEngine e fun x => x

/-- The set with one pair more. -/
def StatSet.feed (st : StatSet) (dn up : W64) : StatSet :=
  let first := st.count == 0
  let td : Int := (field dn 0 40).toNat
  let tu : Int := (field up 0 40).toNat
  let lane : BitVec 5 := if first then field dn 40 5 else st.firstLane
  let g : BitVec 2 := field dn 45 2
  { st with count := st.count + 1, dn := st.dn.add first td, up := st.up.add first tu, dt := st.dt.add first (tu - td),
            firstLane := lane, switched := st.switched || field dn 40 5 != lane || field up 40 5 != lane,
            grade := if st.grade.toNat < g.toNat then g else st.grade, done := decide (st.n ≤ st.count + 1) }

/-- The N-th pair completes the set: its block goes to the starter. -/
def State.feedStat (s : State) (c : Chord) (st : StatSet) : State :=
  let s := s.setStat c (some st)
  if st.done then s.writeStat (if st.starterS1 then .s1 else .s0) st.addr (s.statBlock c st) else s

/-- STAT FEED: from the authority, while the set is in progress; ignored otherwise. -/
def execStatFeed (e : Eng) (d a : GReg) (slot : BitVec 8) (s : State) : Host.Outcome State Fault Refusal :=
  s.teique e (s.statChecks e (.statFeed e d a slot) slot none) fun s =>
    let s := match slotChord slot with
      | some c => match s.stats[c] with
        | some st => if s.isAuthority e ∧ !st.done then s.feedStat c (st.feed (s.reg e d) (s.reg e a)) else s
        | none => s
      | none => s
    s.onEngine e fun x => x

/-- The block that READ shows; without a set no rule gives it. -/
def State.readStat (s : State) (c : Chord) : List W64 :=
  match s.stats[c] with
  | some st => s.statBlock c st
  | none => (List.range 12).map fun k => s.free k

/-- STAT READ. -/
def execStatRead (e : Eng) (a : GReg) (slot : BitVec 8) (s : State) : Host.Outcome State Fault Refusal :=
  s.teique e (s.statChecks e (.statRead e a slot) slot (some (s.reg e a))) fun s =>
    s.behindStores e fun s =>
      let s := match slotChord slot with
        | some c => s.writeStat e (s.reg e a).toNat (s.readStat c)
        | none => s
      s.onEngine e fun x => x

/-! ## AUX (R440) -/

/-- The channel that slot names. -/
def slotAux (slot : BitVec 8) : Option (Fin 6) := if h : slot.toNat < 6 then some ⟨slot.toNat, h⟩ else none

/-- A request for a conversion crosses to its island: refused where the island does not answer. -/
def State.askAux (s : State) (req : AuxReq) : State × Bool :=
  if !s.auxReached then (s, false)
  else if !s.br.senseN.up then (s.bridgeRefuse .senseN, false)
  else if s.auxAnswers req.ch then (s.hop (auxHops req.ch)).auxRequest req
  else (s, false)

/-- AUX. -/
def execAux (e : Eng) (d : GReg) (slot mod : BitVec 8) (s : State) : Host.Outcome State Fault Refusal :=
  let i : Instr := .aux e d slot mod
  let bad := (slotAux slot).isNone || field mod 2 6 != 0#6
  s.teique e ([illegalIf i bad] ++ s.measureChecks e i) fun s =>
    s.behindStores e fun s =>
      match slotAux slot with
      | some ch =>
        let r := s.askAux { ch := ch, forced := mod.getLsbD 0, notify := mod.getLsbD 1, fromS1 := e == .s1,
                            deferred := false }
        r.1.onEngine e fun x => x.setReg d (bit 64 r.2)
      | none => s

/-! ## AT and PACE (R441, R442) -/

/-- What AT does: it waits for the boundary, for the time base, or not at all. -/
def State.atWait (s : State) (e : Eng) (d : GReg) (target : W64) : State :=
  if target = 0#64 then s.await e (.atBoundary d)
  else if s.sv.timeBase < target.toNat then s.await e (.atTarget d target)
  else s.onEngine e fun x => x.setReg d s.sv.tc

/-- AT. -/
def execAtTime (e : Eng) (d a : GReg) (imm : BitVec 16) (s : State) : Host.Outcome State Fault Refusal :=
  s.teique e (s.measureChecks e (.atTime e d a imm)) fun s =>
    s.waiting e d fun s => s.atWait e d ((s.engine e).address a imm)

/-- PACE. -/
def execPace (e : Eng) (a : GReg) (imm : BitVec 16) (s : State) : Host.Outcome State Fault Refusal :=
  s.teique e (s.measureChecks e (.pace e a imm)) fun s =>
    let s := if s.isAuthority e then s.setPeriod ((s.engine e).address a imm).toNat else s
    s.onEngine e fun x => x

/-! ## LANE (R443) -/

/-- The lane that slot names. -/
def slotLane (slot : BitVec 8) : Option Lane := if h : slot.toNat < 22 then some ⟨slot.toNat, h⟩ else none

/-- The answer of a LANE operation: bit 63 where it is refused. -/
def laneAnswer (refused : Bool) : W64 := placeB 64 63 refused

def laneBridge (l : Lane) : Bridge := if 10 ≤ l.val ∧ l.val < 20 then .senseS else .senseN

/-- Sixty-five words: four widths to a word, then log₂ H, P, VALID and OUT (Table 15-7). -/
def LaneSt.words (l : LaneSt) : List W64 :=
  let width (k : Nat) (i : Nat) : W64 := place 64 (16 * i) (BitVec.ofNat 16 (l.grat.getD (4 * k + i) 0))
  (List.range 64).map (fun k => width k 0 ||| width k 1 ||| width k 2 ||| width k 3) ++
    [place 64 0 (BitVec.ofNat 5 l.gratH) ||| place 64 5 (BitVec.ofNat 9 (binsUsed l.grat)) ||| placeB 64 14 l.valid |||
      placeB 64 15 l.out]

/-- The cluster that holds a lane (Table 01-3). -/
def laneCluster (l : Lane) : Cluster :=
  if h : l.val < 20 then .chord ⟨l.val, h⟩ else if l = L20 then .spare else .aux

/-- The island of a lane answers: powered, and no fence on the way (R30, R32, R37). -/
def State.laneAnswers (s : State) (l : Lane) : Bool :=
  s.lanePowered l && !s.fenced (laneCluster l) && !s.fenced (senseCtl (decide (10 ≤ l.val ∧ l.val < 20)))

/-- What READG reads: zero from a lane that does not answer (R32, R37) and over a bridge that is down (R41). -/
def State.readLane (s : State) (l : Lane) : State × List W64 :=
  if !s.laneAnswers l then (s, List.replicate 65 0#64)
  else if !(s.br.get (laneBridge l)).up then (s.bridgeRefuse (laneBridge l), List.replicate 65 0#64)
  else (s.hop (bridgeHops (laneBridge l)), (s.lane l).words)

/-- LANE READG. -/
def execLaneReadg (e : Eng) (d a : GReg) (slot : BitVec 8) (s : State) : Host.Outcome State Fault Refusal :=
  let i : Instr := .laneReadg e d a slot
  let addr := s.reg e a
  s.teique e [illegalIf i (slotLane slot).isNone, engineIf i (e == .k01 || e == .k3),
      accessIf addr (!mayWriteSpan e addr.toNat 520)] fun s =>
    s.behindStores e fun s =>
      match slotLane slot with
      | some l =>
        let r := s.readLane l
        (r.1.putBytes e addr.toNat (r.2.flatMap fun w => leBytes 8 w.toNat)).onEngine e fun x => x.setReg d 0#64
      | none => s

/-- LANE SNAP is refused: protection, or an invalid graticule. -/
def State.snapRefused (s : State) (l : Lane) : Bool := s.st.bp != 0#2 || !(s.lane l).valid

/-- LANE SNAP. -/
def execLaneSnap (e : Eng) (d : GReg) (slot : BitVec 8) (s : State) : Host.Outcome State Fault Refusal :=
  let i : Instr := .laneSnap e d slot
  s.teique e [illegalIf i (slotLane slot).isNone, engineIf i (e == .k01 || e == .k3)] fun s =>
    s.behindStores e fun s =>
      match slotLane slot with
      | some l =>
        if s.snapRefused l then s.onEngine e fun x => x.setReg d (laneAnswer true)
        else (s.await e (.snapWrite d)).request { kind := .snapshot e l, payload := [], pages := none, early := false }
      | none => s

/-- The operations that Surveyors alone have. -/
def laneChecks (e : Eng) (i : Instr) (bad : Bool) : List Check := [illegalIf i bad, engineIf i (!isSurveyor e)]

/-- LANE CALALL is refused. -/
def State.calAllRefused (s : State) (e : Eng) : Bool := !s.isAuthority e || s.sv.run || !s.clk.pllLock

/-- Every lane of the powered Sense domains starts its calibration; with none, the operation ends at once (R239). A
rotation step that the stopped survey has left behind is abandoned (DESIGN CHOICE, log 71). -/
def State.startCalAll (s : State) (e : Eng) (d : GReg) : State :=
  let lanes := allLanes.filter fun l => s.lanePowered l
  let s := lanes.foldl (fun s l => s.beginCalibration l) (s.abandonStep.await e (.calAll d))
  ({ s with lr.calAll := true }).checkCalAll

/-- LANE CALALL. -/
def execLaneCalall (e : Eng) (d : GReg) (slot : BitVec 8) (s : State) : Host.Outcome State Fault Refusal :=
  s.teique e (laneChecks e (.laneCalall e d slot) (slot != 0#8)) fun s =>
    s.behindStores e fun s => s.waiting e d fun s =>
      if s.calAllRefused e then s.onEngine e fun x => x.setReg d (laneAnswer true) else s.startCalAll e d

/-- LANE ASSIGN is refused, also by an earlier ASSIGN to another chord that still waits for its boundary. -/
def State.assignRefused (s : State) (e : Eng) (c : Chord) : Bool :=
  !s.isAuthority e || (s.lane L20).out || (s.chord c).state == .off ||
    (s.lr.byAssign && s.lr.spareFor.toNat != c.val) || (s.lr.assignNext.any fun b => b != c)

/-- A LANE operation that the next boundary carries out, with its answer. -/
def State.laneOp (s : State) (e : Eng) (d : GReg) (refused : Bool) (f : LaneRegs → LaneRegs) : State :=
  let s := if refused then s else { s with lr := f s.lr }
  s.onEngine e fun x => x.setReg d (laneAnswer refused)

/-- LANE ASSIGN. -/
def execLaneAssign (e : Eng) (d : GReg) (slot : BitVec 8) (s : State) : Host.Outcome State Fault Refusal :=
  s.teique e (laneChecks e (.laneAssign e d slot) (slotChord slot).isNone) fun s =>
    s.behindStores e fun s =>
      match slotChord slot with
      | some c =>
        s.laneOp e d (s.assignRefused e c) fun (l : LaneRegs) => { l with assignNext := some c, freeNext := false }
      | none => s

/-- LANE FREE is refused: the covered chord's own lane is out of service. -/
def State.freeRefused (s : State) (e : Eng) : Bool :=
  !s.isAuthority e || (if h : s.lr.spareFor.toNat < 20 then (s.lane ⟨s.lr.spareFor.toNat, by omega⟩).out else false)

/-- LANE FREE. -/
def execLaneFree (e : Eng) (d : GReg) (slot : BitVec 8) (s : State) : Host.Outcome State Fault Refusal :=
  s.teique e (laneChecks e (.laneFree e d slot) (slot != 0#8)) fun s =>
    s.behindStores e fun s => s.laneOp e d (s.freeRefused e) fun (l : LaneRegs) => { l with freeNext := true, assignNext := none }

end Sys2Proof.Machine
end

