-- ==== Sys2Proof/Machine/Records.lean ====
section
/-! DEFINITION. TALLY, ROD, PSAVE and PLOAD (R328 to R333, R444 to R447, R464, R475). -/
namespace Sys2Proof.Machine

/-! ## TALLY (R328 to R330, R333, R444) -/

/-- The Abacus answers: PD2 powered, and the fences of the metrology and the bridge cluster down (R32, R34, R35, R37). -/
def State.abacusAnswers (s : State) : Bool := s.powered 2 && !s.fenced .metrology && !s.fenced .bridge

/-- Engines that may tally some rod (Table 14-2). -/
def tallies (e : Eng) : Bool := e == .k01 || e == .k3

/-- The rod that d names; its low four bits. -/
def rodOf (rod : BitVec 5) : Rod := ⟨rod.toNat % 16, Nat.mod_lt _ (by decide)⟩

/-- The twin's own volume follows K0–K1's increments to rods 0 and 1 (R595). -/
def State.ownTally (s : State) (r : Rod) (i sc : W64) : State :=
  if r = 0 then { s with tw.ownVolume := s.tw.ownVolume + tallyProduct i sc }
  else if r = 1 then { s with tw.ownVolume := s.tw.ownVolume - tallyProduct i sc }
  else s

/-- An accepted TALLY: to the shadow where it is a test, otherwise to the open value, with what follows a legal increment
of K0–K1 (R333, R578, R595). In BOOT no rod advances (R158). -/
def State.applyTally (s : State) (e : Eng) (test : Bool) (r : Rod) (i sc : W64) : State :=
  if test || s.pt.unlocked then s.tallyShadow r i sc
  else if s.sys.state = .boot then s
  else
    let s := s.tallyOpen r i sc
    if e = .k01 then (s.ownTally r i sc).queueIncrement r i else s

/-- TALLY, fn 0 or fn 1. -/
def State.tally (s : State) (e : Eng) (instr : Instr) (test : Bool) (rod : BitVec 5) (a b : GReg) :
    Host.Outcome State Fault Refusal :=
  let r := rodOf rod
  let i := s.reg e a
  let sc := s.reg e b
  let refusal := if s.abacusAnswers then tallyRefusal e r (s.tallyTarget test r) i sc else 0
  s.teique e [illegalIf instr (decide (16 ≤ rod.toNat)), engineIf instr (!tallies e),
      ⟨.tally, BitVec.ofNat 64 refusal, refusal != 0⟩] fun s =>
    let s := if s.abacusAnswers then s.applyTally e test r i sc else s
    s.onEngine e fun x => x

/-- TALLY. -/
def execTally (e : Eng) (rod : BitVec 5) (a b : GReg) (s : State) : Host.Outcome State Fault Refusal :=
  s.tally e (.tally e rod a b) false rod a b

/-- TALLY marked TEST. -/
def execTallyTest (e : Eng) (rod : BitVec 5) (a b : GReg) (s : State) : Host.Outcome State Fault Refusal :=
  s.tally e (.tallyTest e rod a b) true rod a b

/-! ## ROD (R331, R332, R445) -/

/-- A ROD read: an element of the value that g[a] selects; an Abacus that does not answer reads as zero. -/
def State.rodRead (s : State) (e : Eng) (d a : GReg) (f : RodSt → Bool → Nat → W64) :
    Host.Outcome State Fault Refusal :=
  s.teique e [] fun s =>
    let sel := s.reg e a
    let v := if s.abacusAnswers then f (s.rodSelected e sel) (field sel 0 4 == 11#4) (field sel 4 3).toNat else 0#64
    s.onEngine e fun x => x.setReg d v

/-- ROD read binary. -/
def execRodReadBinary (e : Eng) (d a : GReg) (s : State) : Host.Outcome State Fault Refusal := s.rodRead e d a rodBinary

/-- ROD read decimal. -/
def execRodReadDecimal (e : Eng) (d a : GReg) (s : State) : Host.Outcome State Fault Refusal := s.rodRead e d a rodDecimal

/-- ROD snapshot. -/
def execRodSnapshot (e : Eng) (s : State) : Host.Outcome State Fault Refusal :=
  s.teique e [] fun s => (if s.abacusAnswers then s.snapshot else s).onEngine e fun x => x

/-- A commit that closes no group: K3's with nothing tallied, and with BP = 11, which journals nothing (R330, R331). -/
def State.commitIdle (s : State) (e : Eng) : Bool := (e == .k3 && s.groupRods e == 0#16) || s.st.bp == 3#2

/-- The group closes; the engine waits until its journal entry, and with a binding the rod record, is written. -/
def State.commit (s : State) (e : Eng) : State :=
  if s.commitIdle e then s.onEngine e fun x => x
  else ((s.await e (.commit (s.groupBinds e))).closeGroup e).endCommit e

/-- ROD commit; a frozen Abacus lets no commit complete (R34). -/
def execRodCommit (e : Eng) (s : State) : Host.Outcome State Fault Refusal :=
  s.teique e [engineIf (.rodCommit e) (!tallies e)] fun s =>
    s.behindStores e fun s => if !s.abacusAnswers || s.ab.frozen then s else s.commit e

/-! ## PSAVE (R446, R464, R465, R475) -/

/-- The record, and the length, that g[b] names. -/
def recordId (v : W64) : BitVec 16 := field v 0 16
def recordLen (v : W64) : Nat := (field v 16 16).toNat

/-- An append to the interval log: K0–K1 and K3, 1 to 44 bytes (R475). -/
def intervalStatus (e : Eng) (len : Nat) : Option Nat :=
  if len = 0 ∨ 44 < len then some 3 else if tallies e then none else some 4

/-- The status of a PSAVE that is not carried out: 2 unknown, 3 length or operand, 4 not writable (Table 15-9). -/
def State.psaveStatus (s : State) (e : Eng) (a : GReg) (id len : Nat) : Option Nat :=
  if id = 0x400 then intervalStatus e len
  else if (recordSlots id).isNone then some 2
  else if !(if id = 1 then a == 0#5 && len == 0 else recordLenOk id len) then some 3
  else if !s.mayWriteRecord id e then some 4
  else none

/-- The request of a PSAVE, its payload taken now. -/
def State.psaveRequest (s : State) (e : Eng) (addr : Nat) (id : BitVec 16) (len : Nat) : StoreReq :=
  if id = 0x400#16 then { kind := .interval e, payload := s.readSpan e addr len, pages := none, early := false }
  else
    let payload := if id = 1#16 then s.settingsPayload else s.readSpan e addr len
    { kind := .record id (.engine e), payload := payload, pages := none, early := false }

/-- PSAVE: what is not carried out answers at once; otherwise the engine waits for the write. -/
def State.psave (s : State) (e : Eng) (d a : GReg) (addr : Nat) (id : BitVec 16) (len : Nat) : State :=
  match s.psaveStatus e a id.toNat len with
  | some st => s.onEngine e fun x => x.setReg d (BitVec.ofNat 64 st)
  | none => (s.await e (.psave d)).request (s.psaveRequest e addr id len)

/-- PSAVE. A payload that the engine may not read traps ACCESS (R393). -/
def execPsave (e : Eng) (d a b : GReg) (s : State) : Host.Outcome State Fault Refusal :=
  let addr := s.reg e a
  let id := recordId (s.reg e b)
  let len := recordLen (s.reg e b)
  let reads := (s.psaveStatus e a id.toNat len).isNone && id != 1#16
  s.teique e [accessIf addr (reads && !mayReadSpan e addr.toNat len)] fun s =>
    s.behindStores e fun s => s.psave e d a addr.toNat id len

/-! ## PLOAD (R447) -/

/-- PLOAD: the store controller serves it in its order; whether the destination takes the payload it then decides. -/
def execPload (e : Eng) (d a b : GReg) (s : State) : Host.Outcome State Fault Refusal :=
  let addr := s.reg e a
  s.teique e [alignIf addr (addr.toNat % 8 != 0)] fun s =>
    s.behindStores e fun s =>
      (s.await e (.psave d)).request
        { kind := .pload e d addr.toNat (recordId (s.reg e b)), payload := [], pages := none, early := false }

end Sys2Proof.Machine
end

