-- ==== Sys2Proof/Machine/Boot.lean ====
section
/-! DEFINITION. The boot (R154, R157 to R161): domains as they become ready, the restore, and the boot ROM. -/
namespace Sys2Proof.Machine

/-! ## Step 1 of R160: the Core die leaves reset (R157, R159, R498, R499) -/

def sourceOf (slot : BitVec 2) : ImageSource :=
  match slot.toNat with
  | 0 => .slotA
  | 1 => .slotB
  | _ => .recovery

/-- The trial has used its boots or its time (R498). -/
def State.trialOver (s : State) (b : BootPtr) : Bool :=
  b.trial && (decide (16 ≤ b.boots.toNat) ||
    (decide (b.start.toNat ≤ s.rtc.elapsed.toNat) && decide (trialSpan ≤ s.rtc.elapsed.toNat - b.start.toNat)))

/-- The boot pointer is read: a trial that is over falls back, and a TRIAL_START that lies ahead of the counter is set
to it (R498). -/
def State.readBoot (s : State) : State :=
  let s := (s.loadRecord 4).1
  let b := s.st.bootPtr
  if s.trialOver b then s.writeFallback b 6 (decide (b.boots.toNat < 16))
  else if b.trial ∧ s.rtc.elapsed.toNat < b.start.toNat then
    s.commitRecord 4 ({ b with start := s.rtc.elapsed }).payload
  else s

/-- The Core die leaves reset: every bridge goes link-up, and the boot ROM counts the boot, enables its oscillators and
selects the image. -/
def State.coreLeaves (s : State) : State :=
  let n : BitVec 16 := if s.rtc.bootCount = 0xFFFF#16 then 0xFFFF#16 else s.rtc.bootCount + 1#16
  let s := { s with boot.coreReset := false, rtc.bootCount := n, clk.xhfEn := true,
                    clk.xrefEn := s.clk.xrefEn || s.clk.ovenFitted }.linkAll
  let s := s.readBoot
  { s with boot.attempt := some (sourceOf s.st.bootPtr.active) }.romTakesXhf

/-- The Core die leaves reset where nothing holds it any longer. -/
def State.tryCore (s : State) : State := if s.coreMayLeave then s.coreLeaves else s

/-- DOMAIN_READY (R94, R157). -/
def execDomainReady (pd : Fin 8) (s : State) : Host.Outcome State Fault Refusal :=
  if s.pwr.change = some ⟨pd, true⟩ then .next ((s.domainOn pd.val).tryCore).nextChange else .next s

/-! ## The restore (R154, R492, R503) -/

/-- SEQ of a copy that an interrupted APPLY has written (R503). -/
def undoSeq (pre : Nat) : Nat := if pre = 0 ∨ pre = 0xFFFFFFFF then 1 else pre + 1

/-- A copy with the SEQ sought is made invalid: its ID becomes 0x0000. -/
def State.undoCopy (s : State) (id a seq : Nat) : State :=
  match s.st.copyAt id a with
  | some (q, _) =>
    if q.toNat = seq ∧ !pageProtected s.st.bp a then { s with st.array := s.st.array.write 0#8 a [0#8, 0#8] } else s
  | none => s

/-- The records of MASK return to what they were (R503). -/
def State.undoRecords (s : State) (mask : Nat) (pre : List Byte) : State :=
  (List.range 23).foldl (fun (s : State) k =>
    match mask.testBit k, recordSlots (0x300 + k) with
    | true, some (a, b) =>
      let seq := undoSeq (leAt pre (4 * k) 4)
      (s.undoCopy (0x300 + k) a seq).undoCopy (0x300 + k) b seq
    | _, _ => s) s

/-- An interrupted APPLY is undone: the session is IDLE, the code APPLY_UNDONE, and an entry is written. -/
def State.undoApply (s : State) (p : List Byte) : State :=
  let s := s.undoRecords (leAt p 0xC 4) (p.drop 0x10)
  let s := { s with upd.state := .idle, upd.code := 0x11#5 }.writeSession .idle
  s.logOpen

/-- The stored session as the record shows it. -/
def Update.takeRecord (u : Update) (p : List Byte) : Update :=
  let w : W32 := BitVec.ofNat 32 (leAt p 0 4)
  let l := leAt p 4 4
  { u with kind := field w 4 2, slot := field w 6 2, nextBlock := (field w 8 10).toNat,
           len := if l = 0 then none else some l }

/-- A stored image session is suspended, but set to IDLE where its slot is active (R491, R492). -/
def State.suspendStored (s : State) (st : UpdState) : State :=
  if s.upd.slot = s.st.bootPtr.active then { s with upd.state := .idle }.writeSession .idle
  else { s with upd.state := .suspended, upd.stored := st }

/-- The update session record at a restore. -/
def State.restoreSession (s : State) : State :=
  match s.loadRecord 5 with
  | (s, none) => s
  | (s, some p) =>
    let s := { s with upd := s.upd.takeRecord p }
    match leAt p 0 1 % 16 with
    | 2 => s.suspendStored .downloading
    | 3 => s.suspendStored .downloaded
    | 5 => s.suspendStored .verified
    | 8 => s.undoApply p
    | _ => s

/-- The restore of R154: every RWT field, the event log's newest entry, the update session. -/
def State.restoreAll (s : State) : State :=
  let s := (s.loadRecord 1).1
  let p := s.settings
  let s := s.restoreDomains p [0, 1, 2, 3, 4, 5, 6, 7]
  let log := s.st.findLog
  let s := { s with boot.restored := true, boot.defaultsUsed := usesDefaults p, st.logSeq := log.1, st.logHead := log.2 }
  s.restoreSession

/-- SETTINGS_RESTORE_COMPLETE (R154). -/
def execSettingsRestoreComplete (s : State) : Host.Outcome State Fault Refusal :=
  if s.powered 1 ∧ !s.boot.restored ∧ s.sys.state = .boot then .next s.restoreAll.tryCore else .next s

/-! ## The boot ROM's image (R160, R161) -/

def slotOf : ImageSource → Nat
  | .slotA => 0
  | .slotB => 1
  | .recovery => 2

/-- Bytes are loaded at an address of a target: an engine's program memory, or common SRAM. -/
def State.loadTarget (s : State) (t dest : Nat) (bs : List Byte) : State :=
  match engOfNum t with
  | some e => s.modEngine e fun x => { x with prog := x.prog.write 0#8 dest bs }
  | none => if t = 5 then { s with sram := s.sram.write 0#8 dest bs } else s

/-- Segment `i` of an image is streamed into its target (step 2). -/
def State.loadSegment (s : State) (slot : Nat) (h : List Byte) (i : Nat) : State :=
  let o := 0x40 + 16 * i
  s.loadTarget (leAt h o 1) (leAt h (o + 8) 4) (s.st.imageBytes slot (leAt h (o + 4) 4) (leAt h (o + 12) 4))

/-- An attempt streams its segments once its header has passed (R162): a verdict of signature or none. -/
def State.streamImage (s : State) (slot : Nat) (verdict : BitVec 5) : State :=
  if verdict = 0#5 ∨ verdict = 0x09#5 then
    let h := s.st.imageBytes slot 0 256
    (List.range (leAt h 0x1C 4)).foldl (fun s i => s.loadSegment slot h i) s
  else s

/-- Step 4: the trial boot is counted (R498). -/
def State.countTrial (s : State) : State :=
  let b := s.st.bootPtr
  if b.trial then s.commitRecord 4 ({ b with boots := b.boots + 1#8 }).payload else s

/-- The cause of the reset is logged (R152). -/
def State.logCause (s : State) : State :=
  if s.fault.code ≠ 0#8 ∧ (s.fault.reset ∨ s.fault.code = 1#8) then
    s.logFrom 6 s.fault.code.toNat (faultWord s.fault)
  else s

/-- XHF has not started by step 6: the PLL runs on RING (R159). -/
def State.romWithoutXhf (s : State) : State :=
  if s.boot.romXhf then s else { s with clk.pllEn := true }.logFrom 6 0x12A 0#32

/-- Step 6: PANEL_INT is copied into PANEL_STAT.INTERRUPTED (R548), the engines start at their entry points, and the ROM
leaves K2's map (R392). -/
def State.releaseEngines (s : State) : State :=
  let s := allEngines.foldl (fun (s : State) e =>
    let pc := s.entryPoint e
    s.modEngine e fun x => { x with pc := pc, halt := false }) s
  { s with boot.romMapped := false, boot.attempt := none, pn.interrupted := s.rtc.panelInt }

/-- A verified image: steps 4 to 6. -/
def State.bootImage (s : State) (src : ImageSource) : State :=
  let s := { s with boot.running := some src }.countTrial.restoreRods.startFlow true
  s.logCause.romWithoutXhf.releaseEngines

/-- The image that is tried after a failure (R161): the other slot where it is confirmed, then the recovery image. Where
ACTIVE names the recovery image there is no other slot, and none is tried (DESIGN CHOICE, log 66). -/
def State.nextAttempt (s : State) : Option ImageSource :=
  let b := s.st.bootPtr
  let other : BitVec 2 := if b.active = 0#2 then 1#2 else 0#2
  if b.active.toNat ≤ 1 ∧ b.confirmed other ∧ !s.boot.failed.contains (sourceOf other) then some (sourceOf other)
  else if !s.boot.failed.contains .recovery then some .recovery
  else none

/-- No image verifies: BOOT_IMAGE, and the device stays in BOOT; K2 accepts only update sessions from now on. -/
def State.bootFails (s : State) : State := { (s.logCause.faultNoReset 0x12#8 0#8).event 23 with boot.noImage := true }

/-- An attempt has failed its verification. -/
def State.attemptFailed (s : State) (src : ImageSource) : State :=
  let s := { s with boot.failed := s.boot.failed ++ [src], boot.attempt := none }
  match s.nextAttempt with
  | some n => { s with boot.attempt := some n }
  | none => s.bootFails

/-- IMAGE_VERIFY_COMPLETE. -/
def execImageVerifyComplete (s : State) : Host.Outcome State Fault Refusal :=
  match s.boot.attempt with
  | some src =>
    let v := s.imageVerdict (slotOf src)
    let s := s.streamImage (slotOf src) v
    .next (if v = 0#5 then s.bootImage src else s.attemptFailed src)
  | none => .next s

end Sys2Proof.Machine
end

