-- ==== Sys2Proof/Machine/Sleep.lean ====
section
/-! DEFINITION. WAIT and the sleep levels (R104 to R113): demotion, entry, exit, the slumber save area, and the traverse
timer's wake. -/
namespace Sys2Proof.Machine

/-! ## Demotion (R105, Table 03-12) -/

/-- Wake sources usable in NAP, and in SLUMBER (Table 03-13), the power-fail warning apart. -/
def napSources : BitVec 7 := 0x7F#7
def slumberSources : BitVec 7 := 0x57#7

/-- A page write, a program or erase, or an update session is open. -/
def State.storeOpen (s : State) : Bool :=
  !s.st.open_.isEmpty || !s.log.staged.isEmpty || s.upd.job == some UpdJob.block || s.upd.owner != 0#2

/-- A delivery or a crypto operation keeps the device awake. -/
def State.dozeOnly (s : State) : Bool :=
  s.dl.state == DelivState.running || s.dl.state == DelivState.trim || s.dl.state == DelivState.closing || s.cryptoRuns

/-- The level entered for NAP (1) or SLUMBER (2). -/
def State.demotedLevel (s : State) (level : Nat) : Nat :=
  let nap := if s.pwr.wakeEn &&& napSources = 0#7 then 0 else 1
  let anyLoaded := allEngines.any fun e => (s.engine e).loaded
  if s.dozeOnly then 0
  else if level = 1 then nap
  else if s.pwr.wakeEn &&& slumberSources = 0#7 then nap
  else if s.storeOpen || s.st.bp == 3#2 || anyLoaded then nap
  else 2

/-! ## Entry (R104, R106, R289) -/

/-- Every engine that is powered and not halted through ENGINE_CTRL stands in WAIT. -/
def State.allWait (s : State) : Bool :=
  allEngines.all fun e =>
    let x := s.engine e
    !s.powered (clusterDomain (engCluster e)) || x.halt || x.wait == some Wait.doze

/-- What SLUMBER saves of an engine (R106, R385). -/
def Engine.save (x : Engine) (tc : W64) : SavedEngine :=
  { g := x.g, pc := x.pc, z := x.z, n := x.n, c := x.c, v := x.v, q := x.q, acc := x.acc, lc := x.lc, tc := tc,
    inWait := x.wait == some Wait.doze }

/-- The saved state of every engine; tc on Surveyors. -/
def State.saveEngines (s : State) : List SavedEngine :=
  allEngines.map fun e => (s.engine e).save (if isSurveyor e then s.sv.tc else 0#64)

/-- Entry of a level starts: the traverse in progress is abandoned, and for SLUMBER the rods are committed and the
engines saved. -/
def State.startEntry (s : State) (level : Nat) : State :=
  let s := (s.abandonTraverses.stepSleeps (level == 2)).auxSleep
  if level = 2 then
    let s := s.commitRods false
    { s with pwr.saveArea := s.saveEngines, pwr.sleep := .entering true }
  else { s with pwr.sleep := .entering false }

/-- The WAIT that finds every engine waiting: the level is sampled and demoted (R104, R105). A DOZE for the whole device
ends at once where a cause is latched (R111). -/
def State.enterLevel (s : State) : State :=
  let want := s.pwr.sleepLevel.toNat
  let got := s.demotedLevel want
  let s := { s with pwr.lastLevel := BitVec.ofNat 2 got, pwr.demoted := decide (got < want) }
  if got = 0 then (if s.pwr.wakeCause = 0#8 then s else s.resumeAll) else s.startEntry got

/-- The engine stands in WAIT; at DOZE it alone halts, at the other levels the last one starts the entry. -/
def State.waitNow (s : State) (e : Eng) : State :=
  let s := s.modEngine e fun x => { x with wait := some .doze }
  if s.pwr.sleepLevel = 0#2 ∨ s.pwr.sleepLevel = 3#2 then
    { s with pwr.lastLevel := 0#2, pwr.demoted := s.pwr.sleepLevel == 3#2 }
  else if s.allWait then s.enterLevel
  else s

/-- WAIT (R104, R415): an event that a SIG has latched ends it at once. -/
def execWait (e : Eng) (s : State) : Host.Outcome State Fault Refusal :=
  s.teique e [] fun s =>
    if (s.engine e).sigEvent then s.onEngine e fun x => { x with sigEvent := false } else s.waitNow e

/-! ## The end of an entry (R106, R110, R111) -/

/-- The clocks stop: the PLL is planned to be lost (R121). -/
def State.stopPll (s : State) : State :=
  { s with clk.pllLock := false, fl.locked := false, clk.qualMet := false, clk.relocking := s.clk.pllEn }.refreshGrades

/-- PD2 to PD7 are powered down in the order of R106; PD0 and PD1 stay. -/
def State.slumberDown (s : State) : State :=
  let s := ([7, 6, 5, 4, 2, 3] : List Nat).foldl
    (fun (s : State) k => if s.pwr.on.getLsbD k then s.domainOff k else s) s
  { s with pwr.en := s.pwr.en &&& 0x03#8, pwr.change := none, pwr.changes := [] }

/-- A latched cause ends the level as soon as its entry is complete; in SLUMBER the power-fail warning is only
recorded. -/
def State.causeLatched (s : State) (slumber : Bool) : Bool :=
  (if slumber then s.pwr.wakeCause &&& 0x7F#8 else s.pwr.wakeCause) != 0#8

/-- SLEEP_ENTRY_COMPLETE (R110). -/
def execSleepEntryComplete (s : State) : Host.Outcome State Fault Refusal :=
  match s.pwr.sleep with
  | .entering sl =>
    let s := if sl then s.slumberDown else s.stopPll
    .next { s with pwr.sleep := if s.causeLatched sl then .exiting sl else .asleep sl }
  | _ => .next s

/-! ## The exit (R106, R112) -/

/-- A saved engine is restored and resumes after its WAIT. -/
def Engine.restore (x : Engine) (k : SavedEngine) : Engine :=
  let x := { x with g := k.g, pc := k.pc, z := k.z, n := k.n, c := k.c, v := k.v, q := k.q, acc := k.acc, lc := k.lc }
  if k.inWait then x.retire else x

/-- Program memories are reloaded from the running image (R392); data memories and the common SRAM stay clear. -/
def State.reloadPrograms (s : State) : State :=
  match s.boot.running with
  | some src =>
    let slot := slotOf src
    let h := s.st.imageBytes slot 0 256
    let s := (List.range (leAt h 0x1C 4)).foldl (fun s i => s.loadSegment slot h i) s
    { s with sram := [] }
  | none => s

/-- The engines take what the save area holds. -/
def State.restoreEngines (s : State) : State :=
  let s := (allEngines.zip s.pwr.saveArea).foldl (fun (s : State) p => s.modEngine p.1 fun x => x.restore p.2) s
  { s with pwr.saveArea := [] }

/-- Ledger entries that firmware saved before its WAIT are taken back; the others stay empty (R281, R283). -/
def State.reloadLedgers (s : State) : State := s.mapChords fun _ ch => ch.reload ch.saved

/-- PD3 and PD2 return, and with them the engines (R106). -/
def State.slumberUp (s : State) : State :=
  let s := { s with pwr.en := s.pwr.en ||| 0x0F#8 }
  (((s.domainOn 3).domainOn 2).reloadPrograms.restoreRods.startFlow false).reloadLedgers.restoreEngines

/-- The PLL relocks, and the engines go on after their WAIT. -/
def State.napUp (s : State) : State :=
  let lock := s.clk.relocking && s.clk.pllEn && s.clk.running s.clk.refUse
  let s := { s with clk.pllLock := lock, clk.relocking := s.clk.relocking && !lock }
  s.refreshGrades.resumeAll.releaseBridges

/-- SLEEP_EXIT_COMPLETE (R106, R112); a clock failure met on the way leads to HOLD now (R140). -/
def execSleepExitComplete (s : State) : Host.Outcome State Fault Refusal :=
  match s.pwr.sleep with
  | .exiting sl =>
    let s := { s with pwr.sleep := .awake }
    let s := if sl then s.slumberUp else s.napUp
    if s.clk.holdOnExit then
      .next (allEngines.foldl (fun s e => s.sysEventTo e) ({ s with clk.holdOnExit := false }).enterHold)
    else .next s
  | _ => .next s

/-- TRAVERSE_WAKE (R108): while the survey runs, the timer in PD0 raises its wake. -/
def execTraverseWake (s : State) : Host.Outcome State Fault Refusal :=
  if s.powered 0 ∧ s.sv.run then .next (s.wakeEvent .traverse) else .next s

end Sys2Proof.Machine
end

