-- ==== Sys2Proof/Machine/EngineStep.lean ====
section
/-! DEFINITION. ENGINE_STEP (R402): a halted engine runs the instruction that its program memory holds at pc; and
REGISTER_WRITE, after which the steps that a write of ENGINE_CTRL has asked for run. -/
namespace Sys2Proof.Machine

/-! ## Running a decoded instruction -/

/-- The meaning of a Teique instruction; of other commands, none. -/
def runTeique (i : Instr) (s : State) : Host.Outcome State Fault Refusal :=
  match i with
  | .aluAdd e d a b => execAluAdd e d a b s
  | .aluSub e d a b => execAluSub e d a b s
  | .aluAnd e d a b => execAluAnd e d a b s
  | .aluOr e d a b => execAluOr e d a b s
  | .aluXor e d a b => execAluXor e d a b s
  | .aluShl e d a b => execAluShl e d a b s
  | .aluShr e d a b => execAluShr e d a b s
  | .aluSar e d a b => execAluSar e d a b s
  | .aluMin e d a b => execAluMin e d a b s
  | .aluMax e d a b => execAluMax e d a b s
  | .aluSlt e d a b => execAluSlt e d a b s
  | .aluSltu e d a b => execAluSltu e d a b s
  | .aluAdds e d a b => execAluAdds e d a b s
  | .aluSubs e d a b => execAluSubs e d a b s
  | .mulLow e d a b => execMulLow e d a b s
  | .mulHighSigned e d a b => execMulHighSigned e d a b s
  | .mulHighUnsigned e d a b => execMulHighUnsigned e d a b s
  | .div e d a b => execDiv e d a b s
  | .divu e d a b => execDivu e d a b s
  | .rem e d a b => execRem e d a b s
  | .remu e d a b => execRemu e d a b s
  | .qmul e d a b q => execQmul e d a b q s
  | .qdiv e d a b q => execQdiv e d a b q s
  | .mac e a b => execMac e a b s
  | .msu e a b => execMsu e a b s
  | .aclr e => execAclr e s
  | .aread e d sel => execAread e d sel s
  | .funcSqrt e d a => execFuncSqrt e d a s
  | .funcLog2 e d a => execFuncLog2 e d a s
  | .funcExp2 e d a => execFuncExp2 e d a s
  | .funcRecip e d a => execFuncRecip e d a s
  | .funcClz e d a => execFuncClz e d a s
  | .ret e => execRet e s
  | .retTrap e => execRetTrap e s
  | .trap e fn => execTrap e fn s
  | .brk e => execBrk e s
  | .tally e rod a b => execTally e rod a b s
  | .tallyTest e rod a b => execTallyTest e rod a b s
  | .rodReadBinary e d a => execRodReadBinary e d a s
  | .rodReadDecimal e d a => execRodReadDecimal e d a s
  | .rodSnapshot e => execRodSnapshot e s
  | .rodCommit e => execRodCommit e s
  | .psave e d a b => execPsave e d a b s
  | .pload e d a b => execPload e d a b s
  | .wait e => execWait e s
  | .sig e dst fn => execSig e dst fn s
  | .hskSend e a dst => execHskSend e a dst s
  | .hskTrysend e d a dst => execHskTrysend e d a dst s
  | .hskRecv e d => execHskRecv e d s
  | .hskPeek e d => execHskPeek e d s
  | .hskFence e => execHskFence e s
  | .hskKick e => execHskKick e s
  | .sysRead e d idx => execSysRead e d idx s
  | .sysWrite e a idx => execSysWrite e a idx s
  | .sysReset e => execSysReset e s
  | .sysFenceRaise e a => execSysFenceRaise e a s
  | .sysFenceLower e a => execSysFenceLower e a s
  | .hinit e => execHinit e s
  | .hupd e a b => execHupd e a b s
  | .hfin e a => execHfin e a s
  | .cryptVerify e d a => execCryptVerify e d a s
  | .qsign e d a => execQsign e d a s
  | .modexp e d a => execModexp e d a s
  | .addi e d a imm => execAddi e d a imm s
  | .movi e d imm => execMovi e d imm s
  | .shi e d imm => execShi e d imm s
  | .ld64 e d a imm => execLd64 e d a imm s
  | .ld32 e d a imm => execLd32 e d a imm s
  | .st64 e d a imm => execSt64 e d a imm s
  | .st32 e d a imm => execSt32 e d a imm s
  | .beq e d a imm => execBeq e d a imm s
  | .bne e d a imm => execBne e d a imm s
  | .blt e d a imm => execBlt e d a imm s
  | .bge e d a imm => execBge e d a imm s
  | .loop e d imm => execLoop e d imm s
  | .atTime e d a imm => execAtTime e d a imm s
  | .pace e a imm => execPace e a imm s
  | .jmp e off => execJmp e off s
  | .call e off => execCall e off s
  | .fire e d a slot mod => execFire e d a slot mod s
  | .arm e d a slot mod => execArm e d a slot mod s
  | .stamp e d a slot mod => execStamp e d a slot mod s
  | .capt e d a slot mod => execCapt e d a slot mod s
  | .corr e d a slot mod => execCorr e d a slot mod s
  | .statStart e d a slot => execStatStart e d a slot s
  | .statFeed e d a slot => execStatFeed e d a slot s
  | .statRead e a slot => execStatRead e a slot s
  | .aux e d slot mod => execAux e d slot mod s
  | .laneReadg e d a slot => execLaneReadg e d a slot s
  | .laneSnap e d slot => execLaneSnap e d slot s
  | .laneCalall e d slot => execLaneCalall e d slot s
  | .laneAssign e d slot => execLaneAssign e d slot s
  | .laneFree e d slot => execLaneFree e d slot s
  | _ => .next s

/-- What an outcome leaves of the state. -/
def afterOutcome (s : State) : Host.Outcome State Fault Refusal → State
  | .next t => t
  | .fault _ => s
  | .refused _ => s

/-! ## ENGINE_STEP (R390, R402) -/

/-- The word at pc; the boot ROM's contents no rule gives. -/
def State.fetchWord (s : State) (e : Eng) : W32 :=
  let a := (s.engine e).pc.toNat
  if a < progEnd e then BitVec.ofNat 32 (leNat ((s.engine e).prog.bytes 0#8 a 4)) else (s.free 0).setWidth 32

/-- The instruction at pc, or ILLEGAL where its word spells none. -/
def State.runWord (s : State) (e : Eng) : State :=
  if !s.issues e then s
  else if !s.fetches e then s.trap e .access ((s.engine e).pc.setWidth 64)
  else
    let w := s.fetchWord e
    match decodeTeique e w with
    | some i =>
      let s := s.usedFree 1
      afterOutcome s (runTeique i s)
    | none => s.trap e .illegal (w.setWidth 64)

/-- An engine without its halts. -/
def Engine.unhalted (x : Engine) : Engine := { x with halt := false, brkHalt := false, dblHalt := false }

/-- The halts of an engine stand again, with those that the step has brought. -/
def Engine.halts (x old : Engine) : Engine :=
  { x with halt := x.halt || old.halt, brkHalt := x.brkHalt || old.brkHalt, dblHalt := x.dblHalt || old.dblHalt }

/-- One step: HALT_CAUSE shows STEP, unless the instruction was a BRK or a double trap. -/
def State.stepEngine (s : State) (e : Eng) : State :=
  let old := s.engine e
  let s := (s.modEngine e Engine.unhalted).runWord e
  if s.boot.coreReset then s
  else
    let x := s.engine e
    let s := s.modEngine e fun x => x.halts old
    if x.brkHalt || x.dblHalt then s
    else { s with er.haltCause := .step, er.haltEng := BitVec.ofNat 3 (engNum e) }

/-- A step is permitted: DEBUG_EN in OPEN, a halted engine. -/
def State.mayStep (s : State) (e : Eng) : Bool := s.er.debugEn && !s.sealed && (s.engine e).halted && s.hubServes

/-- ENGINE_STEP; in the boot ROM the word is a free value. -/
def execEngineStep (e : Eng) (s : State) : Host.Outcome State Fault Refusal :=
  if s.mayStep e then .next (s.stepEngine e) else .next s

/-- A step that a write of ENGINE_CTRL has asked for. -/
def State.stepAsked (s : State) (e : Eng) : State :=
  if s.er.stepReq.getLsbD (engNum e) then
    let s := { s with er.stepReq := s.er.stepReq &&& ~~~(1#5 <<< engNum e) }
    if s.mayStep e then s.stepEngine e else s
  else s

/-- The steps asked for, in the order of the engines' numbers. -/
def State.runSteps (s : State) : State := allEngines.foldl (fun s e => s.stepAsked e) s

/-! ## REGISTER_WRITE (R14, R621) -/

/-- REGISTER_WRITE: a write of one of the 72 registers that has reached the register block. -/
def execRegisterWrite (q : Requester) (idx : BitVec 7) (v : W32) (s : State) : Host.Outcome State Fault Refusal :=
  if 71 < idx.toNat ∨ !s.mayWriteReg q idx.toNat then .next s
  else .next (s.writeReg q idx.toNat v).runSteps

end Sys2Proof.Machine
end

