-- ==== Sys2Proof/Machine/Ports.lean ====
section
/-! DEFINITION. The host SPI port, the I²C system port and the optical port (R550 to R566). -/
namespace Sys2Proof.Machine

/-! ## The host address map (R553, Table 20-3) -/

/-- A row of the host address map. -/
inductive HostRegion where
  | regs | page | buffer | check | nonce | quote | cert
  deriving DecidableEq, Repr

/-- The row that holds a host address. -/
def hostRegion (a : Nat) : Option HostRegion :=
  if a < 0x120 then some .regs
  else if 0x1000 ≤ a ∧ a < 0x2000 then some .page
  else if 0x2000 ≤ a ∧ a < 0x3000 then some .buffer
  else if 0x3000 ≤ a ∧ a < 0x3004 then some .check
  else if 0x3100 ≤ a ∧ a < 0x3120 then some .nonce
  else if 0x3200 ≤ a ∧ a < 0x36C0 then some .quote
  else if 0x3800 ≤ a ∧ a < 0x4000 then some .cert
  else none

/-- STORE_DATA's address. -/
def storeDataAddr : Nat := 0xB0

/-- The address after one word: it stays at PROG_DATA, MAILBOX_OUT, MAILBOX_IN and STORE_DATA. -/
def nextAddr (a : Nat) : Nat := if [0x94, 0x98, 0x9C, storeDataAddr].contains a then a else a + 4

/-- The addresses of `n` words from `a` on. -/
def wordAddrs : Nat → Nat → List Nat
  | _, 0 => []
  | a, n + 1 => a :: wordAddrs (nextAddr a) n

/-- The address is a multiple of 4 of the map, and every word lies in its row. -/
def addrsOk (a n : Nat) : Bool :=
  a % 4 == 0 && (hostRegion a).isSome && (wordAddrs a n).all fun x => hostRegion x == hostRegion a

/-! ## Words of a frame -/

/-- A word of the port window, which the host sees at 0xC000 below it. -/
def State.portWord (s : State) (a : Nat) : W32 := (gather s.portByte (a + 0xC000) 4).setWidth 32

/-- A read of one word by a port (R553). -/
def State.readHost (s : State) (q : Requester) (a : Nat) : State × W32 :=
  match hostRegion a with
  | some .regs => s.readReg q (a / 4)
  | some .page => (s.hop [29], (gather s.pageByte a 4).setWidth 32)
  | some _ => (s, s.portWord a)
  | none => ((s.usedFree 1), (s.free 0).setWidth 32)

/-- Words read one after another, each at its own moment. -/
def State.readWords (s : State) (q : Requester) : List Nat → State × List W32
  | [] => (s, [])
  | a :: as =>
    let r := s.readHost q a
    let t := r.1.readWords q as
    (t.1, r.2 :: t.2)

/-- Bytes of the block buffer or of the check word. -/
def State.putBlockBytes (s : State) (off : Nat) : List Byte → State
  | [] => s
  | b :: bs => (s.putBlockByte off b).putBlockBytes (off + 1) bs

/-- A write of STORE_DATA within a frame: the frame has been judged for BUSY, and its words follow one another. -/
def State.writeStoreWord (s : State) (v : W32) : State :=
  s.onReg 44 fun s => s.writeStoreData v

/-- A write of one word by a port. -/
def State.writeHost (s : State) (q : Requester) (a : Nat) (v : W32) : State :=
  match hostRegion a with
  | some .regs => if a = storeDataAddr then s.writeStoreWord v else s.writeReg q (a / 4) v
  | some .buffer => s.putBlockBytes (a + 0xC000) (leBytes 4 v.toNat)
  | some .check => s.putBlockBytes (a + 0xC000) (leBytes 4 v.toNat)
  | some .nonce => { s with prt.win := s.prt.win.write 0#8 (a + 0xC000) (leBytes 4 v.toNat) }
  | _ => s

/-- The words act in order; after one that has reset the port, the others do not. -/
def State.writeWords (s : State) (q : Requester) : List (Nat × W32) → State
  | [] => s
  | (a, v) :: ws => if s.powered 3 then (s.writeHost q a v).writeWords q ws else s

/-! ## Status (R552, R555, Table 20-2) -/

/-- The codes of Table 20-2. -/
inductive HostCode where
  | ok | notReady | crc | addr | busy | denied | cmd
  deriving DecidableEq, Repr

def HostCode.bits : HostCode → BitVec 4
  | .ok => 0#4
  | .notReady => 1#4
  | .crc => 2#4
  | .addr => 3#4
  | .busy => 4#4
  | .denied => 5#4
  | .cmd => 6#4

/-- STATUS: CODE and WSEQ. -/
def State.statusByte (s : State) (c : HostCode) : Byte := s.prt.wseq ++ c.bits

/-- The host SPI port takes frames: PD3 powered, its fence down, VIO present (R67, R555). -/
def State.hostListens (s : State) : Bool := s.powered 3 && !s.fenced .port && !s.pwr.vioLow

/-- NOT_READY before the restore, and in NAP. -/
def State.portNotReady (s : State) : Bool := !s.boot.restored || s.pwr.sleep != SleepPhase.awake

/-- A write that a row of the map refuses. -/
def State.hostDenied (s : State) (a : Nat) : Bool :=
  match hostRegion a with
  | some .regs => false
  | some .buffer => s.upd.owner != 1#2
  | some .check => s.upd.owner != 1#2
  | some .nonce => s.upd.qBusy
  | _ => true

/-- A store access is in progress (STORE_STAT.BUSY). -/
def State.storeBusy (s : State) : Bool := s.st.rawBusy || s.st.hostSave

/-- The code of a read frame whose CRC is `crcOk`. -/
def State.readCode (s : State) (crcOk : Bool) (a n : Nat) : HostCode :=
  if s.portNotReady then .notReady
  else if !crcOk then .crc
  else if !addrsOk a n then .addr
  else if s.storeBusy ∧ (wordAddrs a n).contains storeDataAddr then .busy
  else .ok

/-- The code of a write frame; in HOLD, 0x2000 to 0x3FFF is not ready. -/
def State.writeCode (s : State) (crcOk : Bool) (a n : Nat) : HostCode :=
  let c := s.readCode crcOk a n
  if c = .notReady ∨ c = .crc then c
  else if s.sys.state = .hold ∧ 0x2000 ≤ a ∧ a < 0x4000 then .notReady
  else if c ≠ .ok then c
  else if s.hostDenied a then .denied
  else .ok

/-- VIO_LOW (R67): VIO crosses 1.50 V. While it is low every DIO input reads as its inactive level: BLANK and OVNRDY are
deasserted, ROLE reads released, and SYNC, OPT_RX and the host port are not heard. -/
def execVioLow (low : Bool) (s : State) : Host.Outcome State Fault Refusal :=
  let s := { s with pwr.vioLow := low }
  .next (if low then ((s.takeOvnrdy false).blankEnds).seeRole false else s)

/-! ## Frames (R550, R551, R553, R556) -/

/-- The fields of a frame: the kind, N, and the address. -/
def frameKind (bs : List Byte) : Nat := (bs.getD 0 0#8).toNat / 64
def frameN (bs : List Byte) : Nat := (bs.getD 0 0#8).toNat % 64 + 1
def frameAddrOf (bs : List Byte) : Nat := leNat ((bs.drop 1).take 2)

/-- The words that a list of bytes spells. -/
def frameWords : Nat → List Byte → List W32
  | 0, _ => []
  | n + 1, bs => BitVec.ofNat 32 (leNat (bs.take 4)) :: frameWords n (bs.drop 4)

/-- The CRC byte behind `k` bytes is right. -/
def crcAt (bs : List Byte) (k : Nat) : Bool := bs.getD k 0#8 == crc8 (bs.take k)

/-- A write frame acts, or does nothing but answer its STATUS. -/
def State.writeFrame (s : State) (bs : List Byte) : State :=
  let n := frameN bs
  let a := frameAddrOf bs
  let c := s.writeCode (crcAt bs (3 + 4 * n)) a n
  if c = .ok then
    let s := s.writeWords .host ((wordAddrs a n).zip (frameWords n (bs.drop 3)))
    if s.powered 3 then
      let s := { s with prt.wseq := s.prt.wseq + 1#4 }
      ({ s with prt.status := s.statusByte .ok }).runSteps
    else s
  else { s with prt.status := s.statusByte c }

/-- HOST_WRITE_FRAME: the bytes of a whole frame on SPI_MOSI. -/
def execHostWriteFrame (bytes : List Byte) (s : State) : Host.Outcome State Fault Refusal :=
  if s.hostListens ∧ frameKind bytes = 1 ∧ 6 + 4 * frameN bytes ≤ bytes.length then .next (s.writeFrame bytes)
  else .next s

/-- The data of a read that was not carried out: zero for NOT_READY, otherwise no rule gives it. -/
def State.refusedData (s : State) (c : HostCode) (n : Nat) : List Byte :=
  if c = .notReady then List.replicate (4 * n) 0#8 else (List.range (4 * n)).map fun k => (s.free k).setWidth 8

/-- The response of a read frame, kept for REPLAY. -/
def State.respond (s : State) (c : HostCode) (n : Nat) (data : List Byte) : State :=
  let st := s.statusByte c
  { s with prt.status := st, prt.lastRead := some (n, st, data) }

/-- A read frame. -/
def State.readFrame (s : State) (bs : List Byte) : State :=
  let n := frameN bs
  let a := frameAddrOf bs
  let c := s.readCode (crcAt bs 3) a n
  if c = .ok then
    let r := s.readWords .host (wordAddrs a n)
    r.1.respond .ok n (r.2.flatMap fun (w : W32) => leBytes 4 w.toNat)
  else (s.respond c n (s.refusedData c n)).usedFree (4 * n)

/-- A frame whose CMD names nothing (R551). -/
def State.badFrame (s : State) (bs : List Byte) : State :=
  let c : HostCode := if s.portNotReady then .notReady else if crcAt bs 3 then .cmd else .crc
  { s with prt.status := s.statusByte c }

/-- HOST_READ_FRAME, or a frame of the same shape whose CMD[7:6] is 0b11. -/
def execHostReadFrame (bytes : List Byte) (s : State) : Host.Outcome State Fault Refusal :=
  if !s.hostListens ∨ bytes.length < 7 + 4 * frameN bytes then .next s
  else if frameKind bytes = 0 then .next (s.readFrame bytes)
  else if frameKind bytes = 3 then .next (s.badFrame bytes)
  else .next s

/-- HOST_REPLAY_FRAME: a REPLAY with the N of the last read, which is answered again without an access. -/
def execHostReplayFrame (s : State) : Host.Outcome State Fault Refusal :=
  if !s.hostListens then .next s
  else if s.portNotReady then .next { s with prt.status := s.statusByte .notReady }
  else match s.prt.lastRead with
    | some (_, st, _) => .next { s with prt.status := st }
    | none => .next { s with prt.status := s.statusByte .cmd }

/-! ## The system port (R558 to R562) -/

/-- The device's address: 0x38 and the straps, which the matcher samples at every START (R69, R558). -/
def State.i2cOwn (s : State) (addr : BitVec 7) : Bool := addr == 0b01110#5 ++ s.addrSel

/-- The system port is ready: awake, restored, its gate open. -/
def State.i2cReady (s : State) : Bool :=
  s.powered 3 && !s.fenced .port && !s.portNotReady && s.clk.gateOpen.getLsbD 1

/-- BOOT before the restore is complete. -/
def State.inEarlyBoot (s : State) : Bool := s.sys.state == .boot && !s.boot.restored

/-- The matcher answers its address byte, and stretches or ends the transaction. -/
def State.i2cAnswer (s : State) (p : I2cPhase) : State :=
  { s with prt.i2cAck := p != .idle, prt.i2c := p, prt.i2cOut := [] }

/-- The phase that a match leads to (Table 20-5). -/
def State.i2cPhase (s : State) (read : Bool) : I2cPhase :=
  if s.inEarlyBoot then .stretching read
  else if s.pwr.sleep ≠ .awake then
    if s.pwr.wakeEn.getLsbD 2 && s.prt.i2cStretch then .stretching read else .idle
  else if s.i2cReady then (if read then .read else .write)
  else .idle

/-- I2C_ADDRESS_MATCH: PWRON in every row (R527); in BACKUP no answer and no wake. -/
def execI2cAddressMatch (addr : BitVec 7) (read : Bool) (s : State) : Host.Outcome State Fault Refusal :=
  if !s.i2cOwn addr ∨ s.boot.backupReset then .next s
  else
    let s := s.pwronEvent 2
    if s.sys.state = .backup ∨ s.sys.state = .off then .next (s.i2cAnswer .idle)
    else .next ((s.i2cAnswer (s.i2cPhase read)).wakeEvent .i2c)

/-- I2C_STRETCH_RELEASE: the port is ready, and the transfer continues. -/
def execI2cStretchRelease (s : State) : Host.Outcome State Fault Refusal :=
  match s.prt.i2c with
  | .stretching read => if s.i2cReady then .next { s with prt.i2c := if read then .read else .write } else .next s
  | _ => .next s

/-- I2C_STRETCH_TIMEOUT: the rest of the transaction is ignored. -/
def execI2cStretchTimeout (s : State) : Host.Outcome State Fault Refusal :=
  match s.prt.i2c with
  | .stretching _ => .next { s with prt.i2c := .ignoring }
  | _ => .next s

/-- The registers among which R560 lets the system port write; every other address is refused. -/
def State.i2cMayWrite (s : State) (a : Nat) : Bool := hostRegion a == some .regs && s.mayWriteReg .sysPort (a / 4)

/-- The parts of a write: address+W, ADDR, N, the data, the PEC. -/
def i2cN (bs : List Byte) : Nat := (bs.getD 3 0#8).toNat

/-- The write is well formed, its PEC is right, and every word is permitted. -/
def State.i2cWriteOk (s : State) (bs : List Byte) : Bool :=
  let n := i2cN bs
  let a := frameAddrOf bs
  decide (n ≤ 16) && bs.length == 5 + 4 * n && crcAt bs (4 + 4 * n) && addrsOk a n &&
    (wordAddrs a n).all fun x => s.i2cMayWrite x

/-- I2C_WRITE_TRANSACTION: the bytes from address+W to the PEC. They cross the Core–Keep bridge, and a link that is down
refuses them (R41, R54). -/
def execI2cWriteTransaction (bytes : List Byte) (s : State) : Host.Outcome State Fault Refusal :=
  if s.prt.i2c ≠ .write ∨ !s.i2cReady then .next s
  else if !s.br.keep.up then .next { s.bridgeRefuse .keep with prt.i2c := .idle, prt.i2cAck := false }
  else if s.i2cWriteOk bytes then
    let s := s.hop (bridgeHops .keep)
    let n := i2cN bytes
    let a := frameAddrOf bytes
    let s := { s with prt.i2c := .idle, prt.i2cAck := true, prt.i2cPtr := BitVec.ofNat 16 a }
    .next (s.writeWords .sysPort ((wordAddrs a n).zip (frameWords n (bytes.drop 4)))).runSteps
  else .next { s with prt.i2c := .idle, prt.i2cAck := false }

/-- One word at the pointer: its four bytes and the CRC over the pointer and them. -/
def i2cBytes (ptr : BitVec 16) (w : W32) : List Byte :=
  let d := leBytes 4 w.toNat
  d ++ [crc8 (leBytes 2 ptr.toNat ++ d)]

/-- The word that a read finds: STORE_DATA while a store access is in progress answers nothing that a rule gives. -/
def State.i2cWord (s : State) (a : Nat) : State × W32 :=
  if a % 4 ≠ 0 ∨ (a = storeDataAddr ∧ s.storeBusy) then (s.usedFree 1, (s.free 0).setWidth 32) else s.readHost .sysPort a

/-- I2C_READ_WORD; after a stretch that ran out, 0xFF bytes; over a link that is down, zeros (R41, R54). -/
def execI2cReadWord (s : State) : Host.Outcome State Fault Refusal :=
  match s.prt.i2c with
  | .read =>
    if s.i2cReady ∧ !s.br.keep.up then
      .next { s.bridgeRefuse .keep with prt.i2cOut := List.replicate 5 0#8 }
    else if s.i2cReady then
      let s := s.hop (bridgeHops .keep)
      let ptr := s.prt.i2cPtr
      let r := s.i2cWord ptr.toNat
      .next { r.1 with prt.i2cOut := i2cBytes ptr r.2, prt.i2cPtr := BitVec.ofNat 16 (nextAddr ptr.toNat) }
    else .next s
  | .ignoring => .next { s with prt.i2cOut := List.replicate 5 0xFF#8 }
  | _ => .next s

/-! ## The optical port (R563 to R566) -/

/-- The port runs: PD3 and XHF run, its gate is open, the device is awake (R564, R566). -/
def State.opticalRuns (s : State) : Bool :=
  s.powered 3 && !s.fenced .port && s.clk.xhfRun && s.clk.gateOpen.getLsbD 2 && s.pwr.sleep == SleepPhase.awake

/-- What the ball OPT_RX shows reaches the port: not while VIO is low (R67). -/
def State.opticalHears (s : State) : Bool := s.opticalRuns && !s.pwr.vioLow

/-- A character is being transmitted: the transmit ring is not empty. -/
def Ports.sending (p : Ports) : Bool := p.txWr != p.txRd

/-- A received character with its flags; the format of 7 data bits has a parity bit and no eighth data bit. -/
def Ports.rxEntry (p : Ports) (ch : Byte) (parity framing : Bool) : List Byte :=
  [if p.optFmt then ch else ch &&& 0x7F#8, placeB 8 0 (parity && !p.optFmt) ||| placeB 8 1 framing]

/-- A character enters the receive ring of 256 entries, or is discarded and counted. -/
def Ports.receive (p : Ports) (ch : Byte) (parity framing : Bool) : Ports :=
  if 256 ≤ (p.rxWr - p.rxRd).toNat then { p with overrun := p.overrun + 1#16 }
  else
    let off := 0xC000 + 2 * (p.rxWr.toNat % 256)
    { p with win := p.win.write 0#8 off (p.rxEntry ch parity framing), rxWr := p.rxWr + 1#12 }

/-- OPTICAL_CHAR_RECEIVED: not while the port transmits. -/
def execOpticalCharReceived (ch : Byte) (parity framing : Bool) (s : State) : Host.Outcome State Fault Refusal :=
  if s.opticalHears ∧ !s.prt.sending then .next { s with prt := s.prt.receive ch parity framing } else .next s

/-- OPTICAL_CHAR_SENT. -/
def execOpticalCharSent (s : State) : Host.Outcome State Fault Refusal :=
  if s.opticalRuns ∧ s.prt.sending then .next { s with prt.txRd := s.prt.txRd + 1#12 } else .next s

/-- An engine stands in DOZE, or the device sleeps. -/
def State.sleeping (s : State) : Bool :=
  s.pwr.sleep != SleepPhase.awake || allEngines.any fun e => (s.engine e).wait == some .doze

/-- OPTICAL_WAKE_EDGE: an enabled edge wakes, and its character is lost and counted; in SLUMBER nothing sees it. -/
def execOpticalWakeEdge (s : State) : Host.Outcome State Fault Refusal :=
  if !s.powered 3 ∨ s.pwr.vioLow then .next s
  else
    let wakes := s.sleeping && s.pwr.wakeEn.getLsbD 5
    let counts := wakes && s.clk.gateOpen.getLsbD 2 && !s.fenced .port
    let s := if counts then { s with prt.wakeLost := s.prt.wakeLost + 1#64 } else s
    .next (s.wakeEvent .optical)

end Sys2Proof.Machine
end

