-- ==== Sys2Proof/Machine/Tick.lean ====
section
/-! DEFINITION. What happens by itself while no command waits (DESIGN CHOICE, log 1): one period of the 400 MHz lane clock,
2.5 ns, passes. Everything that a rule ties to a moment is a command of its own; here the counters advance alone. -/
namespace Sys2Proof.Machine

/-- The lane clock runs whenever the VCO does, locked or not (R226, Tables 04-1, 04-2). -/
def State.laneClockRuns (s : State) : Bool := s.vcoRuns

/-- The Sense domain of a lane: a chord's, and PD4 for L20 and L21 (Tables 01-2, 08-1). -/
def laneDomain (l : Lane) : Nat := if 10 ≤ l.val ∧ l.val < 20 then 5 else 4

/-- One period of the lane clock: coarse counters (R227) and, with RUN = 1, the traverse time base (R27, R284) and the
interval (R339). -/
def State.laneTick (s : State) : State :=
  if s.laneClockRuns then
    let s := s.mapLanes fun l x => if s.powered (laneDomain l) then { x with coarse := x.coarse + 1#24 } else x
    if s.sv.run then { s with sv.timeBase := s.sv.timeBase + 1, fl.ticks := s.fl.ticks + 1 } else s
  else s

/-- The watchdog of an engine counts while the engine runs, stalls or is halted by a double trap; it pauses in WAIT and
while ENGINE_CTRL halts the engine (R406). -/
def Engine.watchdogTick (x : Engine) : Engine :=
  if x.wdEn && !x.halt && !x.brkHalt && x.wait != some Wait.doze then { x with wdCount := x.wdCount + 1 } else x

/-- What one edge of X32 adds to the sub-second counter (R512): with a positive trim it may be 2, with a negative one
0; which edges these are is open, and so a free value (log 78). -/
def State.trimStep (s : State) : Nat :=
  let odd := (s.free 0).getLsbD 0
  if s.rtc.trimNow = 0#11 then 1
  else if odd then (if s.rtc.trimNow.msb then 0 else 2)
  else 1

/-- One edge of X32: the elapsed counter (R338), the sub-second counter short of its wrap, which is RTC_SECOND's
(R508), and the watchdogs (R406). -/
def State.x32Edge (s : State) : State :=
  let r := s.rtc
  let sub := BitVec.ofNat 15 (min 32767 (r.subsec.toNat + s.trimStep))
  let s := { s with rtc := { r with elapsed := r.elapsed + 1#48, subsec := sub } }.usedFree 1
  allEngines.foldl (fun (s : State) e => s.modEngine e Engine.watchdogTick) s

/-- 2.5 ns of X32: 65,536 parts of 800,000,000 of its period. -/
def State.x32Part (s : State) : State :=
  if s.clk.x32Run then
    let p := s.rtc.phase + 65536
    if p < 800000000 then { s with rtc.phase := p } else ({ s with rtc.phase := p - 800000000 } : State).x32Edge
  else s

/-- Nothing waits: 2.5 ns pass, and steps asked for by ENGINE_CTRL run. -/
def State.idle (s : State) : State := s.laneTick.x32Part.runSteps

end Sys2Proof.Machine
end

