-- ==== Sys2Proof/Machine/Dispatch.lean ====
section
/-! DEFINITION. The dispatch: every command and its meaning. -/
namespace Sys2Proof.Machine

/-- The effect of a command on everything but the queue. -/
def exec (i : Instr) (s : State) : Host.Outcome State Fault Refusal :=
  match i with
  | .registerWrite req idx v => Sys2Proof.Machine.execRegisterWrite req idx v s
  | .bridgeTransfer br payload tag => Sys2Proof.Machine.execBridgeTransfer br payload tag s
  | .bridgeParityError br => Sys2Proof.Machine.execBridgeParityError br s
  | .bridgeLinkDown br => Sys2Proof.Machine.execBridgeLinkDown br s
  | .bridgeLinkUp br => Sys2Proof.Machine.execBridgeLinkUp br s
  | .parityError cl inProgram => Sys2Proof.Machine.execParityError cl inProgram s
  | .lockstepMismatch => Sys2Proof.Machine.execLockstepMismatch s
  | .metrologyFenceReset => Sys2Proof.Machine.execMetrologyFenceReset s
  | .watchdogExpiry e => Sys2Proof.Machine.execWatchdogExpiry e s
  | .fireCommandArrival c vdrvOk => Sys2Proof.Machine.execFireCommandArrival c vdrvOk s
  | .fireEdge c tap shadowTap lowCharge => Sys2Proof.Machine.execFireEdge c tap shadowTap lowCharge s
  | .muteEnd c => Sys2Proof.Machine.execMuteEnd c s
  | .burstEnd c => Sys2Proof.Machine.execBurstEnd c s
  | .antiPhaseEnd c => Sys2Proof.Machine.execAntiPhaseEnd c s
  | .clampEnd c => Sys2Proof.Machine.execClampEnd c s
  | .driveReachFail c => Sys2Proof.Machine.execDriveReachFail c s
  | .stopWindowOpen c delay tap shadowTap => Sys2Proof.Machine.execStopWindowOpen c delay tap shadowTap s
  | .firstWaveTrip c => Sys2Proof.Machine.execFirstWaveTrip c s
  | .zeroCrossing c falling tap shadowTap => Sys2Proof.Machine.execZeroCrossing c falling tap shadowTap s
  | .amplifierClip c => Sys2Proof.Machine.execAmplifierClip c s
  | .clampConduct clamp => Sys2Proof.Machine.execClampConduct clamp s
  | .captureEnd c samples => Sys2Proof.Machine.execCaptureEnd c samples s
  | .correlationComplete c => Sys2Proof.Machine.execCorrelationComplete c s
  | .stopWindowClose c vmax => Sys2Proof.Machine.execStopWindowClose c vmax s
  | .boostQuietLimit => Sys2Proof.Machine.execBoostQuietLimit s
  | .resultEntryDelivery south => Sys2Proof.Machine.execResultEntryDelivery south s
  | .dieTemperatureSample t => Sys2Proof.Machine.execDieTemperatureSample t s
  | .panelTemperatureSample t => Sys2Proof.Machine.execPanelTemperatureSample t s
  | .driveOvertemp => Sys2Proof.Machine.execDriveOvertemp s
  | .otClear req below130 => Sys2Proof.Machine.execOtClear req below130 s
  | .traverseBoundary ring => Sys2Proof.Machine.execTraverseBoundary ring s
  | .surveyRunWrite req run => Sys2Proof.Machine.execSurveyRunWrite req run s
  | .traverseWake => Sys2Proof.Machine.execTraverseWake s
  | .rotationStepDue => Sys2Proof.Machine.execRotationStepDue s
  | .calibrationComplete l hits => Sys2Proof.Machine.execCalibrationComplete l hits s
  | .blankAssert => Sys2Proof.Machine.execBlankAssert s
  | .blankDeassert => Sys2Proof.Machine.execBlankDeassert s
  | .deferredShotFire edges => Sys2Proof.Machine.execDeferredShotFire edges s
  | .blankMaxHold => Sys2Proof.Machine.execBlankMaxHold s
  | .blankCountRestart => Sys2Proof.Machine.execBlankCountRestart s
  | .settleSpanEnd isl => Sys2Proof.Machine.execSettleSpanEnd isl s
  | .auxConversionStart isl => Sys2Proof.Machine.execAuxConversionStart isl s
  | .auxPhaseEnd start stop => Sys2Proof.Machine.execAuxPhaseEnd start stop s
  | .dischargeTimeout => Sys2Proof.Machine.execDischargeTimeout s
  | .resistanceConversionComplete openWire => Sys2Proof.Machine.execResistanceConversionComplete openWire s
  | .bridgeConversionComplete code exFault => Sys2Proof.Machine.execBridgeConversionComplete code exFault s
  | .selfTestStart req => Sys2Proof.Machine.execSelfTestStart req s
  | .selfTestComplete fail => Sys2Proof.Machine.execSelfTestComplete fail s
  | .supplyMonitorChange vinOk vbatOk vbkOk vbatLow => Sys2Proof.Machine.execSupplyMonitorChange vinOk vbatOk vbkOk vbatLow s
  | .supplyCurrentLimit vin vbat => Sys2Proof.Machine.execSupplyCurrentLimit vin vbat s
  | .vioLow low => Sys2Proof.Machine.execVioLow low s
  | .backupPowerOnReset => Sys2Proof.Machine.execBackupPowerOnReset s
  | .brownOut => Sys2Proof.Machine.execBrownOut s
  | .diePowerOnReset die => Sys2Proof.Machine.execDiePowerOnReset die s
  | .pfailAssert => Sys2Proof.Machine.execPfailAssert s
  | .pfailDeassert => Sys2Proof.Machine.execPfailDeassert s
  | .vinReturn => Sys2Proof.Machine.execVinReturn s
  | .islandVoltWrite req v => Sys2Proof.Machine.execIslandVoltWrite req v s
  | .islandVoltSettled => Sys2Proof.Machine.execIslandVoltSettled s
  | .pwrDomainEnWrite req v => Sys2Proof.Machine.execPwrDomainEnWrite req v s
  | .domainDrainComplete pd => Sys2Proof.Machine.execDomainDrainComplete pd s
  | .domainReady pd => Sys2Proof.Machine.execDomainReady pd s
  | .devStateRequest req code => Sys2Proof.Machine.execDevStateRequest req code s
  | .wait e => Sys2Proof.Machine.execWait e s
  | .sleepEntryComplete => Sys2Proof.Machine.execSleepEntryComplete s
  | .sleepExitComplete => Sys2Proof.Machine.execSleepExitComplete s
  | .oscillatorStart src => Sys2Proof.Machine.execOscillatorStart src s
  | .pllLock => Sys2Proof.Machine.execPllLock s
  | .clkSrcWrite req v => Sys2Proof.Machine.execClkSrcWrite req v s
  | .pllCfgWrite req v => Sys2Proof.Machine.execPllCfgWrite req v s
  | .clockSwitchComplete mux oldDead => Sys2Proof.Machine.execClockSwitchComplete mux oldDead s
  | .clockSwitchAbandon mux => Sys2Proof.Machine.execClockSwitchAbandon mux s
  | .ovnrdyChange high => Sys2Proof.Machine.execOvnrdyChange high s
  | .ovenWarmQualified => Sys2Proof.Machine.execOvenWarmQualified s
  | .xhfDevMeasure count => Sys2Proof.Machine.execXhfDevMeasure count s
  | .xhfDevAgeAdvance => Sys2Proof.Machine.execXhfDevAgeAdvance s
  | .missingEdgeTrip onOutput => Sys2Proof.Machine.execMissingEdgeTrip onOutput s
  | .pllLockLoss => Sys2Proof.Machine.execPllLockLoss s
  | .clockMonitorWindow src edges => Sys2Proof.Machine.execClockMonitorWindow src edges s
  | .relockTimeout => Sys2Proof.Machine.execRelockTimeout s
  | .returnQualMet => Sys2Proof.Machine.execReturnQualMet s
  | .holdReleaseWrite req => Sys2Proof.Machine.execHoldReleaseWrite req s
  | .autoFallback => Sys2Proof.Machine.execAutoFallback s
  | .clkGateWrite req v => Sys2Proof.Machine.execClkGateWrite req v s
  | .gateForceClose bit => Sys2Proof.Machine.execGateForceClose bit s
  | .faultCauseAck req => Sys2Proof.Machine.execFaultCauseAck req s
  | .resetNAssert => Sys2Proof.Machine.execResetNAssert s
  | .resetNRelease ftest => Sys2Proof.Machine.execResetNRelease ftest s
  | .devReset req => Sys2Proof.Machine.execDevReset req s
  | .settingsRestoreComplete => Sys2Proof.Machine.execSettingsRestoreComplete s
  | .imageVerifyComplete => Sys2Proof.Machine.execImageVerifyComplete s
  | .rodRecordPeriodic => Sys2Proof.Machine.execRodRecordPeriodic s
  | .storePageComplete => Sys2Proof.Machine.execStorePageComplete s
  | .postedStoreAcknowledged e => Sys2Proof.Machine.execPostedStoreAcknowledged e s
  | .aluAdd e d a b => Sys2Proof.Machine.execAluAdd e d a b s
  | .aluSub e d a b => Sys2Proof.Machine.execAluSub e d a b s
  | .aluAnd e d a b => Sys2Proof.Machine.execAluAnd e d a b s
  | .aluOr e d a b => Sys2Proof.Machine.execAluOr e d a b s
  | .aluXor e d a b => Sys2Proof.Machine.execAluXor e d a b s
  | .aluShl e d a b => Sys2Proof.Machine.execAluShl e d a b s
  | .aluShr e d a b => Sys2Proof.Machine.execAluShr e d a b s
  | .aluSar e d a b => Sys2Proof.Machine.execAluSar e d a b s
  | .aluMin e d a b => Sys2Proof.Machine.execAluMin e d a b s
  | .aluMax e d a b => Sys2Proof.Machine.execAluMax e d a b s
  | .aluSlt e d a b => Sys2Proof.Machine.execAluSlt e d a b s
  | .aluSltu e d a b => Sys2Proof.Machine.execAluSltu e d a b s
  | .aluAdds e d a b => Sys2Proof.Machine.execAluAdds e d a b s
  | .aluSubs e d a b => Sys2Proof.Machine.execAluSubs e d a b s
  | .addi e d a imm => Sys2Proof.Machine.execAddi e d a imm s
  | .movi e d imm => Sys2Proof.Machine.execMovi e d imm s
  | .shi e d imm => Sys2Proof.Machine.execShi e d imm s
  | .mulLow e d a b => Sys2Proof.Machine.execMulLow e d a b s
  | .mulHighSigned e d a b => Sys2Proof.Machine.execMulHighSigned e d a b s
  | .mulHighUnsigned e d a b => Sys2Proof.Machine.execMulHighUnsigned e d a b s
  | .div e d a b => Sys2Proof.Machine.execDiv e d a b s
  | .divu e d a b => Sys2Proof.Machine.execDivu e d a b s
  | .rem e d a b => Sys2Proof.Machine.execRem e d a b s
  | .remu e d a b => Sys2Proof.Machine.execRemu e d a b s
  | .qmul e d a b q => Sys2Proof.Machine.execQmul e d a b q s
  | .qdiv e d a b q => Sys2Proof.Machine.execQdiv e d a b q s
  | .mac e a b => Sys2Proof.Machine.execMac e a b s
  | .msu e a b => Sys2Proof.Machine.execMsu e a b s
  | .aclr e => Sys2Proof.Machine.execAclr e s
  | .aread e d sel => Sys2Proof.Machine.execAread e d sel s
  | .funcSqrt e d a => Sys2Proof.Machine.execFuncSqrt e d a s
  | .funcLog2 e d a => Sys2Proof.Machine.execFuncLog2 e d a s
  | .funcExp2 e d a => Sys2Proof.Machine.execFuncExp2 e d a s
  | .funcRecip e d a => Sys2Proof.Machine.execFuncRecip e d a s
  | .funcClz e d a => Sys2Proof.Machine.execFuncClz e d a s
  | .ld64 e d a imm => Sys2Proof.Machine.execLd64 e d a imm s
  | .ld32 e d a imm => Sys2Proof.Machine.execLd32 e d a imm s
  | .st64 e d a imm => Sys2Proof.Machine.execSt64 e d a imm s
  | .st32 e d a imm => Sys2Proof.Machine.execSt32 e d a imm s
  | .beq e d a imm => Sys2Proof.Machine.execBeq e d a imm s
  | .bne e d a imm => Sys2Proof.Machine.execBne e d a imm s
  | .blt e d a imm => Sys2Proof.Machine.execBlt e d a imm s
  | .bge e d a imm => Sys2Proof.Machine.execBge e d a imm s
  | .jmp e off => Sys2Proof.Machine.execJmp e off s
  | .call e off => Sys2Proof.Machine.execCall e off s
  | .ret e => Sys2Proof.Machine.execRet e s
  | .retTrap e => Sys2Proof.Machine.execRetTrap e s
  | .loop e d imm => Sys2Proof.Machine.execLoop e d imm s
  | .trap e fn => Sys2Proof.Machine.execTrap e fn s
  | .brk e => Sys2Proof.Machine.execBrk e s
  | .fire e d a slot mod => Sys2Proof.Machine.execFire e d a slot mod s
  | .arm e d a slot mod => Sys2Proof.Machine.execArm e d a slot mod s
  | .stamp e d a slot mod => Sys2Proof.Machine.execStamp e d a slot mod s
  | .corr e d a slot mod => Sys2Proof.Machine.execCorr e d a slot mod s
  | .capt e d a slot mod => Sys2Proof.Machine.execCapt e d a slot mod s
  | .statStart e d a slot => Sys2Proof.Machine.execStatStart e d a slot s
  | .statFeed e d a slot => Sys2Proof.Machine.execStatFeed e d a slot s
  | .statRead e a slot => Sys2Proof.Machine.execStatRead e a slot s
  | .aux e d slot mod => Sys2Proof.Machine.execAux e d slot mod s
  | .atTime e d a imm => Sys2Proof.Machine.execAtTime e d a imm s
  | .pace e a imm => Sys2Proof.Machine.execPace e a imm s
  | .laneReadg e d a slot => Sys2Proof.Machine.execLaneReadg e d a slot s
  | .laneSnap e d slot => Sys2Proof.Machine.execLaneSnap e d slot s
  | .laneCalall e d slot => Sys2Proof.Machine.execLaneCalall e d slot s
  | .laneAssign e d slot => Sys2Proof.Machine.execLaneAssign e d slot s
  | .laneFree e d slot => Sys2Proof.Machine.execLaneFree e d slot s
  | .tally e rod a b => Sys2Proof.Machine.execTally e rod a b s
  | .tallyTest e rod a b => Sys2Proof.Machine.execTallyTest e rod a b s
  | .rodReadBinary e d a => Sys2Proof.Machine.execRodReadBinary e d a s
  | .rodReadDecimal e d a => Sys2Proof.Machine.execRodReadDecimal e d a s
  | .rodSnapshot e => Sys2Proof.Machine.execRodSnapshot e s
  | .rodCommit e => Sys2Proof.Machine.execRodCommit e s
  | .psave e d a b => Sys2Proof.Machine.execPsave e d a b s
  | .pload e d a b => Sys2Proof.Machine.execPload e d a b s
  | .sig e dst fn => Sys2Proof.Machine.execSig e dst fn s
  | .hskSend e a dst => Sys2Proof.Machine.execHskSend e a dst s
  | .hskTrysend e d a dst => Sys2Proof.Machine.execHskTrysend e d a dst s
  | .hskRecv e d => Sys2Proof.Machine.execHskRecv e d s
  | .hskPeek e d => Sys2Proof.Machine.execHskPeek e d s
  | .hskFence e => Sys2Proof.Machine.execHskFence e s
  | .hskKick e => Sys2Proof.Machine.execHskKick e s
  | .sysRead e d idx => Sys2Proof.Machine.execSysRead e d idx s
  | .sysWrite e a idx => Sys2Proof.Machine.execSysWrite e a idx s
  | .sysReset e => Sys2Proof.Machine.execSysReset e s
  | .sysFenceRaise e a => Sys2Proof.Machine.execSysFenceRaise e a s
  | .sysFenceLower e a => Sys2Proof.Machine.execSysFenceLower e a s
  | .hinit e => Sys2Proof.Machine.execHinit e s
  | .hupd e a b => Sys2Proof.Machine.execHupd e a b s
  | .hfin e a => Sys2Proof.Machine.execHfin e a s
  | .cryptVerify e d a => Sys2Proof.Machine.execCryptVerify e d a s
  | .qsign e d a => Sys2Proof.Machine.execQsign e d a s
  | .modexp e d a => Sys2Proof.Machine.execModexp e d a s
  | .cryptComplete => Sys2Proof.Machine.execCryptComplete s
  | .progDataWrite v => Sys2Proof.Machine.execProgDataWrite v s
  | .engineHalt req halt => Sys2Proof.Machine.execEngineHalt req halt s
  | .engineStep e => Sys2Proof.Machine.execEngineStep e s
  | .mailboxInWrite v => Sys2Proof.Machine.execMailboxInWrite v s
  | .mailboxOutRead => Sys2Proof.Machine.execMailboxOutRead s
  | .logStageLow req arg => Sys2Proof.Machine.execLogStageLow req arg s
  | .logStageHigh req arg => Sys2Proof.Machine.execLogStageHigh req arg s
  | .logSubmit req code => Sys2Proof.Machine.execLogSubmit req code s
  | .clrLost req => Sys2Proof.Machine.execClrLost req s
  | .storeProtectWrite req bp => Sys2Proof.Machine.execStoreProtectWrite req bp s
  | .storeDataRead req => Sys2Proof.Machine.execStoreDataRead req s
  | .storeDataWrite req v => Sys2Proof.Machine.execStoreDataWrite req v s
  | .saveSettings req => Sys2Proof.Machine.execSaveSettings req s
  | .hostSnapshot req => Sys2Proof.Machine.execHostSnapshot req s
  | .updOpen req kind resume port => Sys2Proof.Machine.execUpdOpen req kind resume port s
  | .updBlock req block port => Sys2Proof.Machine.execUpdBlock req block port s
  | .updBlockComplete readBackOk => Sys2Proof.Machine.execUpdBlockComplete readBackOk s
  | .updVerify req port => Sys2Proof.Machine.execUpdVerify req port s
  | .updVerifyComplete => Sys2Proof.Machine.execUpdVerifyComplete s
  | .updActivate req port => Sys2Proof.Machine.execUpdActivate req port s
  | .updApply req port => Sys2Proof.Machine.execUpdApply req port s
  | .updClose req port => Sys2Proof.Machine.execUpdClose req port s
  | .updAbort req port => Sys2Proof.Machine.execUpdAbort req port s
  | .updConfirm req port => Sys2Proof.Machine.execUpdConfirm req port s
  | .updIdleTimeout => Sys2Proof.Machine.execUpdIdleTimeout s
  | .trialDeadline => Sys2Proof.Machine.execTrialDeadline s
  | .qreq req => Sys2Proof.Machine.execQreq req s
  | .qready req => Sys2Proof.Machine.execQready req s
  | .certRead => Sys2Proof.Machine.execCertRead s
  | .rtcSecond => Sys2Proof.Machine.execRtcSecond s
  | .rtcTimeRead req => Sys2Proof.Machine.execRtcTimeRead req s
  | .rtcCommit req => Sys2Proof.Machine.execRtcCommit req s
  | .rtcCommitEdge => Sys2Proof.Machine.execRtcCommitEdge s
  | .x32StopDetect => Sys2Proof.Machine.execX32StopDetect s
  | .bkpWrite req sel data => Sys2Proof.Machine.execBkpWrite req sel data s
  | .pwronAssert req => Sys2Proof.Machine.execPwronAssert req s
  | .pwronRelease req coincide => Sys2Proof.Machine.execPwronRelease req coincide s
  | .panelUpdate req => Sys2Proof.Machine.execPanelUpdate req s
  | .clearRedraw req => Sys2Proof.Machine.execClearRedraw req s
  | .balance req => Sys2Proof.Machine.execBalance req s
  | .pumpOk => Sys2Proof.Machine.execPumpOk s
  | .panelFrameEnd => Sys2Proof.Machine.execPanelFrameEnd s
  | .panelDischargeEnd => Sys2Proof.Machine.execPanelDischargeEnd s
  | .shownCrcCheck => Sys2Proof.Machine.execShownCrcCheck s
  | .hostWriteFrame bytes => Sys2Proof.Machine.execHostWriteFrame bytes s
  | .hostReadFrame bytes => Sys2Proof.Machine.execHostReadFrame bytes s
  | .hostReplayFrame => Sys2Proof.Machine.execHostReplayFrame s
  | .i2cAddressMatch addr read => Sys2Proof.Machine.execI2cAddressMatch addr read s
  | .i2cStretchRelease => Sys2Proof.Machine.execI2cStretchRelease s
  | .i2cStretchTimeout => Sys2Proof.Machine.execI2cStretchTimeout s
  | .i2cWriteTransaction bytes => Sys2Proof.Machine.execI2cWriteTransaction bytes s
  | .i2cReadWord => Sys2Proof.Machine.execI2cReadWord s
  | .opticalCharReceived ch parity framing => Sys2Proof.Machine.execOpticalCharReceived ch parity framing s
  | .opticalCharSent => Sys2Proof.Machine.execOpticalCharSent s
  | .opticalWakeEdge => Sys2Proof.Machine.execOpticalWakeEdge s
  | .pulseStart k => Sys2Proof.Machine.execPulseStart k s
  | .pulseEnd k => Sys2Proof.Machine.execPulseEnd k s
  | .deliveryArm req => Sys2Proof.Machine.execDeliveryArm req s
  | .deliveryStart req => Sys2Proof.Machine.execDeliveryStart req s
  | .deliveryStop req => Sys2Proof.Machine.execDeliveryStop req s
  | .deliveryReset req => Sys2Proof.Machine.execDeliveryReset req s
  | .v1SoftStart => Sys2Proof.Machine.execV1SoftStart s
  | .runoutTimeout => Sys2Proof.Machine.execRunoutTimeout s
  | .deliveryMaxTime => Sys2Proof.Machine.execDeliveryMaxTime s
  | .valveOvercurrent v1 => Sys2Proof.Machine.execValveOvercurrent v1 s
  | .incPop e => Sys2Proof.Machine.execIncPop e s
  | .linkUp => Sys2Proof.Machine.execLinkUp s
  | .meridianRequest => Sys2Proof.Machine.execMeridianRequest s
  | .helloFrame bytes => Sys2Proof.Machine.execHelloFrame bytes s
  | .certFrame bytes => Sys2Proof.Machine.execCertFrame bytes s
  | .proofFrame bytes => Sys2Proof.Machine.execProofFrame bytes s
  | .statusFrame bytes => Sys2Proof.Machine.execStatusFrame bytes s
  | .handoverFrame bytes => Sys2Proof.Machine.execHandoverFrame bytes s
  | .detachFrame bytes => Sys2Proof.Machine.execDetachFrame bytes s
  | .serviceFrame bytes => Sys2Proof.Machine.execServiceFrame bytes s
  | .ackFrame bytes => Sys2Proof.Machine.execAckFrame bytes s
  | .meridianRetry => Sys2Proof.Machine.execMeridianRetry s
  | .linkLost => Sys2Proof.Machine.execLinkLost s
  | .pairingRetry => Sys2Proof.Machine.execPairingRetry s
  | .pairingSignatureComplete => Sys2Proof.Machine.execPairingSignatureComplete s
  | .pairingTimeout => Sys2Proof.Machine.execPairingTimeout s
  | .twinPair req => Sys2Proof.Machine.execTwinPair req s
  | .twinDetach req => Sys2Proof.Machine.execTwinDetach req s
  | .twinRelease req => Sys2Proof.Machine.execTwinRelease req s
  | .handoverAckTimeout => Sys2Proof.Machine.execHandoverAckTimeout s
  | .roleLineChange low => Sys2Proof.Machine.execRoleLineChange low s
  | .roleTakeover => Sys2Proof.Machine.execRoleTakeover s
  | .syncEdge => Sys2Proof.Machine.execSyncEdge s
  | .perturbKeyWrite req key => Sys2Proof.Machine.execPerturbKeyWrite req key s
  | .perturbTimingWrite req v => Sys2Proof.Machine.execPerturbTimingWrite req v s
  | .perturbClear req unit value => Sys2Proof.Machine.execPerturbClear req unit value s
  | .stopOffset req unit value => Sys2Proof.Machine.execStopOffset req unit value s
  | .drop req unit value => Sys2Proof.Machine.execDrop req unit value s
  | .stall req unit value => Sys2Proof.Machine.execStall req unit value s
  | .stallExpiry q => Sys2Proof.Machine.execStallExpiry q s
  | .synthDt req unit value => Sys2Proof.Machine.execSynthDt req unit value s
  | .backupResetRelease => Sys2Proof.Machine.execBackupResetRelease s
  | .traverseTimeTarget e => Sys2Proof.Machine.execTraverseTimeTarget e s
  | .trimCycle => Sys2Proof.Machine.execTrimCycle s
  | .rejoinWaitPassed => Sys2Proof.Machine.execRejoinWaitPassed s

end Sys2Proof.Machine
end

