-- ==== Sys2Proof/WellFormed.lean ====
section
/-! DEFINITION. The commands that the world outside the block can form: what the types of the operands do not say. -/
namespace Sys2Proof

/-- A frame of the Meridian link: four header bytes, a payload of at most 1024 and four bytes of CRC (R586). Whether
LEN and the CRC fit is judged by the receiver, which discards a frame that fails. -/
def merFrameOk (bytes : List Byte) : Bool := decide (8 ≤ bytes.length) && decide (bytes.length ≤ 1032)

/-- An operand outside the ranges that the spec gives it is ill-formed. -/
def Instr.wellFormed (i : Instr) : Bool :=
  match i with
  -- the 72 registers of Table 23-1
  | .registerWrite _ idx _ => decide (idx.toNat ≤ 71)
  -- a capture memory of 4096 samples (R215)
  | .captureEnd _ samples => decide (samples.length ≤ 4096)
  -- hits of the 256 taps (R237)
  | .calibrationComplete _ hits => hits.length == 256
  -- one edge for each member of a code-division group (R292)
  | .deferredShotFire edges => decide (edges.length ≤ 20)
  -- the four addresses that the straps select (R558)
  | .i2cAddressMatch addr _ => decide (0x38 ≤ addr.toNat) && decide (addr.toNat ≤ 0x3B)
  | .helloFrame bytes => merFrameOk bytes
  | .certFrame bytes => merFrameOk bytes
  | .proofFrame bytes => merFrameOk bytes
  | .statusFrame bytes => merFrameOk bytes
  | .handoverFrame bytes => merFrameOk bytes
  | .detachFrame bytes => merFrameOk bytes
  | .serviceFrame bytes => merFrameOk bytes
  | .ackFrame bytes => merFrameOk bytes
  | _ => true

end Sys2Proof
end

