-- ==== Sys2Proof/Safety.lean ====
section
/-! DEFINITION. What counts as a safe run, and the words in which the statements say what a command does and leaves
alone. -/
namespace Sys2Proof.Machine

/-! ## Completion -/

/-- The command completes: `exec` answers a next state, which `P` describes. -/
def Gives (i : Instr) (s : State) (P : State → Prop) : Prop := ∃ t, exec i s = .next t ∧ P t

/-- Every command that waits is one that the world outside can form. -/
def State.queueOk (s : State) : Prop := ∀ c ∈ s.pending, c.wellFormed = true

/-- The calendar shows a date and time that exist (R507). -/
def State.calendarOk (s : State) : Prop := calOk s.rtc.cal = true

/-- Every byte memory is in canonical form: addresses rise, and no entry equals what an unlisted byte reads as, which is
0xFF in the erased code store and 0 elsewhere. -/
def State.memoriesOk (s : State) : Prop :=
  (∀ e, (s.engine e).prog.wf 0#8 = true ∧ (s.engine e).data.wf 0#8 = true) ∧ s.sram.wf 0#8 = true ∧
    s.page.wf 0#8 = true ∧ s.rtc.bkp.wf 0#8 = true ∧ s.st.array.wf 0#8 = true ∧ s.st.code.wf 0xFF#8 = true ∧
    s.upd.buffer.wf 0#8 = true ∧ s.prt.win.wf 0#8 = true

/-! ## Instructions of an engine -/

/-- The engine issues, and its fetch finds an instruction (R392, R413, R416). -/
def Ready (s : State) (e : Eng) : Prop := s.issues e = true ∧ s.fetches e = true

/-- Ready, and every earlier store of the engine has been acknowledged (R397). -/
def Clear (s : State) (e : Eng) : Prop := Ready s e ∧ (s.engine e).stores = []

/-- g[d] holds `r`, g0 excepted, and every other general register what it held (R385). -/
def Wrote (s t : State) (e : Eng) (d : GReg) (r : W64) : Prop :=
  t.reg e d = (if d = 0#5 then 0#64 else r) ∧ ∀ k, k ≠ d → t.reg e k = s.reg e k

/-- No general register has changed. -/
def KeptRegs (s t : State) (e : Eng) : Prop := ∀ k, t.reg e k = s.reg e k

/-- The flags of an engine (R386). -/
def FlagsAre (t : State) (e : Eng) (z n c v q : Bool) : Prop :=
  (t.engine e).z = z ∧ (t.engine e).n = n ∧ (t.engine e).c = c ∧ (t.engine e).v = v ∧ (t.engine e).q = q

/-- The flags are unchanged. -/
def KeptFlags (s t : State) (e : Eng) : Prop :=
  FlagsAre t e (s.engine e).z (s.engine e).n (s.engine e).c (s.engine e).v (s.engine e).q

/-- pc and loop state go on as after any instruction that does not branch (R388). -/
def WentOn (s t : State) (e : Eng) : Prop :=
  (t.engine e).pc = (s.engine e).retire.pc ∧ (t.engine e).lc = (s.engine e).retire.lc

/-- Engine `e` alone has changed, and of it general registers, flags, acc, pc and loop state alone: every memory, every
other engine and every other register is as it was. -/
def CoreOnly (s t : State) (e : Eng) : Prop :=
  { t with eng := s.eng } = s ∧ (∀ k, k ≠ e → t.engine k = s.engine k) ∧
    { t.engine e with g := (s.engine e).g, z := (s.engine e).z, n := (s.engine e).n, c := (s.engine e).c,
                      v := (s.engine e).v, q := (s.engine e).q, acc := (s.engine e).acc, pc := (s.engine e).pc,
                      lc := (s.engine e).lc } = s.engine e

/-- g[d] takes `r`, the flags are as given, acc is unchanged, the next instruction follows, nothing else changes. -/
def Computes (s t : State) (e : Eng) (d : GReg) (r : W64) (z n c v q : Bool) : Prop :=
  Wrote s t e d r ∧ FlagsAre t e z n c v q ∧ (t.engine e).acc = (s.engine e).acc ∧ WentOn s t e ∧ CoreOnly s t e

/-- As `Computes`, with Z and N from the result and C, V and Q as they were. -/
def ComputesZN (s t : State) (e : Eng) (d : GReg) (r : W64) : Prop :=
  Computes s t e d r (r == 0#64) r.msb (s.engine e).c (s.engine e).v (s.engine e).q

/-- An exact value limited to the signed range of 64 bits (R417, R421, R422). -/
def limit64 (x : Int) : W64 := BitVec.ofInt 64 (max (-2 ^ 63) (min (2 ^ 63 - 1) x))

/-- The exact value lies outside that range, so that it is limited. -/
def limited64 (x : Int) : Bool := decide (x < -2 ^ 63) || decide (2 ^ 63 - 1 < x)

/-- As `Computes`, for an exact result that is limited: Z and N from what g[d] takes, Q set where it was limited. -/
def ComputesLimited (s t : State) (e : Eng) (d : GReg) (x : Int) (c v : Bool) : Prop :=
  Computes s t e d (limit64 x) (limit64 x == 0#64) (limit64 x).msb c v ((s.engine e).q || limited64 x)

/-- A jump to `p` that writes no register and no flag; the loop state is as `jump` leaves it (R388). -/
def JumpsTo (s t : State) (e : Eng) (p : W32) : Prop :=
  (t.engine e).pc = p ∧ (t.engine e).lc = ((s.engine e).jump p).lc ∧ KeptRegs s t e ∧ KeptFlags s t e ∧
    (t.engine e).acc = (s.engine e).acc ∧ CoreOnly s t e

/-- The trap of R403 is taken: the frame at the top of data memory, IN_TRAP, pc = 0x10; registers, flags and loop state
stay, and nothing outside the engine changes. -/
def Traps (s t : State) (e : Eng) (c : TrapCause) (tval : W64) : Prop :=
  (t.engine e).inTrap = true ∧ (t.engine e).pc = 0x10#32 ∧ KeptRegs s t e ∧ KeptFlags s t e ∧
    (t.engine e).data.word64 0#8 (frameAddr e) = (s.engine e).pc.setWidth 64 ∧
    (t.engine e).data.word64 0#8 (frameAddr e + 8) = BitVec.ofNat 64 (trapCode c) ∧
    (t.engine e).data.word64 0#8 (frameAddr e + 16) = tval ∧
    (t.engine e).data.word64 0#8 (frameAddr e + 24) = (s.engine e).flagBits ∧
    (∀ a, a < frameAddr e ∨ frameAddr e + 32 ≤ a → (t.engine e).data.get 0#8 a = (s.engine e).data.get 0#8 a) ∧
    (t.engine e).acc = (s.engine e).acc ∧ (t.engine e).lc = (s.engine e).lc ∧
    { t with eng := s.eng } = s ∧ ∀ k, k ≠ e → t.engine k = s.engine k

/-- Engine `e` alone has changed. -/
def OnlyEngine (s t : State) (e : Eng) : Prop := { t with eng := s.eng } = s ∧ ∀ k, k ≠ e → t.engine k = s.engine k

/-- g[d] takes `r`, the next instruction follows, flags and everything else stay. -/
def Receives (s t : State) (e : Eng) (d : GReg) (r : W64) : Prop :=
  Computes s t e d r (s.engine e).z (s.engine e).n (s.engine e).c (s.engine e).v (s.engine e).q

/-- The next instruction follows and nothing else changes. -/
def Completes (s t : State) (e : Eng) : Prop :=
  KeptRegs s t e ∧ KeptFlags s t e ∧ (t.engine e).acc = (s.engine e).acc ∧ WentOn s t e ∧ CoreOnly s t e

/-- A store joins the engine's buffer behind the others, the next instruction follows, and nothing else changes: no
memory yet (R414). -/
def Posts (s t : State) (e : Eng) (st : StoreTarget) : Prop :=
  (t.engine e).stores = (s.engine e).stores ++ [st] ∧ WentOn s t e ∧
    { t.engine e with stores := (s.engine e).stores, pc := (s.engine e).pc, lc := (s.engine e).lc } = s.engine e ∧
    OnlyEngine s t e

/-- The engine waits at its instruction, and nothing else changes. -/
def Waits (s t : State) (e : Eng) (w : Wait) : Prop := t = s.modEngine e fun x => { x with wait := some w }

/-! ## Register accesses -/

/-- A requester that may write register `idx` (`may`) reaches it: the register answers, and its bridge, where one lies
between, carries the transfer, which leaves `u` (R32, R37, R40, R141, R399). -/
def Reaches (s : State) (may : Bool) (idx : Nat) (u : State) : Prop :=
  may = true ∧ s.regAnswers idx = true ∧ s.regCross idx = (u, true)

/-- What the command does to register `idx` is `P`, said of the state `u` in which it reaches the register. Where the
requester may not write the register or the register does not answer, the command leaves everything as it was; where
the link is down, it is refused as any transfer over that bridge (R32, R37, R41, R399). -/
def Writes (i : Instr) (s : State) (may : Bool) (idx : Nat) (P : State → State → Prop) : Prop :=
  (∀ u, Reaches s may idx u → Gives i s (P u)) ∧
    (may = false ∨ s.regAnswers idx = false → Gives i s (fun t => t = s)) ∧
    (∀ u, may = true → s.regAnswers idx = true → s.regCross idx = (u, false) → Gives i s (fun t => t = u))

/-! ## Faults, safe state and resets -/

/-- The cause is latched (R149, R150): the latch of `t` holds it with its unit, the current limits and MORE, unless in
`s` a reset acts whose cause stands no lower in Table 05-2, which is then kept. -/
def Latched (s t : State) (code unit : Byte) (reset vin vbat : Bool) : Prop :=
  (s.resetActs = true → s.fault.code ≤ code → t.fault = s.fault) ∧
    (s.resetActs = false ∨ code < s.fault.code → t.fault =
      { code := code, unit := unit, vinIlim := vin, vbatIlim := vbat, reset := reset, more := s.fault.code != 0#8 })

/-- A cause without reset is latched, and an entry that holds the latch is staged; nothing else changes (R150, R152). -/
def FaultLogged (s t : State) (code unit : Byte) : Prop :=
  Latched s t code unit false false false ∧ t = { s with fault := t.fault }.logHw code.toNat (faultWord t.fault)

/-- The delivery takes abort reason `r` (R579): RUNNING and TRIM abort, CLOSING does except for reasons 2, 3 and 5, any
other state stays. -/
def DeliveryAborted (s t : State) (r : Nat) : Prop :=
  (s.dl.state = .running ∨ s.dl.state = .trim →
    t.dl = { s.dl with v1 := false, v2 := false, state := .aborted, reason := BitVec.ofNat 4 r, quiet := 0 }) ∧
  (s.dl.state = .closing → r ≠ 2 → r ≠ 3 → r ≠ 5 →
    t.dl = { s.dl with v1 := false, v2 := false, state := .aborted, reason := BitVec.ofNat 4 r }) ∧
  (s.dl.state = .closing → r = 2 ∨ r = 3 ∨ r = 5 → t.dl = s.dl) ∧
  (s.dl.state ≠ .running → s.dl.state ≠ .trim → s.dl.state ≠ .closing → t.dl = s.dl)

/-- The metrology fence rises for cause `f`: the cause is latched as one that resets, the device waits for the reset,
and where the fence was down the Abacus freezes and a delivery aborts with reason 3, logged where it aborts (R34, R147,
R579). Nothing else changes. -/
def MetrologyFenced (s t : State) (code unit : Byte) (f : Fence → Fence) : Prop :=
  Latched s t code unit true false false ∧ t.boot = { s.boot with fenceReset := true } ∧
    t.fences = s.fences.set (clusterIdx .metrology) (f (s.fence .metrology)) ∧
    (s.fenced .metrology = true → t = { s with fault := t.fault, boot := t.boot, fences := t.fences }) ∧
    (s.fenced .metrology = false → t.ab = { s.ab with frozen := true } ∧ DeliveryAborted s t 3 ∧
      { t with fault := s.fault, boot := s.boot, fences := s.fences, ab := s.ab, dl := s.dl, log := s.log,
               freeCtr := s.freeCtr } = s)

/-- The safe state of R136 after a failure of the measurement reference: damp-force, valves off, every measuring cluster
fenced by its clock, no lock, the engines' clock on its way to RING, the fault latched with no reset, EVENT_FLAGS bit 2,
the traverses in progress abandoned; awake, HOLD with the state left and DOZE ended in every powered engine; in a sleep
entry or exit, HOLD at the end of it (R140). -/
def SafeState (s t : State) (code : Byte) : Prop :=
  t = s.measurementFailure code ∧ t.clk.damp = true ∧ t.clk.pllLock = false ∧ t.clk.engPll = false ∧
    (s.clk.engPll = true → t.clk.engBusy = true) ∧ t.dl.v1 = false ∧ t.dl.v2 = false ∧
    (∀ cl ∈ measuringClusters, (t.fence cl).clock = true) ∧ Latched s t code 0#8 false false false ∧
    (∀ x ∈ t.sv.traverses, x.abandoned = true) ∧ (s.powered 3 = true → t.sys.eventFlags.getLsbD 2 = true) ∧
    (s.pwr.sleep = .awake → t.sys.state = .hold ∧
      t.sys.left = (if s.sys.state = .hold then s.sys.left else s.sys.state) ∧
      ∀ e, s.powered (clusterDomain (engCluster e)) = true → (t.engine e).wait ≠ some .doze) ∧
    (s.pwr.sleep ≠ .awake → t.clk.holdOnExit = true ∧ t.sys.state = s.sys.state ∧ t.sys.left = s.sys.left) ∧
    t.keys = s.keys ∧ t.ab = s.ab ∧ t.st = s.st ∧ t.sram = s.sram ∧ t.rtc = s.rtc

/-- From `s`, PD1 to PD7 are reset and unpowered, and BOOT begins, with PD1 first to come up, where a source is selected,
no reset acts and FTEST is low; otherwise the device is in BACKUP. The fault latch, the calendar, the elapsed counter, the
backup registers, the keys and the arrays of the store stay (R62, R82, R157, Tables 05-1 and 05-3). -/
def BootsAgain (s t : State) : Prop :=
  t = s.resetIslands.startBoot ∧ t.eng = Engines.reset ∧ t.er = EngineRegs.reset ∧ t.ab = Abacus.cleared ∧
    t.sv = { Survey.reset with sleepCount := s.sv.sleepCount } ∧ t.chords = Vector.replicate 20 ChordSt.reset ∧
    t.lanes = Vector.replicate 22 LaneSt.reset ∧ t.out = Outputs.reset ∧ t.dl = Delivery.reset ∧ t.sram = [] ∧
    t.page = [] ∧ t.pt = Perturb.reset ∧ t.log = EventLog.reset ∧ t.pwr.ready = 1#8 ∧ t.boot.coreReset = true ∧
    t.boot.keepReset = true ∧ t.boot.senseReset = true ∧ t.boot.driveReset = true ∧ t.boot.fenceReset = false ∧
    t.fault = s.fault ∧ t.keys = s.keys ∧ t.rtc.cal = s.rtc.cal ∧ t.rtc.elapsed = s.rtc.elapsed ∧
    t.rtc.bkp = s.rtc.bkp ∧ t.st.array = s.st.array ∧ t.st.rodA = s.st.rodA ∧ t.st.rodB = s.st.rodB ∧
    t.pwr.source = selectSource false s.pwr.vinOk s.pwr.vbatOk ∧
    (if s.boot.pinLow || s.boot.backupReset || s.boot.ftest || t.pwr.source == .none then
      t.sys.state = .backup ∧ t.pwr.change = none
     else t.sys.state = .boot ∧ t.pwr.change = some ⟨1, true⟩ ∧
      t.pwr.changes = [⟨3, true⟩, ⟨2, true⟩, ⟨4, true⟩, ⟨6, true⟩])

/-- A reset by command or by RESET_N (R145): from `s`, in which its cause is latched, the page in flight is finished, the
rods of a powered and loaded Abacus that is not frozen are committed to a rod record where STORE_PROTECT permits, and
the device resets and boots again. -/
def CommitsAndBoots (s t : State) : Prop :=
  let u := (if s.powered 1 then s.kick.finishPage else s).commitRods false
  BootsAgain u t ∧ t.fault = s.fault ∧ t.keys = s.keys ∧ t.rtc.cal = s.rtc.cal ∧ t.rtc.elapsed = s.rtc.elapsed ∧
    t.rtc.bkp = s.rtc.bkp ∧ u.boot = s.boot ∧ u.pwr = s.pwr ∧
    (s.powered 2 = true → s.boot.rodsLoaded = true → s.ab.frozen = false → s.st.bp ≠ 3#2 → s.st.bpWait = false →
      (t.st.rodA.any fun r => r.rods == s.ab.closed) = true ∨ (t.st.rodB.any fun r => r.rods == s.ab.closed) = true)

/-- The wake source with bit `k` of WAKE_EN has an event (R109, R110, R112): not enabled, it does nothing. Enabled, it is
latched; awake, the engines in DOZE resume after their WAIT; a sleep level is left; an entry or an exit goes on. -/
def Woken (u t : State) (k : Nat) : Prop :=
  let v := { u with pwr.wakeCause := u.pwr.wakeCause ||| (1#8 <<< k) }
  (u.pwr.wakeEn.getLsbD k = false → t = u) ∧
    (u.pwr.wakeEn.getLsbD k = true →
      (u.pwr.sleep = .awake → { t with eng := u.eng } = v ∧
        ∀ e, t.engine e = if (u.engine e).wait = some .doze then (u.engine e).done else u.engine e) ∧
      (∀ sl, u.pwr.sleep = .asleep sl → t = { v with pwr.sleep := .exiting sl }) ∧
      (u.pwr.sleep ≠ .awake → (∀ sl, u.pwr.sleep ≠ .asleep sl) → t = v))

/-- A device that holds ROLE releases it (R583, R593, R597): SYNC stops, a twin with EN is CHECK; where it becomes so, a
delivery aborts with reason 4 and the LEGAL outputs are held at zero (R572, R582). -/
def Released (u t : State) : Prop :=
  let turns := u.tw.en = true ∧ u.tw.role ≠ .check
  t.tw = { u.tw with holds := false, syncDrive := false, releasing := false, role := if u.tw.en then .check else .solo } ∧
    { t with tw := u.tw, dl := u.dl, out := u.out, log := u.log, freeCtr := u.freeCtr } = u ∧
    (turns → DeliveryAborted u t 4 ∧ ∀ j : Fin 4, (t.out.po[j]) = if u.out.legal.getLsbD j.val then
      { u.out.po[j] with acc := 0#64, pend := 0#32, active := false } else u.out.po[j]) ∧
    (¬turns → t.dl = u.dl ∧ { t.out with aoHeld := u.out.aoHeld } = u.out)

/-! ## The store controller -/

/-- Nothing is being written, nothing waits, no warning holds writes, nothing is protected, and the way to the store
controller is open. -/
def StoreIdle (s : State) : Prop :=
  s.keepCut = false ∧ s.st.flight = none ∧ s.st.waiting = [] ∧ s.log.staged = [] ∧ s.st.pfw = false ∧ s.st.bp = 0#2

/-- A request of this kind and payload is in flight, and of `s` only the store controller and the model's own count of free values have
moved. -/
def Writing (s t : State) (k : StoreKind) (payload : List Byte) : Prop :=
  (∃ r, t.st.flight = some r ∧ r.kind = k ∧ r.payload = payload) ∧ t.st.waiting = [] ∧ { t with st := s.st, freeCtr := s.freeCtr } = s

/-! ## Result entries -/

/-- The entries of a chord's sheet that are in its Sense result queue, and behind them those that the chord still holds. -/
def State.resultsOf (s : State) (c : Chord) : List Entry :=
  (if 10 ≤ c.val then s.sv.queueS else s.sv.queueN) ++ (s.chord c).unsent

/-- An entry of chord `c` joins behind the others, and nothing but result queues and chords changes (R47, R48). -/
def Queued (s t : State) (c : Chord) (en : Entry) : Prop :=
  t.resultsOf c = s.resultsOf c ++ [en] ∧ (∀ k, k ≠ c → t.chord k = s.chord k) ∧
    { t with chords := s.chords, sv.queueN := s.sv.queueN, sv.queueS := s.sv.queueS } = s

/-! ## Event flags -/

/-- EVENT_FLAGS bit `k` is set where the hub is powered, with its event-log entry; of `u` nothing else has changed (R620,
R623). -/
def Raised (u t : State) (k : Nat) : Prop :=
  (u.powered 3 = true → t.sys.eventFlags = u.sys.eventFlags ||| (1#24 <<< k)) ∧
    { t with sys.eventFlags := u.sys.eventFlags, log := u.log, freeCtr := u.freeCtr } = u

end Sys2Proof.Machine
end

