-- ==== Sys2Proof/Certificates/Slice0/Obligations.lean ====
section
/-! DEFINITION. The statements about the model. -/

open Sys2Proof Sys2Proof.Machine

/-- ADD, SUB, ADDS and SUBS complete with the sum or difference, the flags of Table 15-2, and nothing else changed. On a
ready engine, for all registers d, a, b (g0 among them): ADD and SUB write the result modulo 2^64, ADDS and SUBS the
exact result limited to the signed range, with Q set where it is limited; Z and N follow the result, C is the carry
or the borrow, V the signed overflow of the unsaturated result. The next instruction follows and nothing else
changes. -/
def Obligations.AluSumsAndDifferences : Prop :=
  ∀ (s : State) (e : Eng) (d a b : GReg), Ready s e →
    Gives (.aluAdd e d a b) s (fun t =>
      Computes s t e d (s.reg e a + s.reg e b) (s.reg e a + s.reg e b == 0#64) (s.reg e a + s.reg e b).msb
        (decide (2 ^ 64 ≤ (s.reg e a).toNat + (s.reg e b).toNat))
        (decide ((s.reg e a + s.reg e b).toInt ≠ (s.reg e a).toInt + (s.reg e b).toInt)) (s.engine e).q) ∧
    Gives (.aluSub e d a b) s (fun t =>
      Computes s t e d (s.reg e a - s.reg e b) (s.reg e a - s.reg e b == 0#64) (s.reg e a - s.reg e b).msb
        (decide ((s.reg e a).toNat < (s.reg e b).toNat))
        (decide ((s.reg e a - s.reg e b).toInt ≠ (s.reg e a).toInt - (s.reg e b).toInt)) (s.engine e).q) ∧
    Gives (.aluAdds e d a b) s (fun t =>
      ComputesLimited s t e d ((s.reg e a).toInt + (s.reg e b).toInt)
        (decide (2 ^ 64 ≤ (s.reg e a).toNat + (s.reg e b).toNat))
        (decide ((s.reg e a + s.reg e b).toInt ≠ (s.reg e a).toInt + (s.reg e b).toInt))) ∧
    Gives (.aluSubs e d a b) s (fun t =>
      ComputesLimited s t e d ((s.reg e a).toInt - (s.reg e b).toInt)
        (decide ((s.reg e a).toNat < (s.reg e b).toNat))
        (decide ((s.reg e a - s.reg e b).toInt ≠ (s.reg e a).toInt - (s.reg e b).toInt)))

/-- AND, OR, XOR, SHL, SHR and SAR complete bit by bit, with Z and N from the result and nothing else changed. On a
ready engine the six operations write, for every bit position, the bit that Table 15-2 gives (a shift amount is
g[b][5:0]; SHL and SHR fill with zero, SAR with the sign); Z and N follow the result, C, V and Q stay, the next
instruction follows and nothing else changes. -/
def Obligations.AluLogicAndShifts : Prop :=
  ∀ (s : State) (e : Eng) (d a b : GReg), Ready s e →
    Gives (.aluAnd e d a b) s (fun t => ∃ r, ComputesZN s t e d r ∧
      ∀ i, i < 64 → r.getLsbD i = ((s.reg e a).getLsbD i && (s.reg e b).getLsbD i)) ∧
    Gives (.aluOr e d a b) s (fun t => ∃ r, ComputesZN s t e d r ∧
      ∀ i, i < 64 → r.getLsbD i = ((s.reg e a).getLsbD i || (s.reg e b).getLsbD i)) ∧
    Gives (.aluXor e d a b) s (fun t => ∃ r, ComputesZN s t e d r ∧
      ∀ i, i < 64 → r.getLsbD i = ((s.reg e a).getLsbD i != (s.reg e b).getLsbD i)) ∧
    Gives (.aluShl e d a b) s (fun t => ∃ r, ComputesZN s t e d r ∧
      ∀ i, i < 64 → r.getLsbD i =
        (decide ((s.reg e b).toNat % 64 ≤ i) && (s.reg e a).getLsbD (i - (s.reg e b).toNat % 64))) ∧
    Gives (.aluShr e d a b) s (fun t => ∃ r, ComputesZN s t e d r ∧
      ∀ i, i < 64 → r.getLsbD i = (s.reg e a).getLsbD (i + (s.reg e b).toNat % 64)) ∧
    Gives (.aluSar e d a b) s (fun t => ∃ r, ComputesZN s t e d r ∧
      ∀ i, i < 64 → r.getLsbD i =
        (if i + (s.reg e b).toNat % 64 < 64 then (s.reg e a).getLsbD (i + (s.reg e b).toNat % 64)
         else (s.reg e a).getLsbD 63))

/-- MIN, MAX, SLT, SLTU, CLZ, ADDI, MOVI and SHI complete with their results and flags. On a ready engine MIN and MAX
write the signed minimum and maximum, SLT and SLTU 1 or 0 by the signed and the unsigned order, CLZ the number of
leading zeros, each with Z and N from the result; ADDI adds the sign-extended immediate and sets C and V as ADD,
MOVI writes it, SHI shifts g[d] left by 16 and puts the immediate below, these three leaving Z and N. Nothing else
changes. -/
def Obligations.AluComparisonsAndImmediates : Prop :=
  ∀ (s : State) (e : Eng) (d a b : GReg) (imm : BitVec 16), Ready s e →
    Gives (.aluMin e d a b) s (fun t =>
      ∃ r : W64, r.toInt = min (s.reg e a).toInt (s.reg e b).toInt ∧ ComputesZN s t e d r) ∧
    Gives (.aluMax e d a b) s (fun t =>
      ∃ r : W64, r.toInt = max (s.reg e a).toInt (s.reg e b).toInt ∧ ComputesZN s t e d r) ∧
    Gives (.aluSlt e d a b) s (fun t =>
      ComputesZN s t e d (if (s.reg e a).toInt < (s.reg e b).toInt then 1#64 else 0#64)) ∧
    Gives (.aluSltu e d a b) s (fun t =>
      ComputesZN s t e d (if (s.reg e a).toNat < (s.reg e b).toNat then 1#64 else 0#64)) ∧
    Gives (.funcClz e d a) s (fun t => ∃ r : W64, ComputesZN s t e d r ∧ r.toNat ≤ 64 ∧
      (∀ i, i < r.toNat → (s.reg e a).getLsbD (63 - i) = false) ∧
      (r.toNat < 64 → (s.reg e a).getLsbD (63 - r.toNat) = true)) ∧
    Gives (.addi e d a imm) s (fun t =>
      Computes s t e d (s.reg e a + imm.signExtend 64) (s.engine e).z (s.engine e).n
        (decide (2 ^ 64 ≤ (s.reg e a).toNat + (imm.signExtend 64).toNat))
        (decide ((s.reg e a + imm.signExtend 64).toInt ≠ (s.reg e a).toInt + imm.toInt)) (s.engine e).q) ∧
    Gives (.movi e d imm) s (fun t => ∃ r : W64, r.toInt = imm.toInt ∧
      Computes s t e d r (s.engine e).z (s.engine e).n (s.engine e).c (s.engine e).v (s.engine e).q) ∧
    Gives (.shi e d imm) s (fun t => ∃ r : W64, r.toNat = (s.reg e d).toNat * 2 ^ 16 % 2 ^ 64 + imm.toNat ∧
      Computes s t e d r (s.engine e).z (s.engine e).n (s.engine e).c (s.engine e).v (s.engine e).q)

/-- MUL and DIV complete with products, quotients and remainders; a zero divisor traps DIV_ZERO. On a ready engine the
three forms of MUL write bits [63:0] of the product and bits [127:64] of the signed and the unsigned product; with a
divisor that is not zero, DIV truncates toward zero (−2^63 by −1 gives −2^63), DIVU, REM with the sign of g[a] and
REMU write theirs, all with Z and N from the result and nothing else changed. With a zero divisor the four forms
trap DIV_ZERO with tval 0, on an engine that is not in a trap. -/
def Obligations.MultiplyAndDivide : Prop :=
  ∀ (s : State) (e : Eng) (d a b : GReg), Ready s e →
    Gives (.mulLow e d a b) s (fun t =>
      ∃ r : W64, r.toNat = (s.reg e a).toNat * (s.reg e b).toNat % 2 ^ 64 ∧ ComputesZN s t e d r) ∧
    Gives (.mulHighSigned e d a b) s (fun t =>
      ∃ r : W64, r.toInt = (s.reg e a).toInt * (s.reg e b).toInt / 2 ^ 64 ∧ ComputesZN s t e d r) ∧
    Gives (.mulHighUnsigned e d a b) s (fun t =>
      ∃ r : W64, r.toNat = (s.reg e a).toNat * (s.reg e b).toNat / 2 ^ 64 ∧ ComputesZN s t e d r) ∧
    (s.reg e b ≠ 0#64 →
      Gives (.div e d a b) s (fun t => ComputesZN s t e d ((s.reg e a).sdiv (s.reg e b))) ∧
      Gives (.divu e d a b) s (fun t => ComputesZN s t e d (s.reg e a / s.reg e b)) ∧
      Gives (.rem e d a b) s (fun t => ComputesZN s t e d ((s.reg e a).srem (s.reg e b))) ∧
      Gives (.remu e d a b) s (fun t => ComputesZN s t e d (s.reg e a % s.reg e b))) ∧
    (s.reg e b = 0#64 → (s.engine e).inTrap = false →
      Gives (.div e d a b) s (fun t => Traps s t e .divZero 0#64) ∧
      Gives (.divu e d a b) s (fun t => Traps s t e .divZero 0#64) ∧
      Gives (.rem e d a b) s (fun t => Traps s t e .divZero 0#64) ∧
      Gives (.remu e d a b) s (fun t => Traps s t e .divZero 0#64))

/-- QMUL, QDIV, RECIP and SQRT complete with their exact results, LOG2 and EXP2 within their accuracy about powers of
two. On a ready engine: QMUL with q ≤ 127 writes floor(p / 2^q), QDIV with q ≤ 64 and a divisor not zero the
truncated quotient, RECIP of x not zero the truncated 2^64 / x, each limited to 64 bits with Q where limited; SQRT
writes the root rounded down. LOG2 of 0 writes −2^63 and sets Q; LOG2 of x with 2^k ≤ x < 2^(k+1), in quanta, lies
within 2^-31 of [k − 32, k − 31], and within 2^-31 of k − 32 where x = 2^k. EXP2 of 32 and more writes 2^64 − 1 and
sets Q, below −32 it writes 0, and of a whole number n − 32 it lies within the larger of 2 quanta and 2^-40 of the
result 2^n. LOG2 and EXP2 set Z and N from their result, and nothing else changes but the model's own count of free
values (log 24). -/
def Obligations.FixedPointFunctions : Prop :=
  ∀ (s : State) (e : Eng) (d a b : GReg) (q : BitVec 11) (n : Fin 64), Ready s e →
    (q.toNat ≤ 127 → Gives (.qmul e d a b q) s (fun t =>
      ComputesLimited s t e d ((s.reg e a).toInt * (s.reg e b).toInt / 2 ^ q.toNat) (s.engine e).c (s.engine e).v)) ∧
    (q.toNat ≤ 64 → s.reg e b ≠ 0#64 → Gives (.qdiv e d a b q) s (fun t =>
      ComputesLimited s t e d (((s.reg e a).toInt * 2 ^ q.toNat).tdiv (s.reg e b).toInt)
        (s.engine e).c (s.engine e).v)) ∧
    (s.reg e a ≠ 0#64 → Gives (.funcRecip e d a) s (fun t =>
      ComputesLimited s t e d ((2 ^ 64 : Int).tdiv (s.reg e a).toInt) (s.engine e).c (s.engine e).v)) ∧
    Gives (.funcSqrt e d a) s (fun t => ∃ r : W64, ComputesZN s t e d r ∧
      r.toNat * r.toNat ≤ (s.reg e a).toNat * 2 ^ 32 ∧
      (s.reg e a).toNat * 2 ^ 32 < (r.toNat + 1) * (r.toNat + 1)) ∧
    Gives (.funcLog2 e d a) s (fun t => ∃ r : W64,
      Computes s { t with freeCtr := s.freeCtr } e d r (r == 0#64) r.msb (s.engine e).c (s.engine e).v
        ((s.engine e).q || s.reg e a == 0#64) ∧ (s.reg e a = 0#64 → r.toInt = -2 ^ 63) ∧
      (s.reg e a ≠ 0#64 →
        let k : Int := (s.reg e a).toNat.log2
        (k - 32) * 2 ^ 32 - 2 ≤ r.toInt ∧ r.toInt ≤ (k - 31) * 2 ^ 32 + 2 ∧
        ((s.reg e a).toNat = 2 ^ (s.reg e a).toNat.log2 → r.toInt ≤ (k - 32) * 2 ^ 32 + 2))) ∧
    Gives (.funcExp2 e d a) s (fun t => ∃ r : W64,
      Computes s { t with freeCtr := s.freeCtr } e d r (r == 0#64) r.msb (s.engine e).c (s.engine e).v
        ((s.engine e).q || decide (32 * 2 ^ 32 ≤ (s.reg e a).toInt)) ∧
      (32 * 2 ^ 32 ≤ (s.reg e a).toInt → r = BitVec.allOnes 64) ∧
      ((s.reg e a).toInt < -(32 * 2 ^ 32) → r = 0#64) ∧
      ((s.reg e a).toInt = ((n.val : Int) - 32) * 2 ^ 32 → ((r.toNat : Int) - 2 ^ n.val).natAbs ≤ max 2 (2 ^ n.val / 2 ^ 40)))

/-- MAC and MSU add or subtract the exact signed product; beyond 128 bits acc saturates and Q is set. On a ready engine,
acc being read as a signed 128-bit value: MAC and MSU leave in acc the exact sum or difference of acc and the signed
64 × 64-bit product, limited to the 128-bit range, and set Q where the exact value lies outside it; no general
register and no other flag changes, and the next instruction follows. -/
def Obligations.AccumulatorSaturates : Prop :=
  ∀ (s : State) (e : Eng) (a b : GReg), Ready s e →
    let p := (s.reg e a).toInt * (s.reg e b).toInt
    let after := fun (t : State) (x : Int) =>
      (t.engine e).acc.toInt = max (-2 ^ 127) (min (2 ^ 127 - 1) x) ∧
      FlagsAre t e (s.engine e).z (s.engine e).n (s.engine e).c (s.engine e).v
        ((s.engine e).q || decide (x < -2 ^ 127) || decide (2 ^ 127 - 1 < x)) ∧
      KeptRegs s t e ∧ WentOn s t e ∧ CoreOnly s t e
    Gives (.mac e a b) s (fun t => after t ((s.engine e).acc.toInt + p)) ∧
    Gives (.msu e a b) s (fun t => after t ((s.engine e).acc.toInt - p))

/-- ACLR clears acc and Q; AREAD returns either half of acc or the flags. On a ready engine ACLR sets acc and Q to zero
and changes nothing else; AREAD writes acc[63:0], acc[127:64] or the flags in bits [4:0] in the order Z, N, C, V, Q
for the selector 0, 1 or 2, with Z and N from what it writes; a selector from 3 on traps ILLEGAL with the
instruction word as tval, on an engine that is not in a trap. -/
def Obligations.AccumulatorClearedAndRead : Prop :=
  ∀ (s : State) (e : Eng) (d : GReg) (sel : BitVec 5), Ready s e →
    Gives (.aclr e) s (fun t => (t.engine e).acc = 0#128 ∧
      FlagsAre t e (s.engine e).z (s.engine e).n (s.engine e).c (s.engine e).v false ∧
      KeptRegs s t e ∧ WentOn s t e ∧ CoreOnly s t e) ∧
    Gives (.aread e d 0#5) s (fun t => ComputesZN s t e d ((s.engine e).acc.setWidth 64)) ∧
    Gives (.aread e d 1#5) s (fun t => ComputesZN s t e d (((s.engine e).acc >>> 64).setWidth 64)) ∧
    Gives (.aread e d 2#5) s (fun t => ∃ r : W64, ComputesZN s t e d r ∧ r.toNat < 32 ∧
      r.getLsbD 0 = (s.engine e).z ∧ r.getLsbD 1 = (s.engine e).n ∧ r.getLsbD 2 = (s.engine e).c ∧
      r.getLsbD 3 = (s.engine e).v ∧ r.getLsbD 4 = (s.engine e).q) ∧
    (3 ≤ sel.toNat → (s.engine e).inTrap = false →
      Gives (.aread e d sel) s (fun t =>
        Traps s t e .illegal ((formA 9#6 d 0#5 sel 3#11).setWidth 64)))

/-- BEQ, BNE, BLT and BGE branch on their condition to pc + 4 × imm16; JMP, CALL and RET go to their targets. On a ready
engine each branch goes to pc + 4 × imm16 (sign-extended) where its condition on g[d] and g[a] holds and to the next
instruction where it does not, writing no register and no flag. JMP goes to pc + 4 × off26; CALL writes pc + 4 to
g31, goes there and leaves the loop state; RET goes to g31 with its low two bits cleared and leaves the loop state. -/
def Obligations.BranchesAndJumps : Prop :=
  ∀ (s : State) (e : Eng) (d a : GReg) (imm : BitVec 16) (off : BitVec 26), Ready s e →
    let near := (s.engine e).pc + BitVec.ofInt 32 (4 * imm.toInt)
    let far := (s.engine e).pc + BitVec.ofInt 32 (4 * off.toInt)
    let goes := fun (c : Bool) (t : State) =>
      (c = true → JumpsTo s t e near) ∧
      (c = false → WentOn s t e ∧ KeptRegs s t e ∧ KeptFlags s t e ∧ (t.engine e).acc = (s.engine e).acc ∧
        CoreOnly s t e)
    Gives (.beq e d a imm) s (goes (decide (s.reg e d = s.reg e a))) ∧
    Gives (.bne e d a imm) s (goes (decide (s.reg e d ≠ s.reg e a))) ∧
    Gives (.blt e d a imm) s (goes (decide ((s.reg e d).toInt < (s.reg e a).toInt))) ∧
    Gives (.bge e d a imm) s (goes (decide ((s.reg e a).toInt ≤ (s.reg e d).toInt))) ∧
    Gives (.jmp e off) s (fun t => JumpsTo s t e far) ∧
    Gives (.call e off) s (fun t => (t.engine e).pc = far ∧
      Wrote s t e 31#5 (((s.engine e).pc + 4#32).setWidth 64) ∧ KeptFlags s t e ∧
      (t.engine e).lc = (s.engine e).lc ∧ (t.engine e).acc = (s.engine e).acc ∧ CoreOnly s t e) ∧
    Gives (.ret e) s (fun t => (t.engine e).pc.toNat = (s.reg e 31#5).toNat % 2 ^ 32 / 4 * 4 ∧
      KeptRegs s t e ∧ KeptFlags s t e ∧ (t.engine e).lc = (s.engine e).lc ∧
      (t.engine e).acc = (s.engine e).acc ∧ CoreOnly s t e)

/-- LOOP opens a level, TRAP and BRK trap or halt, RET fn 1 restores pc and flags from the trap frame. On a ready
engine: LOOP with a body and a count from 1 to 2^32 − 1 and at least one inactive level makes the inner level the
outer one and opens an inner level with that count, the word after the LOOP as START and imm16 as LEN; TRAP outside
a trap takes the trap SOFT with tval fn; BRK halts the engine with HALT_CAUSE BRK where DEBUG_EN is set in OPEN, and
otherwise traps BRK; RET fn 1 inside a trap restores flags and pc from the frame and clears IN_TRAP. -/
def Obligations.LoopsTrapsAndReturns : Prop :=
  ∀ (s : State) (e : Eng) (d : GReg) (imm : BitVec 16) (fn : BitVec 11), Ready s e →
    (imm ≠ 0#16 → s.reg e d ≠ 0#64 → (s.reg e d).toNat < 2 ^ 32 →
      (lvLen (s.engine e).inner = 0 ∨ lvLen (s.engine e).outer = 0) →
      Gives (.loop e d imm) s (fun t =>
        (t.engine e).outer = (s.engine e).inner ∧ lvCount (t.engine e).inner = (s.reg e d).toNat ∧
        lvStart (t.engine e).inner = ((s.engine e).pc.toNat / 4 + 1) % 2 ^ 16 ∧
        lvLen (t.engine e).inner = imm.toNat ∧ (t.engine e).pc = (s.engine e).pc + 4#32 ∧
        KeptRegs s t e ∧ KeptFlags s t e ∧ (t.engine e).acc = (s.engine e).acc ∧ CoreOnly s t e)) ∧
    ((s.engine e).inTrap = false → Gives (.trap e fn) s (fun t => Traps s t e .soft (fn.setWidth 64))) ∧
    (s.er.debugEn = true → s.keys.owner = none →
      Gives (.brk e) s (fun t => (t.engine e).brkHalt = true ∧ t.er.haltCause = .brk ∧
        t.er.haltEng = BitVec.ofNat 3 (engNum e) ∧ KeptRegs s t e ∧ KeptFlags s t e ∧
        (∀ k, k ≠ e → t.engine k = s.engine k) ∧ { t with eng := s.eng, er := s.er } = s)) ∧
    ((s.er.debugEn = false ∨ s.keys.owner.isSome = true) → (s.engine e).inTrap = false →
      Gives (.brk e) s (fun t => Traps s t e .brk 0#64)) ∧
    ((s.engine e).inTrap = true →
      Gives (.retTrap e) s (fun t =>
        (t.engine e).pc.toNat = ((s.engine e).data.word64 0#8 (frameAddr e)).toNat % 2 ^ 32 / 4 * 4 ∧
        (∃ f : W64, f = (s.engine e).data.word64 0#8 (frameAddr e + 24) ∧
          FlagsAre t e (f.getLsbD 0) (f.getLsbD 1) (f.getLsbD 2) (f.getLsbD 3) (f.getLsbD 4)) ∧
        (t.engine e).inTrap = false ∧ KeptRegs s t e ∧ (t.engine e).acc = (s.engine e).acc ∧
        (t.engine e).lc = (s.engine e).lc ∧ (t.engine e).data = (s.engine e).data ∧
        (∀ k, k ≠ e → t.engine k = s.engine k) ∧ { t with eng := s.eng } = s))

/-- LD64 and LD32 complete with the value that lies at g[a] + imm16, little-endian; ALIGN and ACCESS trap. On a ready
engine whose earlier stores are acknowledged: a load of an aligned address that the engine may read writes what the
target holds to g[d], leaves the flags, and the next instruction follows; nothing changes but what reading that
target does (a chord or port hop count, INC_POP). From the engine's own data memory byte i of the value is the byte
at the address plus i, and LD32 fills with zero. An address that is not a multiple of the size traps ALIGN, one that
the engine does not reach ACCESS, with the address as tval. -/
def Obligations.LoadsFromEveryTarget : Prop :=
  ∀ (s : State) (e : Eng) (d a : GReg) (imm : BitVec 16), Clear s e →
    let addr := (s.engine e).address a imm
    (∀ p, placeOf e addr.toNat = some p → addr.toNat < 2 ^ 32 →
      (addr.toNat % 8 = 0 → mayLoad 8 p = true →
        Gives (.ld64 e d a imm) s (fun t => Receives (s.readPlace e 8 p).1 t e d (s.readPlace e 8 p).2)) ∧
      (addr.toNat % 4 = 0 → mayLoad 4 p = true →
        Gives (.ld32 e d a imm) s (fun t => Receives (s.readPlace e 4 p).1 t e d (s.readPlace e 4 p).2))) ∧
    (addr.toNat < dataSize e →
      (addr.toNat % 8 = 0 → Gives (.ld64 e d a imm) s (fun t => ∃ r : W64, Receives s t e d r ∧
        ∀ i, i < 8 → field r (8 * i) 8 = (s.engine e).data.get 0#8 (addr.toNat + i))) ∧
      (addr.toNat % 4 = 0 → Gives (.ld32 e d a imm) s (fun t => ∃ r : W64, Receives s t e d r ∧ r.toNat < 2 ^ 32 ∧
        ∀ i, i < 4 → field r (8 * i) 8 = (s.engine e).data.get 0#8 (addr.toNat + i)))) ∧
    ((s.engine e).inTrap = false →
      (addr.toNat % 8 ≠ 0 → Gives (.ld64 e d a imm) s (fun t => Traps s t e .align addr)) ∧
      (addr.toNat % 4 ≠ 0 → Gives (.ld32 e d a imm) s (fun t => Traps s t e .align addr)) ∧
      (addr.toNat % 8 = 0 → reaches e addr (mayLoad 8) = false →
        Gives (.ld64 e d a imm) s (fun t => Traps s t e .access addr)) ∧
      (addr.toNat % 4 = 0 → reaches e addr (mayLoad 4) = false →
        Gives (.ld32 e d a imm) s (fun t => Traps s t e .access addr)))

/-- ST64 and ST32 join the store buffer of eight and complete; no memory changes until the store is acknowledged. On a
ready engine an aligned store to a target that it may write posts its address and value behind the earlier stores,
and the next instruction follows; nothing else changes. Where eight stores are outstanding the oldest drains first,
and a store into the output and delivery window issues behind all earlier ones. A misaligned address traps ALIGN and
a target that the engine may not write ACCESS, with the address as tval. -/
def Obligations.StoresArePosted : Prop :=
  ∀ (s : State) (e : Eng) (d a : GReg) (imm : BitVec 16),
    let addr := (s.engine e).address a imm
    let s0 := s.beforeStore e addr.toNat
    let s1 := if 8 ≤ (s0.engine e).stores.length then s0.drainOne e else s0
    Ready s0 e →
    (addr.toNat % 8 = 0 → reaches e addr (s0.mayStore e 8) = true → s1.issues e = true →
      Gives (.st64 e d a imm) s (fun t => Posts s1 t e (.word64 addr.toNat (s.reg e d)))) ∧
    (addr.toNat % 4 = 0 → reaches e addr (s0.mayStore e 4) = true → s1.issues e = true →
      Gives (.st32 e d a imm) s (fun t => Posts s1 t e (.word32 addr.toNat ((s.reg e d).setWidth 32)))) ∧
    (inOutWindow e addr.toNat = false → (s.engine e).stores.length < 8 → s1 = s) ∧
    ((s0.engine e).inTrap = false →
      (addr.toNat % 8 ≠ 0 → Gives (.st64 e d a imm) s (fun t => Traps s0 t e .align addr)) ∧
      (addr.toNat % 4 ≠ 0 → Gives (.st32 e d a imm) s (fun t => Traps s0 t e .align addr)) ∧
      (addr.toNat % 8 = 0 → reaches e addr (s0.mayStore e 8) = false →
        Gives (.st64 e d a imm) s (fun t => Traps s0 t e .access addr)) ∧
      (addr.toNat % 4 = 0 → reaches e addr (s0.mayStore e 4) = false →
        Gives (.st32 e d a imm) s (fun t => Traps s0 t e .access addr)))

/-- POSTED_STORE_ACKNOWLEDGED writes the oldest store to its target, little-endian, and lets what waits for it go on.
For an engine that waits for nothing: a store into its own data memory writes the four or eight bytes of the value
from the address upwards and no other byte of that memory; one into another target has the effect of storeAt there,
and a register store that of a write of the register. The store leaves the buffer, and a clock gate that waited for
it may close; nothing else changes. A FENCE ends when the last store is acknowledged and the hub serves; with no
store outstanding and no wait nothing changes. -/
def Obligations.StoreReachesItsTarget : Prop :=
  ∀ (s : State) (e : Eng) (k : Nat) (v : W64) (w : W32) (idx : BitVec 7) (rest : List StoreTarget),
    let popped := s.modEngine e fun x => { x with stores := rest }
    let landed := fun (n : Nat) (x : W64) (t : State) =>
      (∀ i, i < n → (t.engine e).data.get 0#8 (k + i) = field x (8 * i) 8) ∧
      (∀ b, b < k ∨ k + n ≤ b → (t.engine e).data.get 0#8 b = (s.engine e).data.get 0#8 b) ∧
      (t.engine e).stores = rest ∧
      { t.engine e with data := (s.engine e).data, stores := (s.engine e).stores } = s.engine e ∧
      OnlyEngine s { t with clk.gateOpen := s.clk.gateOpen } e ∧
      (∀ j, t.clk.gateOpen.getLsbD j = true → s.clk.gateOpen.getLsbD j = true ∨ s.clk.gateReg.getLsbD j = true) ∧
      (s.clk.gateOpen = s.clk.gateReg → t.clk.gateOpen = s.clk.gateOpen)
    ((s.engine e).wait = none → k < dataSize e →
      ((s.engine e).stores = .word64 k v :: rest → Gives (.postedStoreAcknowledged e) s (landed 8 v)) ∧
      ((s.engine e).stores = .word32 k w :: rest →
        Gives (.postedStoreAcknowledged e) s (landed 4 (w.setWidth 64)))) ∧
    (∀ r, r = popped.storeAt e k 8 v → (s.engine e).stores = .word64 k v :: rest → (r.engine e).wait = none →
      Gives (.postedStoreAcknowledged e) s (fun t => t = r.settleGates)) ∧
    (∀ r, r = popped.storeAt e k 4 (w.setWidth 64) → (s.engine e).stores = .word32 k w :: rest → (r.engine e).wait = none →
      Gives (.postedStoreAcknowledged e) s (fun t => t = r.settleGates)) ∧
    (∀ r, r = popped.writeReg (.eng e) idx.toNat w → (s.engine e).stores = .reg idx w :: rest → (r.engine e).wait = none →
      Gives (.postedStoreAcknowledged e) s (fun t => t = r.settleGates)) ∧
    ((s.engine e).wait = some .fence → k < dataSize e → (s.engine e).stores = [.word64 k v] → s.hubServes = true →
      Gives (.postedStoreAcknowledged e) s (fun t => (t.engine e).wait = none ∧ (t.engine e).stores = [] ∧
        (t.engine e).pc = (s.engine e).retire.pc ∧ (t.engine e).lc = (s.engine e).retire.lc ∧ KeptRegs s t e ∧
        KeptFlags s t e ∧ (t.engine e).data = (s.engine e).data.setWord64 0#8 k v ∧
        OnlyEngine s { t with clk.gateOpen := s.clk.gateOpen } e)) ∧
    ((s.engine e).wait = none → (s.engine e).stores = [] → Gives (.postedStoreAcknowledged e) s (fun t => t = s))

/-- SYS READ and SYS WRITE read and post to the registers; K3, host registers and indices above 71 trap. On a ready
engine other than K3: SYS READ, once earlier stores are acknowledged, writes the register zero-extended to g[d] with
what the read itself does, and SYS WRITE of a register that the engine may write posts the low 32 bits of g[a]. From
K3 both trap PRIV with the instruction word; an index above 71 and the registers that belong to the host trap ACCESS
with 4 × index. SCRATCH reads as it stands with nothing else changed. -/
def Obligations.SystemRegisterAccess : Prop :=
  ∀ (s : State) (e : Eng) (d a : GReg) (idx : BitVec 7), Clear s e →
    (e ≠ .k3 → idx.toNat ≤ 71 → hostOnly idx.toNat = false →
      Gives (.sysRead e d idx) s (fun t =>
        Receives (s.readReg (.eng e) idx.toNat).1 t e d ((s.readReg (.eng e) idx.toNat).2.setWidth 64)) ∧
      ((e = .k2 → s.sealed = true → sealedWrite idx.toNat = true) → idx ≠ 45#7 →
        Gives (.sysWrite e a idx) s (fun t => Posts s t e (.reg idx ((s.reg e a).setWidth 32))))) ∧
    (e ≠ .k3 → s.blockVoltage e 45#7 ((s.reg e a).setWidth 32) = false →
      Gives (.sysWrite e a 45#7) s (fun t => Posts s t e (.reg 45#7 ((s.reg e a).setWidth 32)))) ∧
    (e ≠ .k3 → s.powered 3 = true → s.fenced .port = false →
      Gives (.sysRead e d 7#7) s (fun t => Receives s t e d (s.sys.scratch.setWidth 64))) ∧
    ((s.engine e).inTrap = false → e = .k3 →
      Gives (.sysRead e d idx) s (fun t => Traps s t e .priv (wordOf (.sysRead e d idx))) ∧
      Gives (.sysWrite e a idx) s (fun t => Traps s t e .priv (wordOf (.sysWrite e a idx)))) ∧
    ((s.engine e).inTrap = false → e ≠ .k3 → (e = .k2 → s.sealed = false) → (71 < idx.toNat ∨ hostOnly idx.toNat = true) →
      Gives (.sysRead e d idx) s (fun t => Traps s t e .access (BitVec.ofNat 64 (4 * idx.toNat))) ∧
      Gives (.sysWrite e a idx) s (fun t => Traps s t e .access (BitVec.ofNat 64 (4 * idx.toNat))))

/-- SYS raises and lowers the fence of a chord, of the spare lane and of the auxiliary cluster, and of no other. On a
ready engine other than K3, and other than K2 in SEALED, with g[a] the number of a chord, 20 for the spare lane or
21 for the auxiliary cluster: raising sets the cause SYS of that fence and lowering clears it, no other fence
changes, and the next instruction follows. A fence that another cause holds stays up, and then nothing else changes.
A number from 22 on traps ACCESS. -/
def Obligations.FencesBySystem : Prop :=
  ∀ (s : State) (e : Eng) (a : GReg) (cl : Cluster), Ready s e → e ≠ .k3 → (e = .k2 → s.sealed = false) →
    (sysCluster (s.reg e a).toNat = some cl →
      Gives (.sysFenceRaise e a) s (fun t => Completes (s.raiseFence cl (setSys true)) t e ∧
        (s.fenced cl = true → Completes (s.modFence cl (setSys true)) t e)) ∧
      Gives (.sysFenceLower e a) s (fun t => Completes (s.lowerFence cl (setSys false)) t e ∧
        t.fence cl = { s.fence cl with sys := false } ∧ (∀ k, k ≠ cl → t.fence k = s.fence k) ∧
        (({ s.fence cl with sys := false } : Fence).isUp = true →
          Completes (s.modFence cl (setSys false)) t e))) ∧
    (22 ≤ (s.reg e a).toNat → (s.engine e).inTrap = false →
      Gives (.sysFenceRaise e a) s (fun t => Traps s t e .access (s.reg e a)) ∧
      Gives (.sysFenceLower e a) s (fun t => Traps s t e .access (s.reg e a)))

/-- SEND, TRYSEND, RECV, PEEK, FENCE and KICK complete while the hub serves; full and empty queues make them wait. On a
ready engine whose stores are acknowledged, while the handshake unit serves: SEND and TRYSEND append payload and
sender to another engine's queue that has room (TRYSEND answers 1, and 0 with no effect from a full queue; SEND then
waits); RECV takes the oldest entry, and waits on an empty queue; PEEK writes it with Z for an empty queue; FENCE is
complete; KICK restarts the watchdog count. To the host they append the low 32 bits to MAILBOX_OUT, with
EVENT_FLAGS.MAILBOX where it was empty; a system event ends RECV with all ones. Nothing else changes but the
transfer count of Table 23-65. -/
def Obligations.HandshakeInstructions : Prop :=
  ∀ (s : State) (e rcv : Eng) (d a : GReg) (dst : BitVec 5), Clear s e → s.hubServes = true →
    let s1 := s.modEngine rcv fun x => { x with inbox := x.inbox ++ [entryWord (engNum e) (s.reg e a)] }
    let out := { s with er.mailboxOut := s.er.mailboxOut ++ [field (s.reg e a) 0 32], er.mboEmpty := false }
    let outE := if s.er.mailboxOut.isEmpty then out.event 18 else out
    (rcv ≠ e → engOfNum dst.toNat = some rcv → s.queueHasRoom rcv = true → (s.engine rcv).wait = none →
      Gives (.hskSend e a dst) s (fun t => Completes (s1.hop [26]) t e) ∧
      Gives (.hskTrysend e d a dst) s (fun t => Receives (s1.hop [26]) t e d 1#64)) ∧
    (rcv ≠ e → engOfNum dst.toNat = some rcv → s.queueHasRoom rcv = false →
      Gives (.hskSend e a dst) s (fun t => Waits s t e (.sendFull (s.reg e a) dst)) ∧
      Gives (.hskTrysend e d a dst) s (fun t => Receives s t e d 0#64)) ∧
    (s.er.mailboxOut.length < 4 →
      Gives (.hskSend e a 7#5) s (fun t => Completes (outE.hop [26]) t e) ∧
      Gives (.hskTrysend e d a 7#5) s (fun t => Receives (outE.hop [26]) t e d 1#64)) ∧
    (4 ≤ s.er.mailboxOut.length →
      Gives (.hskSend e a 7#5) s (fun t => Waits s t e (.sendFull (s.reg e a) 7#5)) ∧
      Gives (.hskTrysend e d a 7#5) s (fun t => Receives s t e d 0#64)) ∧
    ((s.engine e).sysEvent = false → (∀ k p q, (s.engine k).wait ≠ some (.sendFull p q)) →
      (∀ w rest, (s.engine e).inbox = w :: rest →
        Gives (.hskRecv e d) s (fun t => Receives (s.modEngine e fun x => { x with inbox := rest }) t e d w)) ∧
      ((s.engine e).inbox = [] → Gives (.hskRecv e d) s (fun t => Waits s t e (.recv d)))) ∧
    ((s.engine e).sysEvent = true → Gives (.hskRecv e d) s (fun t =>
      Receives (s.modEngine e fun x => { x with sysEvent := false }) t e d (BitVec.allOnes 64))) ∧
    Gives (.hskPeek e d) s (fun t => Computes s t e d ((s.engine e).inbox.headD 0#64) (s.engine e).inbox.isEmpty
      (s.engine e).n (s.engine e).c (s.engine e).v (s.engine e).q) ∧
    Gives (.hskFence e) s (fun t => Completes s t e) ∧
    Gives (.hskKick e) s (fun t => Completes (s.modEngine e fun x => { x with wdCount := 0 }) t e)

/-- SIG latches an event for another engine or wakes its DOZE, sets FW_EVENT for the host, and nothing for the engine
itself. On a ready engine whose stores are acknowledged, while the handshake unit serves: SIG with fn 0 to another
engine latches an event there, and an engine that stands in DOZE goes on after its WAIT instead; to the engine
itself it does nothing; SIG to the host with fn 0 to 3 sets the FW_EVENT bit 19 + fn of EVENT_FLAGS. The next
instruction follows and nothing else changes. A number that Table 14-1 does not assign traps ACCESS, fn outside its
range ILLEGAL. -/
def Obligations.SignalsBetweenEngines : Prop :=
  ∀ (s : State) (e rcv : Eng) (dst : BitVec 5) (fn : BitVec 11), Clear s e → s.hubServes = true →
    (rcv ≠ e → engOfNum dst.toNat = some rcv → (s.engine rcv).wait ≠ some .doze →
      Gives (.sig e dst 0#11) s (fun t => Completes (s.modEngine rcv fun x => { x with sigEvent := true }) t e)) ∧
    (rcv ≠ e → engOfNum dst.toNat = some rcv → (s.engine rcv).wait = some .doze →
      Gives (.sig e dst 0#11) s (fun t => Completes (s.modEngine rcv Engine.done) t e)) ∧
    (engOfNum dst.toNat = some e → Gives (.sig e dst 0#11) s (fun t => Completes s t e)) ∧
    (fn.toNat < 4 → Gives (.sig e 7#5 fn) s (fun t =>
      Completes { s with sys.eventFlags := s.sys.eventFlags ||| (1#24 <<< (19 + fn.toNat)) } t e)) ∧
    ((s.engine e).inTrap = false →
      (4 < dst.toNat → dst ≠ 7#5 → Gives (.sig e dst 0#11) s (fun t => Traps s t e .access (dst.setWidth 64))) ∧
      (dst ≠ 7#5 → fn ≠ 0#11 → Gives (.sig e dst fn) s (fun t => Traps s t e .illegal (wordOf (.sig e dst fn)))) ∧
      (4 ≤ fn.toNat → Gives (.sig e 7#5 fn) s (fun t => Traps s t e .illegal (wordOf (.sig e 7#5 fn)))))

/-- MAILBOX_IN_WRITE, MAILBOX_OUT_READ and INC_POP move one entry of their queues, and answer zero or a free value from
an empty one. While the handshake unit serves, a value written to MAILBOX_IN joins K2's queue with sender 7, or is
dropped with MBI_OVF where that queue is full; a read of MAILBOX_OUT returns and removes its oldest entry with
MBO_EMPTY as the queue then stands, and zero from an empty one. INC_POP by K0-K1 or K3 returns and removes the
oldest increment; from an empty queue no rule states the value (log 45). The word read stands in the model's own
readOut; nothing else changes. -/
def Obligations.HostMailboxAndIncrements : Prop :=
  ∀ (s : State) (e : Eng) (v : W32),
    (s.hubServes = true → s.queueHasRoom .k2 = true → (s.engine .k2).wait = none →
      Gives (.mailboxInWrite v) s (fun t => t = (s.modEngine .k2 fun x =>
        { x with inbox := x.inbox ++ [entryWord 7 (v.setWidth 64)] }).hop [26])) ∧
    (s.hubServes = true → s.queueHasRoom .k2 = false →
      Gives (.mailboxInWrite v) s (fun t => t = { s with er.mbiOvf := true })) ∧
    (s.hubServes = true → s.er.mailboxOut = [] →
      Gives .mailboxOutRead s (fun t => t = { s with er.mboEmpty := true, readOut := 0#64 })) ∧
    (∀ w rest, s.hubServes = true → s.er.mailboxOut = w :: rest →
      (∀ k p q, (s.engine k).wait ≠ some (.sendFull p q)) →
      Gives .mailboxOutRead s (fun t =>
        t = { s with er.mailboxOut := rest, er.mboEmpty := rest.isEmpty, readOut := w.setWidth 64 })) ∧
    (∀ x rest, (e = .k01 ∨ e = .k3) → s.powered 3 = true → s.fenced .customer = false →
      (s.dl.incs = x :: rest → Gives (.incPop e) s (fun t => t = { s with dl.incs := rest, readOut := x })) ∧
      (s.dl.incs = [] → Gives (.incPop e) s (fun t => { t with readOut := s.readOut, freeCtr := s.freeCtr } = s))) ∧
    (e ≠ .k01 → e ≠ .k3 → Gives (.incPop e) s (fun t => t = s))

/-- REGISTER_WRITE, PROG_DATA_WRITE and ENGINE_HALT complete with the effect of the register, word or HALT bits they
write. A register write that may be made and reaches its register has the effect of that register's fields, after
which the steps that a write of ENGINE_CTRL asks for run; it leaves everything where it may not be made, where the
index is above 71 or where the register does not answer (but RUN takes its write in PD0 where PD2 is off), and is
refused by a link that is down. With no step asked for: SCRATCH, EVENT_MASK, PANEL_CRC and WAKE_EN take their
fields; EVENT_FLAGS, WAKE_CAUSE and AUX_CLAMP lose the bits written as 1; STORE_ADDR, CHORD_EN and HOLD_CFG take
theirs; a read-only register takes nothing. PROG_DATA stores the word little-endian at PROG_ADDR of the halted
engine PROG_ENG in OPEN, advances PROG_ADDR by 4 and marks the engine loaded; else REFUSED. A permitted HALT write
halts each engine whose bit is 1 and starts at address 0 each halted engine whose bit is 0, REFUSED otherwise.
Nothing else changes. -/
def Obligations.RegisterWritesAndLoader : Prop :=
  ∀ (s : State) (q : Requester) (idx : BitVec 7) (v : W32) (e : Eng) (h : BitVec 5),
    let may := decide (idx.toNat ≤ 71) && s.mayWriteReg q idx.toNat
    (may = true → s.regAnswers idx.toNat = true → ∀ u, s.regCross idx.toNat = (u, true) →
      Gives (.registerWrite q idx v) s (fun t => t = (u.applyReg q idx.toNat v).runSteps)) ∧
    (s.er.stepReq = 0#5 → (idx ≠ 22#7 ∨ s.powered 2 = true ∨ s.powered 0 = false) →
      Writes (.registerWrite q idx v) s may idx.toNat (fun u t =>
        (idx = 3#7 → t = { u with sys.eventFlags := u.sys.eventFlags &&& ~~~(field v 0 24) }) ∧
        (idx = 4#7 → t = { u with sys.eventMask := field v 0 23 }) ∧
        (idx = 7#7 → t = { u with sys.scratch := v }) ∧
        (idx = 14#7 → t = { u with pwr.wakeEn := field v 0 7 }) ∧
        (idx = 15#7 → t = { u with pwr.wakeCause := u.pwr.wakeCause &&& ~~~(field v 0 8) }) ∧
        (idx = 24#7 → t = { u with sv.chordEnReg := field v 0 20 }) ∧
        (idx = 28#7 → t = { u with sv.holdTime := field v 0 10, sv.dtAbs := field v 10 8, sv.dtRel := field v 18 8,
                                   sv.sosShift := field v 26 3, sv.reacq := field v 29 3 }) ∧
        (idx = 33#7 → t = { u with aux.clamp := u.aux.clamp &&& ~~~(field v 0 27) }) ∧
        (idx = 43#7 → t = { u with st.addr := field v 0 23 &&& 0x7FFFFC#23, st.codeSpace := v.getLsbD 24 }) ∧
        (idx = 60#7 → t = { u with pn.crc := field v 0 16 }) ∧
        (idx.toNat ∈ [0, 1, 10, 12, 26, 38, 48] → t = u))) ∧
    (idx = 22#7 → s.er.stepReq = 0#5 → s.mayWriteReg q 22 = true → s.powered 0 = true → s.powered 2 = false →
      Gives (.registerWrite q idx v) s (fun t => t = s.writeRun (v.getLsbD 0))) ∧
    (s.hubServes = true → engOfNum s.er.progEng.toNat = some e →
      (s.sealed = false → (s.engine e).halt = true → s.er.progAddr.toNat < progEnd e →
        s.powered (clusterDomain (engCluster e)) = true → Gives (.progDataWrite v) s (fun t =>
          (∀ i, i < 4 → (t.engine e).prog.get 0#8 (s.er.progAddr.toNat + i) = field v (8 * i) 8) ∧
          (∀ b, b < s.er.progAddr.toNat ∨ s.er.progAddr.toNat + 4 ≤ b →
            (t.engine e).prog.get 0#8 b = (s.engine e).prog.get 0#8 b) ∧
          t.er = { s.er with progAddr := s.er.progAddr + 4#17 } ∧
          { t.engine e with prog := (s.engine e).prog, loaded := (s.engine e).loaded } = s.engine e ∧
          (t.engine e).loaded = true ∧ (∀ k, k ≠ e → t.engine k = s.engine k) ∧
          { t with eng := s.eng, er := s.er } = s)) ∧
      (s.sealed = true ∨ (s.engine e).halt = false ∨ progEnd e ≤ s.er.progAddr.toNat →
        Gives (.progDataWrite v) s (fun t => t = { s with er.refused := true }))) ∧
    (s.hubServes = false → Gives (.progDataWrite v) s (fun t => t = s)) ∧
    Writes (.engineHalt q h) s (s.mayWriteReg q 34) 34 (fun u t =>
      (u.haltRefused h 0#5 = true → t = { u with er.refused := true }) ∧
      (u.haltRefused h 0#5 = false →
        (∀ k, (t.engine k).halt = h.getLsbD (engNum k)) ∧
        (∀ k, (u.engine k).halt = h.getLsbD (engNum k) → t.engine k = u.engine k) ∧
        (∀ k, (u.engine k).halt = false → h.getLsbD (engNum k) = true →
          t.engine k = { u.engine k with halt := true }) ∧
        (∀ k, (u.engine k).halt = true → h.getLsbD (engNum k) = false → t.engine k =
          { u.engine k with halt := false, brkHalt := false, dblHalt := false, wait := none, pc := 0#32 }) ∧
        { t with eng := u.eng, er.haltCause := u.er.haltCause, er.haltEng := u.er.haltEng } = u))

/-- ENGINE_STEP runs the instruction that program memory holds at the pc of a halted engine, which then stands halted
again. Where DEBUG_EN is set in OPEN and the engine is halted: the word at its pc, little-endian, decodes to an
instruction, and the step has the effect that exec gives that instruction on the engine without its halts;
afterwards the halts stand again with HALT_CAUSE STEP and HALT_ENG the engine, except that a BRK or a double trap
leaves its own cause and a reset of the device leaves what it left. A word that spells no instruction traps ILLEGAL.
Where a step is not permitted nothing happens. -/
def Obligations.StepRunsTheInstruction : Prop :=
  ∀ (s : State) (e : Eng),
    let w : W32 := BitVec.ofNat 32 (leNat ((s.engine e).prog.bytes 0#8 (s.engine e).pc.toNat 4))
    let s1 := s.modEngine e Engine.unhalted
    let after := fun (u t : State) =>
      (u.boot.coreReset = true → t = u) ∧
      (u.boot.coreReset = false →
        t.engine e = (u.engine e).halts (s.engine e) ∧ (∀ k, k ≠ e → t.engine k = u.engine k) ∧
        ((u.engine e).brkHalt = true ∨ (u.engine e).dblHalt = true → { t with eng := u.eng } = u) ∧
        ((u.engine e).brkHalt = false → (u.engine e).dblHalt = false →
          t.er = { u.er with haltCause := .step, haltEng := BitVec.ofNat 3 (engNum e) } ∧
          { t with eng := u.eng, er := u.er } = u))
    (∀ i, s.mayStep e = true → (s.engine e).pc.toNat < progEnd e → s1.issues e = true → s1.fetches e = true →
      decodeTeique e w = some i → Gives (.engineStep e) s (fun t =>
        Gives i { s1 with freeCtr := s1.freeCtr + 1 } (fun u => after u t))) ∧
    (s.mayStep e = true → (s.engine e).pc.toNat < progEnd e → s1.issues e = true → s1.fetches e = true →
      decodeTeique e w = none → Gives (.engineStep e) s (after (s1.trap e .illegal (w.setWidth 64)))) ∧
    (s.mayStep e = true → s1.issues e = false → Gives (.engineStep e) s (after s1)) ∧
    (s.mayStep e = false → Gives (.engineStep e) s (fun t => t = s))

/-- FIRE and ARM issue their shot commands from the authority with the PLL locked; other engines trap, ARM answers 0. On
a ready engine whose stores are acknowledged, with the PLL locked, outside BOOT, in grid timing with a capture
permitted and the correlator gates open, and with the bridge up to each powered chord named: FIRE by the authority
sends one command for each chord it names, in their order, and enters them in the traverse as fired and owed, which
ends the abandonment that a power-fail warning left; ARM sends one listening command and answers 1. A command for an
unpowered chord is answered with an ABORTED entry that joins the entries of the Surveyor. ARM that is not accepted
answers 0. Nothing else changes. FIRE by an engine that is not the authority, or in BOOT, traps ENGINE; without lock
CLOCK; in grid timing VOLTAGE where a capture is not permitted. -/
def Obligations.ShotCommandsLeave : Prop :=
  ∀ (s : State) (e : Eng) (d a : GReg) (slot mod : BitVec 8), Clear s e →
    let captures := fun (cs : List Chord) => s.sv.grid = false ∨ (s.pwr.regHP = true ∧ 2 ≤ s.pwr.vset.toNat ∧
      ∀ c ∈ cs, s.clk.gateOpen.getLsbD (if 10 ≤ c.val then 13 else 12) = true)
    let cs := s.fireChords e d slot
    let cmds := s.fireCommands e d a slot mod
    let scheduled := { s with
      sv.afterWarning := s.sv.afterWarning && cmds.isEmpty,
      sv.traverses := s.sv.traverses.map fun x =>
        if x.tc = s.sv.tc ∧ cmds ≠ [] then
          { x with fired := true, order := x.order ++ cmds.map (fun c => (c.chord, c.up)), owed := x.owed + cmds.length,
                   abandoned := x.abandoned && !(s.sv.afterWarning && !x.fired) }
        else x }
    let answered := fun (u : State) (cmd : ShotCmd) =>
      u.setEntries e (u.entriesOf e ++ [s.abortCommand { cmd with marks := Mark.aborted }])
    (s.isAuthority e = true → inBoot s = false → s.clk.pllLock = true → fireIllegal d slot mod = false → captures cs →
      ((∀ c ∈ cs, s.powered (chordDomain c) = true ∧ (s.br.get (chordBridge c)).up = true) →
        Gives (.fire e d a slot mod) s (fun t =>
          Completes { scheduled with sv.inTransit := s.sv.inTransit ++ cmds } t e ∧ cmds.map ShotCmd.chord = cs)) ∧
      (∀ cmd, cmds = [cmd] → s.powered (chordDomain cmd.chord) = false →
        Gives (.fire e d a slot mod) s (fun t => Completes (answered scheduled cmd) t e))) ∧
    (∀ c, slotChord slot = some c → field mod 1 7 = 0#7 → isSurveyor e = true → s.clk.pllLock = true → captures [c] →
      (s.armRefusedBy e slot = true → Gives (.arm e d a slot mod) s (fun t => Receives s t e d 0#64)) ∧
      (s.armRefusedBy e slot = false →
        (s.powered (chordDomain c) = true → (s.br.get (chordBridge c)).up = true →
          Gives (.arm e d a slot mod) s (fun t =>
            Receives { s with sv.inTransit := s.sv.inTransit ++ s.armCommand e a slot mod } t e d 1#64)) ∧
        (∀ cmd, s.armCommand e a slot mod = [cmd] → s.powered (chordDomain c) = false →
          Gives (.arm e d a slot mod) s (fun t => Receives (answered s cmd) t e d 1#64)))) ∧
    ((s.engine e).inTrap = false → fireIllegal d slot mod = false →
      (s.isAuthority e = false ∨ inBoot s = true →
        Gives (.fire e d a slot mod) s (fun t => Traps s t e .engine (wordOf (.fire e d a slot mod)))) ∧
      (s.isAuthority e = true → inBoot s = false →
        (s.clk.pllLock = false →
          Gives (.fire e d a slot mod) s (fun t => Traps s t e .clock (wordOf (.fire e d a slot mod)))) ∧
        (s.clk.pllLock = true → s.sv.grid = true → s.pwr.regHP = false ∨ s.pwr.vset.toNat < 2 →
          Gives (.fire e d a slot mod) s (fun t => Traps s t e .voltage (s.pwr.vset.setWidth 64)))))

/-- AT waits for its target or answers tc, PACE sets TRAV_PERIOD within its limits, AUX answers whether its request was
accepted. On a ready Surveyor whose stores are acknowledged, with the PLL locked: AT whose target has passed writes
tc; with target 0 it waits for the boundary, with a target ahead of the traverse time base for it; a latched system
event ends it at once with all ones. PACE by the authority sets the period, limited to 2,000 to 60,000,000 us (to
400,000 us with a twin enabled), from the next boundary on while the survey runs, at once otherwise; from the other
Surveyor it has no effect. AUX of a channel whose island answers queues its request and answers 1, answers 0 with
QUEUE_FULL where four wait, and 0 where the channel is disabled or its word invalid; where the auxiliary cluster
does not answer it answers 0. Nothing else changes but the count of delayed transfers. On other engines the three
trap ENGINE. -/
def Obligations.TimesAndConversionsAsked : Prop :=
  ∀ (s : State) (e : Eng) (d a : GReg) (imm : BitVec 16) (slot mod : BitVec 8), Clear s e →
    let target := (s.engine e).address a imm
    let period := max 2000 (min (if s.tw.en then 400000 else 60000000) target.toNat)
    (isSurveyor e = true → s.clk.pllLock = true →
      ((s.engine e).sysEvent = false →
        (target ≠ 0#64 → target.toNat ≤ s.sv.timeBase →
          Gives (.atTime e d a imm) s (fun t => Receives s t e d s.sv.tc)) ∧
        (target = 0#64 → Gives (.atTime e d a imm) s (fun t => Waits s t e (.atBoundary d))) ∧
        (s.sv.timeBase < target.toNat → Gives (.atTime e d a imm) s (fun t => Waits s t e (.atTarget d target)))) ∧
      ((s.engine e).sysEvent = true → Gives (.atTime e d a imm) s (fun t =>
        Receives (s.modEngine e fun x => { x with sysEvent := false }) t e d (BitVec.allOnes 64))) ∧
      (s.isAuthority e = true → s.sv.run = true → Gives (.pace e a imm) s (fun t =>
        Completes { s with sv.travNext := some period } t e)) ∧
      (s.isAuthority e = true → s.sv.run = false → Gives (.pace e a imm) s (fun t =>
        Completes { s with sv.travPeriod := period, sv.travNext := none } t e)) ∧
      (s.isAuthority e = false → Gives (.pace e a imm) s (fun t => Completes s t e)) ∧
      (∀ ch, slotAux slot = some ch → field mod 2 6 = 0#6 →
        (s.auxAnswers ch = true → s.br.senseN.up = true →
          let u := s.hop (auxHops ch)
          let i := islandOf ch
          let req : AuxReq := { ch := ch, forced := mod.getLsbD 0, notify := mod.getLsbD 1, fromS1 := e == .s1,
                                deferred := false }
          let valid := s.aux.enabled ch && auxWordOk ch s.aux.cfg[ch]
          (valid = true → (s.aux.isl i).queue.length < 4 → Gives (.aux e d slot mod) s (fun t =>
            Receives { u with aux := s.aux.setIsl i { s.aux.isl i with queue := (s.aux.isl i).queue ++ [req] } } t e d
              1#64)) ∧
          (valid = true → 4 ≤ (s.aux.isl i).queue.length → Gives (.aux e d slot mod) s (fun t =>
            Receives { u with aux.queueFull := true } t e d 0#64)) ∧
          (valid = false → Gives (.aux e d slot mod) s (fun t => Receives u t e d 0#64))) ∧
        (s.auxReached = false ∨ (s.auxAnswers ch = false ∧ s.br.senseN.up = true) →
          Gives (.aux e d slot mod) s (fun t => Receives s t e d 0#64)))) ∧
    (isSurveyor e = false → (s.engine e).inTrap = false →
      Gives (.atTime e d a imm) s (fun t => Traps s t e .engine (wordOf (.atTime e d a imm))) ∧
      Gives (.pace e a imm) s (fun t => Traps s t e .engine (wordOf (.pace e a imm))) ∧
      ((slotAux slot).isSome = true → field mod 2 6 = 0#6 →
        Gives (.aux e d slot mod) s (fun t => Traps s t e .engine (wordOf (.aux e d slot mod)))))

/-- STAMP and CORR post the four words of the oldest matching entry, CAPT copies the capture with its DONE. On a ready
Surveyor whose stores are acknowledged, with the PLL locked and a destination it may write: the oldest delivered
entry of the kind and chord asked for leaves the list, its words are posted at g[a] and g[d] receives the chord; the
entry of a fired shot then joins its traverse, which closes where it is full (the effect of State.collected), and an
ARM's changes nothing more. Without an entry the form that does not wait answers 0xFF and the other waits, or ends
with all ones at a system event. CAPT writes the words of the capture area that mod selects to g[a], the descriptors
last, and answers 1 where every descriptor shows DONE; from an island that does not answer it writes zeros and
answers 0. Nothing else changes but the count of delayed transfers. -/
def Obligations.ResultsCollected : Prop :=
  ∀ (s : State) (e : Eng) (d a : GReg) (slot mod : BitVec 8), Clear s e → isSurveyor e = true → s.clk.pllLock = true →
    let addr := (s.reg e a).toNat
    let collects := fun (i : Instr) (grid : Bool) =>
      (∀ en rest, takeEntry (entryMatches grid slot) (s.entriesOf e) = some (en, rest) →
        (mod.getLsbD 0 = true ∨ (s.engine e).sysEvent = false) →
        let u0 := (s.setEntries e rest).modEngine e fun x => { x with stores := entryStores en addr }
        let u := u0.modEngine e fun x => (x.setReg d (BitVec.ofNat 64 en.chord.val)).retire
        Receives u0 u e d (BitVec.ofNat 64 en.chord.val) ∧
        (en.listens = true → Gives i s (fun t => t = u)) ∧
        (en.listens = false →
          Gives i s (fun t => t = u.collected en) ∧
          ((∀ x ∈ s.sv.traverses, x.tc = en.tc → (x.take en).full = false) →
            Gives i s (fun t => t = { u with
              sv.traverses := s.sv.traverses.map fun x => if x.tc = en.tc then x.take en else x })))) ∧
      (takeEntry (entryMatches grid slot) (s.entriesOf e) = none →
        (mod.getLsbD 0 = true → Gives i s (fun t => Receives s t e d 0xFF#64)) ∧
        (mod.getLsbD 0 = false → (s.engine e).sysEvent = false →
          Gives i s (fun t => Waits s t e (.entry grid d addr slot)))) ∧
      (mod.getLsbD 0 = false → (s.engine e).sysEvent = true → Gives i s (fun t =>
        Receives (s.modEngine e fun x => { x with sysEvent := false }) t e d (BitVec.allOnes 64)))
    (field mod 1 7 = 0#7 → (slot.toNat < 20 ∨ slot = 0xFF#8) → addr % 8 = 0 → s.entryBarred e (s.reg e a) = false →
      collects (.stamp e d a slot mod) false ∧ collects (.corr e d a slot mod) true) ∧
    (∀ c, slotChord slot = some c → field mod 2 6 = 0#6 →
      mayWriteSpan e addr (if mod.getLsbD 1 then 8208 else 4104) = true →
      (s.chordAnswers c = true → (s.br.get (chordBridge c)).up = true →
        Gives (.capt e d a slot mod) s (fun t => Receives ((s.hop (chordHops c)).putBytes e addr
            ((captWords mod).flatMap fun k => leBytes 8 ((s.chord c).cap.get k).toNat)) t e d
          (bit 64 ((captDescs mod).all fun k => ((s.chord c).cap.get k).getLsbD 23)))) ∧
      (s.chordAnswers c = false →
        Gives (.capt e d a slot mod) s (fun t =>
          Receives (s.putBytes e addr (List.replicate (8 * (captWords mod).length) 0#8)) t e d 0#64)))

/-- STAT START opens or removes a chord's set, FEED adds one pair by the authority, READ writes the block of 96 bytes.
On a ready Surveyor whose stores are acknowledged, with the PLL locked and a block of 96 bytes in its data memory:
START with N = 0 removes the set and otherwise begins one of N pairs with nothing fed. FEED by the authority adds
the pair to a set in progress: sums, sums of squares, minimum and maximum of t_down, t_up and t_up - t_down, the
lanes switched and the lowest grade; the N-th pair completes the set and writes its block to the starter; FEED is
ignored otherwise. READ writes the block to g[a]: minima and maxima as they are, means within half a unit of 2^-16
ticks. Nothing else changes but the model's count of free values. -/
def Obligations.StatisticsKept : Prop :=
  ∀ (s : State) (e : Eng) (d a : GReg) (slot : BitVec 8) (c : Chord), Clear s e → isSurveyor e = true →
    s.clk.pllLock = true → slotChord slot = some c →
    let addr := (s.reg e a).toNat
    let td : Int := ((s.reg e d).toNat % 2 ^ 40 : Nat)
    let tu : Int := ((s.reg e a).toNat % 2 ^ 40 : Nat)
    let lane := fun (r : GReg) => BitVec.ofNat 5 ((s.reg e r).toNat / 2 ^ 40)
    let grade := BitVec.ofNat 2 ((s.reg e d).toNat / 2 ^ 45)
    let fed := fun (st : StatSet) (m u : Moments) (x : Int) =>
      u.s1 = m.s1 + x ∧ u.s2 = m.s2 + x * x ∧ u.min = (if st.count = 0 then x else min m.min x) ∧
      u.max = (if st.count = 0 then x else max m.max x)
    let adds := fun (st u : StatSet) =>
      fed st st.dn u.dn td ∧ fed st st.up u.up tu ∧ fed st st.dt u.dt (tu - td) ∧
      u.firstLane = (if st.count = 0 then lane d else st.firstLane) ∧
      u.switched = (st.switched || decide (lane d ≠ u.firstLane) || decide (lane a ≠ u.firstLane)) ∧
      u.grade.toNat = max st.grade.toNat grade.toNat ∧
      u.count = st.count + 1 ∧ u.n = st.n ∧ u.addr = st.addr ∧ u.starterS1 = st.starterS1
    (addr % 8 = 0 → addr + 96 ≤ dataSize e →
      ((s.reg e d).toNat % 2 ^ 16 = 0 →
        Gives (.statStart e d a slot) s (fun t => Completes (s.setStat c none) t e)) ∧
      ((s.reg e d).toNat % 2 ^ 16 ≠ 0 → Gives (.statStart e d a slot) s (fun t => ∃ st : StatSet,
        Completes (s.setStat c (some st)) t e ∧ st.n = (s.reg e d).toNat % 2 ^ 16 ∧ st.count = 0 ∧
        st.addr = addr ∧ st.starterS1 = (e == .s1) ∧ st.done = false ∧ st.switched = false ∧ st.grade = 0#2)) ∧
      Gives (.statRead e a slot) s (fun t =>
        Completes (s.writeStat e addr (s.readStat c)) t e ∧ (s.readStat c).length = 12 ∧
        ∀ st, s.stats[c] = some st → 0 < st.count →
          (s.readStat c).drop 6 = [st.dn.min, st.dn.max, st.up.min, st.up.max, st.dt.min, st.dt.max].map (BitVec.ofInt 64) ∧
          (∀ w k, ((s.readStat c).drop 1)[0]? = some w → k = (st.count : Int) → st.dn.s1 * 2 ^ 16 < 2 ^ 63 * k →
            0 ≤ st.dn.s1 → (2 * (w.toInt * k - st.dn.s1 * 2 ^ 16)).natAbs ≤ st.count))) ∧
    (∀ st, s.stats[c] = some st → s.isAuthority e = true → st.done = false →
      (st.count + 1 < st.n → Gives (.statFeed e d a slot) s (fun t => ∃ u : StatSet,
        Completes (s.setStat c (some u)) t e ∧ adds st u ∧ u.done = false)) ∧
      (st.n ≤ st.count + 1 → Gives (.statFeed e d a slot) s (fun t => ∃ u : StatSet, adds st u ∧ u.done = true ∧
        Completes ((s.setStat c (some u)).writeStat (if st.starterS1 then .s1 else .s0) st.addr
          ((s.setStat c (some u)).statBlock c u)) t e))) ∧
    ((s.stats[c] = none ∨ s.isAuthority e = false ∨ (s.stats[c]).any (fun st => st.done) = true) →
      Gives (.statFeed e d a slot) s (fun t => Completes s t e))

/-- LANE READG copies a graticule, SNAP asks for its snapshot, CALALL calibrates every powered lane, ASSIGN and FREE
wait for the boundary. On a ready engine that may, its stores acknowledged: READG writes 65 words of the lane at
g[a], zeros where the lane does not answer, and answers 0; SNAP of a valid graticule with an idle store starts the
write of its snapshot and waits for its end; CALALL by the authority, with the survey stopped and the PLL locked,
abandons a rotation step left behind (log 71), starts the calibration of each powered lane with an empty histogram
and waits for their end; ASSIGN and FREE leave their change for the next boundary and answer 0. Each that is refused
answers bit 63 alone and has no effect. Nothing else changes but the count of delayed transfers and, at SNAP, the
model's count of free values. -/
def Obligations.LaneOperations : Prop :=
  ∀ (s : State) (e : Eng) (d a : GReg) (slot : BitVec 8) (l : Lane) (c : Chord), Clear s e →
    let addr := (s.reg e a).toNat
    (slotLane slot = some l → e ≠ .k01 → e ≠ .k3 →
      (mayWriteSpan e addr 520 = true →
        (s.laneAnswers l = true → (s.br.get (laneBridge l)).up = true →
          Gives (.laneReadg e d a slot) s (fun t => Receives ((s.hop (bridgeHops (laneBridge l))).putBytes e addr
            ((s.lane l).words.flatMap fun w => leBytes 8 w.toNat)) t e d 0#64)) ∧
        (s.laneAnswers l = false → Gives (.laneReadg e d a slot) s (fun t =>
          Receives (s.putBytes e addr (List.replicate 520 0#8)) t e d 0#64))) ∧
      (s.snapRefused l = true → Gives (.laneSnap e d slot) s (fun t => Receives s t e d (1#64 <<< 63))) ∧
      (StoreIdle s → (s.lane l).valid = true → Gives (.laneSnap e d slot) s (fun t =>
        Writing (s.modEngine e fun x => { x with wait := some (.snapWrite d) }) t (.snapshot e l) []))) ∧
    (isSurveyor e = true →
      (slot = 0#8 → (s.engine e).sysEvent = false →
        (s.calAllRefused e = true → Gives (.laneCalall e d slot) s (fun t => Receives s t e d (1#64 <<< 63))) ∧
        (s.calAllRefused e = false → s.lanePowered l = true → Gives (.laneCalall e d slot) s (fun t =>
          let u := s.abandonStep
          (t.engine e).wait = some (.calAll d) ∧ t.lr = { u.lr with calAll := true } ∧ t.lr.step = none ∧
          (∀ k, t.lane k = if s.lanePowered k = true then
            { u.lane k with calibrating := true, logH := s.hitLog, hist := [] } else u.lane k) ∧
          { t.engine e with wait := (u.engine e).wait } = u.engine e ∧ (∀ k, k ≠ e → t.engine k = u.engine k) ∧
          { t with eng := u.eng, lr := u.lr, lanes := u.lanes } = u ∧ (s.lr.step = none → u = s)))) ∧
      (slotChord slot = some c →
        (s.assignRefused e c = true → Gives (.laneAssign e d slot) s (fun t => Receives s t e d (1#64 <<< 63))) ∧
        (s.assignRefused e c = false → Gives (.laneAssign e d slot) s (fun t =>
          Receives { s with lr.assignNext := some c, lr.freeNext := false } t e d 0#64))) ∧
      (slot = 0#8 →
        (s.freeRefused e = true → Gives (.laneFree e d slot) s (fun t => Receives s t e d (1#64 <<< 63))) ∧
        (s.freeRefused e = false → Gives (.laneFree e d slot) s (fun t =>
          Receives { s with lr.freeNext := true, lr.assignNext := none } t e d 0#64))))

/-- TALLY adds the exact product to the open value of its rod alone; a test acts on the shadow alone; a refusal traps
TALLY. On a ready engine that tallies, with the Abacus answering: a TALLY that is not refused, outside perturbation
and BOOT and with BP other than 11, raises the open value of its rod by exactly I x S (for rods other than 11 modulo
the 256 counted roll-overs; rod 11 saturates at 10^20 - 1 with SAT), binds its SCALE, marks the rod as touched and
leaves every other rod, every closed value and every shadow; an increment of K0-K1 to rod 0 or 1 also counts in the
twin's own volume, and one to the source rod of a delivery that follows the rods joins its queue (a full queue
aborts it with reason 9). In BOOT and with BP = 11 no rod advances. Marked TEST or while unlocked TALLY acts on the
shadow alone. A refusal traps TALLY with its code, and nothing is added. While the Abacus does not answer the
instruction completes without effect. A roll-over and a saturation stage an event-log entry; nothing else changes. -/
def Obligations.TallyAddsExactly : Prop :=
  ∀ (s : State) (e : Eng) (rod : BitVec 5) (a b : GReg), Ready s e → tallies e = true → rod.toNat < 16 →
    let r : Rod := rodOf rod
    let p : Int := (s.reg e a).toInt * ((s.reg e b).toNat : Int)
    let x := (s.ab.opened[r]).val.exact + p
    let shadowed := fun (t : State) =>
      Completes { s with ab.shadow := s.ab.shadow.set r ((s.ab.shadow[r]).tally r (s.reg e a) (s.reg e b)) } t e
    (s.abacusAnswers = true →
      (s.pt.unlocked = false → tallyRefusal e r s.ab.opened[r] (s.reg e a) (s.reg e b) = 0 →
        (s.sys.state ≠ .boot → s.st.bp ≠ 3#2 → Gives (.tally e rod a b) s (fun t =>
          (r ≠ 11 → ((t.ab.opened[r]).val.total - (s.ab.opened[r]).val.total - p) % (256 * 10 ^ 20 * 2 ^ 64) = 0) ∧
          (r = 11 → (x / 2 ^ 64).natAbs < 10 ^ 20 → (t.ab.opened[r]).val.exact = x) ∧
          (r = 11 → 10 ^ 20 ≤ (x / 2 ^ 64).natAbs →
            (t.ab.opened[r]).val.count.natAbs = 10 ^ 20 - 1 ∧ (t.ab.opened[r]).val.sat = true) ∧
          (t.ab.opened[r]).scale = s.reg e b ∧ (∀ k : Rod, k ≠ r → t.ab.opened[k] = s.ab.opened[k]) ∧
          t.ab = { s.ab with opened := t.ab.opened, touched := s.ab.touched ||| (1#16 <<< r.val), bound := t.ab.bound } ∧
          t.ab.bound = (if (s.ab.opened[r]).scale = s.reg e b then s.ab.bound else s.ab.bound ||| (1#16 <<< r.val)) ∧
          t.tw = { s.tw with ownVolume := s.tw.ownVolume +
            (if e = .k01 ∧ r = 0 then p else 0) - (if e = .k01 ∧ r = 1 then p else 0) } ∧
          (e = .k01 → s.dl.follows = true → r = s.dl.rod →
            (s.dl.incs.length < 16 → t.dl = { s.dl with incs := s.dl.incs ++ [s.reg e a] }) ∧
            (16 ≤ s.dl.incs.length → DeliveryAborted { s with dl.incLost := t.dl.incLost } t 9)) ∧
          (e = .k3 ∨ s.dl.follows = false ∨ r ≠ s.dl.rod → t.dl = s.dl) ∧
          KeptRegs s t e ∧ KeptFlags s t e ∧ WentOn s t e ∧ (t.engine e).acc = (s.engine e).acc ∧
          CoreOnly s { t with ab := s.ab, log := s.log, tw := s.tw, dl := s.dl, freeCtr := s.freeCtr } e)) ∧
        (s.sys.state = .boot ∨ (s.st.bp = 3#2 ∧ e = .k3) →
          Gives (.tally e rod a b) s (fun t => Completes s t e))) ∧
      (tallyRefusal e r s.ab.shadow[r] (s.reg e a) (s.reg e b) = 0 →
        Gives (.tallyTest e rod a b) s shadowed ∧
        (s.pt.unlocked = true → Gives (.tally e rod a b) s shadowed)) ∧
      (∀ test, tallyRefusal e r (s.tallyTarget test r) (s.reg e a) (s.reg e b) ≠ 0 → (s.engine e).inTrap = false →
        Gives (if test then .tallyTest e rod a b else .tally e rod a b) s (fun t =>
          Traps s t e .tally (BitVec.ofNat 64 (tallyRefusal e r (s.tallyTarget test r) (s.reg e a) (s.reg e b)))))) ∧
    (s.abacusAnswers = false →
      Gives (.tally e rod a b) s (fun t => Completes s t e) ∧
      Gives (.tallyTest e rod a b) s (fun t => Completes s t e))

/-- ROD reads binary and decimal elements, snapshots the closed values, and commits the open group of its engine. On a
ready engine, with the Abacus answering: a read writes the element that g[a] selects of the rod that it selects
(closed; open where [7] is set and the engine's group has touched the rod; shadow where [8] is set): COUNT, RESIDUE
and SCALE as they are, the decimal form as digits of the absolute COUNT. Snapshot copies every closed value and
advances SNAP_SEQ. A commit by K0-K1, or by K3 of a touched group, with its stores acknowledged, the Abacus not
frozen, BP other than 11 and an idle store, takes the open values of its group as closed in one step, advances JSEQ,
empties the group, and waits while its journal entry with every change is written; where no SCALE is bound the
second STORE_PAGE_COMPLETE, of its two pages, then ends the commit. With nothing tallied a K3 commit changes
nothing. Other engines trap ENGINE. -/
def Obligations.RodsReadAndCommitted : Prop :=
  ∀ (s : State) (e : Eng) (d a : GReg) (r : Rod), Ready s e →
    (s.abacusAnswers = true →
      (let sel := s.reg e a
       Gives (.rodReadBinary e d a) s (fun t =>
        Receives s t e d (rodBinary (s.rodSelected e sel) (field sel 0 4 == 11#4) (field sel 4 3).toNat)) ∧
       Gives (.rodReadDecimal e d a) s (fun t =>
        Receives s t e d (rodDecimal (s.rodSelected e sel) (field sel 0 4 == 11#4) (field sel 4 3).toNat))) ∧
      (s.reg e a = BitVec.ofNat 64 r.val →
        Gives (.rodReadBinary e d a) s (fun t => Receives s t e d (BitVec.ofInt 64 (s.ab.closed[r]).val.count)) ∧
        Gives (.rodReadDecimal e d a) s (fun t => ∃ w : W64, Receives s t e d w ∧
          ∀ i, i < 16 → (field w (4 * i) 4).toNat = (s.ab.closed[r]).val.count.natAbs / 10 ^ i % 10)) ∧
      (s.reg e a = BitVec.ofNat 64 (0x20 + r.val) →
        Gives (.rodReadBinary e d a) s (fun t => Receives s t e d (s.ab.closed[r]).val.residue)) ∧
      (s.reg e a = BitVec.ofNat 64 (0x30 + r.val) →
        Gives (.rodReadBinary e d a) s (fun t => Receives s t e d (s.ab.closed[r]).scale)) ∧
      (s.reg e a = BitVec.ofNat 64 (0x80 + r.val) → (s.ab.touched &&& groupMask e).getLsbD r.val = true →
        Gives (.rodReadBinary e d a) s (fun t => Receives s t e d (BitVec.ofInt 64 (s.ab.opened[r]).val.count))) ∧
      (s.reg e a = BitVec.ofNat 64 (0x100 + r.val) →
        Gives (.rodReadBinary e d a) s (fun t => Receives s t e d (BitVec.ofInt 64 (s.ab.shadow[r]).val.count))) ∧
      Gives (.rodSnapshot e) s (fun t =>
        Completes { s with ab.snap := s.ab.closed, ab.snapSeq := s.ab.snapSeq + 1#32 } t e) ∧
      (tallies e = true → Clear s e → s.ab.frozen = false →
        ((e = .k3 ∧ s.ab.touched &&& 0xF400#16 = 0#16) ∨ s.st.bp = 3#2 →
          Gives (.rodCommit e) s (fun t => Completes s t e)) ∧
        (e = .k01 ∨ s.ab.touched &&& groupMask e ≠ 0#16 → StoreIdle s → Gives (.rodCommit e) s (fun t =>
          (∀ k : Rod, t.ab.closed[k] = if (s.ab.touched &&& groupMask e).getLsbD k.val then s.ab.opened[k]
            else s.ab.closed[k]) ∧
          t.ab.jseq = s.ab.jseq + 1 ∧ t.ab.touched = s.ab.touched &&& ~~~(groupMask e) ∧
          t.ab.bound = s.ab.bound &&& ~~~(groupMask e) ∧ t.ab.opened = s.ab.opened ∧ t.ab.shadow = s.ab.shadow ∧
          t.ab.snap = s.ab.snap ∧
          (t.st.flight.any fun q => match q.kind with
            | .journal en => en.jseq == s.ab.jseq + 1 && en.byK3 == (e == .k3) && en.changes == s.groupChanges e
            | _ => false) = true ∧
          t.engine e = { s.engine e with wait := some (.commit (s.groupBinds e)) } ∧
          (∀ k, k ≠ e → t.engine k = s.engine k) ∧ t.keys = s.keys ∧ t.chords = s.chords ∧ t.rtc = s.rtc ∧
          (s.groupBinds e = false → s.powered 1 = true →
            Gives .storePageComplete t (fun u => u.engine e = t.engine e ∧
              Gives .storePageComplete u (fun v => v.engine e = (s.engine e).retire))))))) ∧
    ((s.engine e).inTrap = false → tallies e = false →
      Gives (.rodCommit e) s (fun t => Traps s t e .engine (wordOf (.rodCommit e))))

/-- PSAVE answers the status of a request it does not carry out and otherwise waits for the write; PLOAD delivers the
payload. On a ready engine whose stores are acknowledged: PSAVE of a record that is unknown (2), of a wrong length
(3) or not the engine's to write (4) answers that status with no effect; a permitted one, with the store controller
idle, hands it the record and its payload as memory holds it and waits. PLOAD, with the controller idle, writes the
payload that the load rule selects at g[a] and answers its status with the length in [31:16]; where the engine may
not write it there it traps ACCESS. Nothing else changes but the model's count of free values and, where the load
rule finds a conflict, its mark and its event-log entry, which the controller may begin to write. -/
def Obligations.RecordsSavedAndLoaded : Prop :=
  ∀ (s : State) (e : Eng) (d a b : GReg), Clear s e →
    let addr := (s.reg e a).toNat
    let id : BitVec 16 := field (s.reg e b) 0 16
    let len := (field (s.reg e b) 16 16).toNat
    let s1 := s.modEngine e fun x => { x with wait := some (.psave d) }
    (∀ st, s.psaveStatus e a id.toNat len = some st →
      Gives (.psave e d a b) s (fun t => Receives s t e d (BitVec.ofNat 64 st))) ∧
    (s.psaveStatus e a id.toNat len = none → StoreIdle s → (id = 1#16 ∨ mayReadSpan e addr len = true) →
      (id = 0x400#16 → Gives (.psave e d a b) s (fun t => Writing s1 t (.interval e) (s.readSpan e addr len))) ∧
      (id = 1#16 → Gives (.psave e d a b) s (fun t => Writing s1 t (.record id (.engine e)) s.settingsPayload)) ∧
      (id ≠ 0x400#16 → id ≠ 1#16 →
        Gives (.psave e d a b) s (fun t => Writing s1 t (.record id (.engine e)) (s.readSpan e addr len)))) ∧
    (StoreIdle s → addr % 8 = 0 →
      let got := s.ploadData id.toNat
      let base := fun (t : State) => { t with st := got.1.st, log := got.1.log, freeCtr := got.1.freeCtr }
      (mayWriteSpan e addr got.2.2.length = true → Gives (.pload e d a b) s (fun t =>
        Receives (got.1.putBytes e addr got.2.2) (base t) e d
          (got.2.1 ||| place 64 16 (BitVec.ofNat 16 got.2.2.length)) ∧ (got.1.log = s.log → base t = t))) ∧
      (mayWriteSpan e addr got.2.2.length = false → (s.engine e).inTrap = false →
        Gives (.pload e d a b) s (fun t =>
          Traps got.1 (base t) e .access (s.reg e a) ∧ (got.1.log = s.log → base t = t))))

/-- HINIT, HUPD and HFIN hash SHA-512 over the bytes named; VERIFY, QSIGN and MODEXP start one operation, which
CRYPT_COMPLETE ends. On K0-K1 or K2, ready, its stores acknowledged, with the crypto gate open and (but for QSIGN,
which sets the regulator itself) in HP at 1.00 V or more: HINIT empties the issuer's message, HUPD appends the bytes
named, HFIN writes the SHA-512 digest of the message and empties it. On K2 the three asynchronous operations answer
1 and become the operation in progress, or answer 0 with no effect while the crypto engine is not free; MODEXP traps
PRIV in SEALED. CRYPT_COMPLETE writes the result and STATUS of the operation in progress, returns the regulator,
frees the engine and signals the issuer, after which a pairing signature that waits begins; of a VERIFY it writes
STATUS into the descriptor alone. With none in progress nothing happens. Nothing else changes but the model's count
of free values. -/
def Obligations.HashAndCryptOperations : Prop :=
  ∀ (s : State) (e : Eng) (d a b : GReg),
    (Clear s e → s.clk.gateOpen.getLsbD 0 = true →
      let addr := (s.reg e a).toNat
      ((e = .k01 ∨ e = .k2) → s.pwr.regHP = true → 2 ≤ s.pwr.vset.toNat →
        Gives (.hinit e) s (fun t => Completes (s.setHashCtx e []) t e) ∧
        (mayReadSpan e addr (s.reg e b).toNat = true → Gives (.hupd e a b) s (fun t =>
          Completes (s.setHashCtx e (s.hashCtx e ++ s.readSpan e addr (s.reg e b).toNat)) t e)) ∧
        (mayFillSpan e addr 64 = true → Gives (.hfin e a) s (fun t =>
          Completes ((s.fillSpan e addr (sha512 (s.hashCtx e))).setHashCtx e []) t e))) ∧
      (e = .k2 →
        (s.cryptFree = true →
          (s.pwr.regHP = true → 2 ≤ s.pwr.vset.toNat → Gives (.cryptVerify e d a) s (fun t =>
            Receives (s.startVerify e addr) t e d 1#64 ∧
            t.cr.job = some ⟨.verify, e, addr, 0, BitVec.ofNat 64 (s.verifyStatus e addr), [], none⟩)) ∧
          Gives (.qsign e d a) s (fun t => Receives (s.startQsign e addr) t e d 1#64 ∧
            (t.cr.job.any fun j => j.op == .qsign && j.eng == e && j.desc == addr) = true ∧
            t.ab.snap = s.ab.closed ∧ t.ab.snapSeq = s.ab.snapSeq + 1#32 ∧ t.pwr.regHP = true ∧ 2 ≤ t.pwr.vset.toNat) ∧
          (s.sealed = false → s.pwr.regHP = true → 2 ≤ s.pwr.vset.toNat → Gives (.modexp e d a) s (fun t =>
            Receives (s.startModexp e addr) t e d 1#64 ∧
            (t.cr.job.any fun j => j.op == .modexp && j.eng == e && j.desc == addr) = true ∧
            { t with cr.job := s.cr.job, eng := s.eng, freeCtr := s.freeCtr } = s))) ∧
        (s.cryptFree = false →
          Gives (.qsign e d a) s (fun t => Receives s t e d 0#64) ∧
          (s.pwr.regHP = true → 2 ≤ s.pwr.vset.toNat →
            Gives (.cryptVerify e d a) s (fun t => Receives s t e d 0#64) ∧
            (s.sealed = false → Gives (.modexp e d a) s (fun t => Receives s t e d 0#64)))) ∧
        (s.sealed = true → (s.engine e).inTrap = false →
          Gives (.modexp e d a) s (fun t => Traps s t e .priv (wordOf (.modexp e d a)))))) ∧
    (∀ j, s.cr.job = some j →
      let u := { s with cr.job := none }.lowerRail j.raised
      Gives .cryptComplete s (fun t => t = ((u.writeResult j).signal j.eng).pairSign ∧
        (s.tw.pairing = none → t = (u.writeResult j).signal j.eng ∧ t.cr.job = none)) ∧
      (s.tw.pairing = none → j.op = .verify → j.raised = none → j.desc % 8 = 0 → j.desc + 8 ≤ dataSize j.eng →
        (s.engine j.eng).wait ≠ some .doze →
        Gives .cryptComplete s (fun t => t.cr.job = none ∧ (t.engine j.eng).data.word64 0#8 j.desc = j.status ∧
          (∀ k, k < j.desc ∨ j.desc + 8 ≤ k → (t.engine j.eng).data.get 0#8 k = (s.engine j.eng).data.get 0#8 k) ∧
          { t.engine j.eng with data := (s.engine j.eng).data } = { s.engine j.eng with sigEvent := true } ∧
          (∀ k, k ≠ j.eng → t.engine k = s.engine k) ∧ { t with eng := s.eng, cr := s.cr } = s))) ∧
    (s.cr.job = none → Gives .cryptComplete s (fun t => t = s))

/-- WAIT stands the engine in DOZE or starts the level left by demotion; entry, exit and TRAVERSE_WAKE complete their
phases. On a ready engine a latched SIG event ends WAIT at once. Otherwise the engine stands in DOZE: at levels 0
and 3, and while not every powered engine that is not halted stands in WAIT, that is all; at 1 and 2 the last one
enters the level that Table 03-12 leaves: DOZE during a delivery or a crypto operation or with no usable wake source
(all engines resume at once where a cause is latched), NAP for SLUMBER with a store write or update open, BP = 11, a
loaded engine or no source usable in SLUMBER. An entry abandons the traverses in progress, and SLUMBER saves the
engines and commits the rods. The end of a NAP entry stops the PLL; that of SLUMBER leaves PD2 to PD7 off; a latched
cause then starts the exit. The exit from NAP resumes the dozing engines, that from SLUMBER powers PD3 and PD2, adds
the boundaries counted to tc and empties the save area; a clock failure met on the way leads to HOLD then.
TRAVERSE_WAKE with RUN set and its source enabled latches bit 6, resumes dozing engines when awake and ends NAP and
SLUMBER; without, nothing changes. -/
def Obligations.WaitAndSleepLevels : Prop :=
  ∀ (s : State) (e : Eng) (sl : Bool),
    let s1 := s.modEngine e fun x => { x with wait := some .doze }
    let slumberBars := s.pwr.wakeEn &&& 0x57#7 = 0#7 ∨ s.storeOpen = true ∨ s.st.bp = 3#2 ∨ ∃ k ∈ allEngines, (s.engine k).loaded = true
    let at_ := fun (n : BitVec 2) (d : Bool) => { s1 with pwr.lastLevel := n, pwr.demoted := d }
    let dozes := fun (d : Bool) => Gives (.wait e) s (fun t =>
      (s.pwr.wakeCause = 0#8 → t = at_ 0#2 d) ∧ (s.pwr.wakeCause ≠ 0#8 → t = (at_ 0#2 d).resumeAll ∧
        ∀ k, (t.engine k).wait ≠ some .doze))
    let naps := fun (d : Bool) => Gives (.wait e) s (fun t =>
      t.pwr = { (at_ 1#2 d).pwr with sleep := .entering false } ∧ t.eng = s1.eng ∧
      t.sv = { s.sv with traverses := s.sv.traverses.map fun x => { x with abandoned := true } } ∧
      { t with pwr := s1.pwr, eng := s1.eng, sv := s1.sv, lanes := s1.lanes, lr := s1.lr, aux := s1.aux } = s1)
    (Ready s e → (s.engine e).sigEvent = true → Gives (.wait e) s (fun t =>
      Completes (s.modEngine e fun x => { x with sigEvent := false }) t e)) ∧
    (Ready s e → (s.engine e).sigEvent = false →
      ((s.pwr.sleepLevel = 0#2 ∨ s.pwr.sleepLevel = 3#2) →
        Gives (.wait e) s (fun t => t = at_ 0#2 (s.pwr.sleepLevel == 3#2))) ∧
      ((s.pwr.sleepLevel = 1#2 ∨ s.pwr.sleepLevel = 2#2) → s1.allWait = false → Gives (.wait e) s (fun t => t = s1)) ∧
      ((s.pwr.sleepLevel = 1#2 ∨ s.pwr.sleepLevel = 2#2) → s1.allWait = true →
        (s.pwr.wakeEn = 0#7 ∨ s.dozeOnly = true) → dozes true) ∧
      (s.pwr.sleepLevel = 1#2 → s1.allWait = true → s.pwr.wakeEn ≠ 0#7 → s.dozeOnly = false → naps false) ∧
      (s.pwr.sleepLevel = 2#2 → s1.allWait = true → s.pwr.wakeEn ≠ 0#7 → s.dozeOnly = false → slumberBars → naps true) ∧
      (s.pwr.sleepLevel = 2#2 → s1.allWait = true → s.dozeOnly = false → ¬slumberBars → Gives (.wait e) s (fun t =>
        t.pwr = { (at_ 2#2 false).pwr with sleep := .entering true, saveArea := s1.saveEngines } ∧ t.eng = s1.eng ∧
        t.sv = { s.sv with traverses := s.sv.traverses.map fun x => { x with abandoned := true } } ∧
        (s.powered 2 = true → s.boot.rodsLoaded = true → s.ab.frozen = false → t.ab.sinceRecord = 0 ∧
          ((t.st.rodA.any fun r => r.rods == s.ab.closed) = true ∨ (t.st.rodB.any fun r => r.rods == s.ab.closed) = true)) ∧
        { t with pwr := s1.pwr, eng := s1.eng, sv := s1.sv, lanes := s1.lanes, lr := s1.lr, aux := s1.aux, st := s1.st,
                 ab := s1.ab } = s1))) ∧
    (s.pwr.sleep = .entering false → Gives .sleepEntryComplete s (fun t =>
      t.pwr = { s.pwr with sleep := if s.pwr.wakeCause = 0#8 then .asleep false else .exiting false } ∧
      t.clk = { s.clk with pllLock := false, qualMet := false, relocking := s.clk.pllEn } ∧ t.fl.locked = false ∧
      { t with pwr := s.pwr, clk := s.clk, fl := s.fl, chords := s.chords } = s)) ∧
    (s.pwr.sleep = .entering true → Gives .sleepEntryComplete s (fun t =>
      t.pwr.sleep = (if s.pwr.wakeCause &&& 0x7F#8 = 0#8 then .asleep true else .exiting true) ∧
      (∀ k, 2 ≤ k → k < 8 → t.pwr.on.getLsbD k = false ∧ t.pwr.en.getLsbD k = false) ∧
      (∀ k, k < 2 → t.pwr.on.getLsbD k = s.pwr.on.getLsbD k) ∧ t.pwr.change = none ∧ t.pwr.changes = [] ∧
      t.pwr.saveArea = s.pwr.saveArea ∧ t.keys = s.keys ∧ t.rtc.cal = s.rtc.cal ∧ t.rtc.bkp = s.rtc.bkp)) ∧
    ((∀ b, s.pwr.sleep ≠ .entering b) → Gives .sleepEntryComplete s (fun t => t = s)) ∧
    (s.pwr.sleep = .exiting false → s.clk.holdOnExit = false → Gives .sleepExitComplete s (fun t =>
      t = { s with pwr.sleep := .awake }.napUp ∧ t.pwr = { s.pwr with sleep := .awake } ∧
      t.clk.pllLock = (s.clk.relocking && s.clk.pllEn && s.clk.running s.clk.refUse) ∧
      (∀ k, (s.engine k).wait = some .doze → (t.engine k).wait = none))) ∧
    (s.pwr.sleep = .exiting true → s.clk.holdOnExit = false → Gives .sleepExitComplete s (fun t =>
      t = { s with pwr.sleep := .awake }.slumberUp ∧ t.pwr.sleep = .awake ∧ t.powered 2 = true ∧ t.powered 3 = true ∧
      t.sv.tc = s.sv.tc + BitVec.ofNat 64 s.sv.sleepCount ∧ t.sv.sleepCount = 0 ∧ t.pwr.saveArea = [])) ∧
    (s.pwr.sleep = .exiting sl → s.clk.holdOnExit = true → Gives .sleepExitComplete s (fun t =>
      t.sys.state = .hold ∧ t.clk.holdOnExit = false ∧ t.pwr.sleep = .awake ∧
      ∀ k, t.powered (clusterDomain (engCluster k)) = true → (t.engine k).wait ≠ some .doze)) ∧
    ((∀ b, s.pwr.sleep ≠ .exiting b) → Gives .sleepExitComplete s (fun t => t = s)) ∧
    (s.powered 0 = true → s.sv.run = true → s.pwr.wakeEn.getLsbD 6 = true →
      let u := { s with pwr.wakeCause := s.pwr.wakeCause ||| 0x40#8 }
      (s.pwr.sleep = .awake → Gives .traverseWake s (fun t => t = u.resumeAll ∧
        (∀ k, (s.engine k).wait = some .doze → t.engine k = (s.engine k).done) ∧
        (∀ k, (s.engine k).wait ≠ some .doze → t.engine k = s.engine k))) ∧
      (s.pwr.sleep = .asleep sl → Gives .traverseWake s (fun t => t = { u with pwr.sleep := .exiting sl })) ∧
      ((s.pwr.sleep = .entering sl ∨ s.pwr.sleep = .exiting sl) → Gives .traverseWake s (fun t => t = u))) ∧
    (s.powered 0 = false ∨ s.sv.run = false ∨ s.pwr.wakeEn.getLsbD 6 = false → Gives .traverseWake s (fun t => t = s))

/-- Supply levels select the source, lose the supply or begin BOOT; limits and VIO_LOW take effect; PFAIL warns;
VIN_RETURN wakes. A change of the supply levels sets them and, out of a backup reset, selects the source of R82: the
loss of the last source latches cause 2 and resets PD1 to PD7 without a commit (BootsAgain), the first source begins
BOOT where nothing holds it, a move to VBAT under a held store lets writes resume, otherwise nothing else. Current
limits show as given; VIO_LOW low also makes BLANK, OVNRDY and ROLE inactive. PFAIL_ASSERT, with PD0 powered and
PFAIL clear, sets PFAIL and EVENT_FLAGS bit 0, abandons every traverse in progress and those after it, aborts a
delivery with reason 5 and its valves off, latches wake cause 7 and ends NAP; in PD1 the store takes its warning,
held unless the source is VBAT. With PD0 off or PFAIL set it does nothing. PFAIL_DEASSERT clears PFAIL and lets held
writes resume. VIN_RETURN after a fall of VIN, PFAIL clear, sets EVENT_FLAGS bit 1, latches wake cause 4 where
enabled and PWRON source 3 where selected; otherwise nothing. -/
def Obligations.SupplyEvents : Prop :=
  ∀ (s : State) (a b c d : Bool),
    let new := selectSource s.pwr.pathBat a b
    let lv := { s with pwr.vinOk := a, pwr.vbatOk := b, pwr.vbkOk := c, pwr.vbatLow := d,
                       pwr.vinFell := s.pwr.vinFell || (s.powered 0 && s.pwr.vinOk && !a) }
    let moved := { lv with pwr.source := new }
    (s.boot.backupReset = true → Gives (.supplyMonitorChange a b c d) s (fun t => t = lv)) ∧
    (s.boot.backupReset = false → s.pwr.source ≠ .none → new = .none → Gives (.supplyMonitorChange a b c d) s (fun t =>
      Latched moved t 2#8 0#8 true false false ∧ t.sys.state = .backup ∧
      (s.powered 1 = false → BootsAgain { moved with fault := t.fault } t) ∧
      (s.powered 1 = true → BootsAgain { moved with fault := t.fault }.tearPage t))) ∧
    (s.boot.backupReset = false → s.pwr.source = .none → new = .none →
      Gives (.supplyMonitorChange a b c d) s (fun t => t = lv)) ∧
    (s.boot.backupReset = false → s.pwr.source = .none → new ≠ .none → Gives (.supplyMonitorChange a b c d) s (fun t =>
      (s.boot.pinLow = true ∨ s.boot.ftest = true → t = moved) ∧
      (s.boot.pinLow = false → s.boot.ftest = false →
        t = { moved with sys.state := .boot, pwr.change := some ⟨1, true⟩,
                         pwr.changes := [⟨3, true⟩, ⟨2, true⟩, ⟨4, true⟩, ⟨6, true⟩], pwr.on := s.pwr.on ||| 2#8 }))) ∧
    (s.boot.backupReset = false → s.pwr.source ≠ .none → new ≠ .none → Gives (.supplyMonitorChange a b c d) s (fun t =>
      (new = .vin ∨ s.st.pfw = false → t = moved) ∧
      (new = .vbat → s.st.pfw = true → t = { moved with st.pfw := false }.kick))) ∧
    Gives (.supplyCurrentLimit a b) s (fun t => t = { s with pwr.vinIlim := a, pwr.vbatIlim := b }) ∧
    Gives (.vioLow false) s (fun t => t = { s with pwr.vioLow := false }) ∧
    Gives (.vioLow true) s (fun t => t.pwr = { s.pwr with vioLow := true } ∧ t.clk.ovnrdy = false ∧
      t.clk.ovenWarm = false ∧ t.aux.blankLevel = false ∧ t.aux.blankActive = false ∧ t.tw.lineLow = false ∧
      t.eng = s.eng ∧ t.sv = s.sv ∧ t.out = s.out ∧ t.ab = s.ab ∧ t.st = s.st ∧ t.dl = s.dl) ∧
    (s.powered 0 = true → s.pwr.pfail = false → Gives .pfailAssert s (fun t =>
      t.pwr.pfail = true ∧ t.pwr.wakeCause = s.pwr.wakeCause ||| 0x80#8 ∧
      t.pwr.sleep = (if s.pwr.sleep = .asleep false then .exiting false else s.pwr.sleep) ∧
      t.sys.eventFlags = (if s.powered 3 then s.sys.eventFlags ||| 1#24 else s.sys.eventFlags) ∧
      t.sv = { s.sv with traverses := s.sv.traverses.map (fun x => { x with abandoned := true }), afterWarning := true } ∧
      DeliveryAborted s t 5 ∧ (s.powered 1 = true → t.st.pfw = (s.pwr.source != .vbat)) ∧
      (s.powered 1 = false → t.st = s.st) ∧
      (s.pwr.sleep = .awake → ∀ k, s.powered (clusterDomain (engCluster k)) = true → (t.engine k).wait ≠ some .doze) ∧
      t.ab.opened = s.ab.opened ∧ t.ab.closed = s.ab.closed ∧ t.keys = s.keys ∧ t.rtc = s.rtc ∧ t.clk = s.clk ∧
      t.chords = s.chords ∧ t.out = s.out ∧ t.boot = s.boot ∧ t.fault = s.fault)) ∧
    (s.powered 0 = false ∨ s.pwr.pfail = true → Gives .pfailAssert s (fun t => t = s)) ∧
    (s.pwr.pfail = true → Gives .pfailDeassert s (fun t =>
      (s.powered 1 = true → t = { s with pwr.pfail := false, st.pfw := false }.kick ∧ t.st.pfw = false) ∧
      (s.powered 1 = false → t = { s with pwr.pfail := false }))) ∧
    (s.pwr.pfail = false → Gives .pfailDeassert s (fun t => t = s)) ∧
    (s.powered 0 = true → s.pwr.vinFell = true → s.pwr.vinOk = true → s.pwr.pfail = false → Gives .vinReturn s (fun t =>
      t.pwr.vinFell = false ∧ t.rtc = { s.rtc with pwron := s.rtc.pwron || s.rtc.pwronSrc.getLsbD 3 } ∧
      t.sys.eventFlags = (if s.powered 3 then s.sys.eventFlags ||| 2#24 else s.sys.eventFlags) ∧
      t.pwr.wakeCause = (if s.pwr.wakeEn.getLsbD 4 then s.pwr.wakeCause ||| 0x10#8 else s.pwr.wakeCause) ∧
      { t with pwr := s.pwr, rtc := s.rtc, sys := s.sys, eng := s.eng } = s)) ∧
    (s.powered 0 = false ∨ s.pwr.vinFell = false ∨ s.pwr.vinOk = false ∨ s.pwr.pfail = true →
      Gives .vinReturn s (fun t => t = s))

/-- ISLAND_VOLT takes REG_MODE and a permitted VSET or refuses; domain enables queue their changes; a drained domain
goes off, a ready one on. A write of ISLAND_VOLT that reaches the register clears REFUSED with bit 7; a signature
that holds the regulator raised refuses it; otherwise REG_MODE follows bit 5, a VSET that R90 permits for the engine
clocks, a running crypto operation, capture or correlation and a flash operation is taken and any other sets REFUSED
and leaves it; a change unsettles the rail until ISLAND_VOLT_SETTLED. A write of PWR_DOMAIN_EN takes the enables of
R93 (a disabled domain goes with its dependents, enables of a write without disables bring their prerequisites) and
queues the changes of R94, of which the first begins where none is in progress: a rise turns its supply on, a fall
of PD4 or PD5 drains its result queue. DOMAIN_DRAIN_COMPLETE for the domain going down leaves it neither on nor
ready, DOMAIN_READY for the one coming up leaves it on and ready, each with the other domains as ready as they were
and the next change begun; for any other domain both do nothing. -/
def Obligations.RegulatorAndDomains : Prop :=
  ∀ (s : State) (q : Requester) (v : W32) (pd : Fin 8),
    Writes (.islandVoltWrite q v) s (s.mayWriteReg q 11) 11 (fun u t =>
      let n := field v 0 5
      let permitted := n.toNat ≤ 18 ∧
        ((u.clk.engPll = true ∨ u.clk.engUse = true) → 2000 ≤ (clockLimit n).1 * u.clk.kdiv.toNat ∧
          2000 ≤ (clockLimit n).2 * u.clk.sdiv.toNat) ∧
        ((u.cryptoRuns = true ∨ u.gridActive = true) → 2 ≤ n.toNat) ∧ (u.upd.job = some .block → 6 ≤ n.toNat)
      let kept := u.pwr.voltRefused && !v.getLsbD 7
      (u.regulatorHeld = true → t = { u with pwr.voltRefused := true }) ∧
      (u.regulatorHeld = false →
        t.pwr = { u.pwr with regHP := v.getLsbD 5, vset := t.pwr.vset, settled := t.pwr.settled,
                             voltRefused := t.pwr.voltRefused } ∧ { t with pwr := u.pwr } = u ∧
        (n = u.pwr.vset → t.pwr.vset = n ∧ t.pwr.voltRefused = kept) ∧
        (n ≠ u.pwr.vset → permitted → t.pwr.vset = n ∧ t.pwr.voltRefused = kept ∧ t.pwr.settled = false) ∧
        (n ≠ u.pwr.vset → ¬permitted → t.pwr.vset = u.pwr.vset ∧ t.pwr.voltRefused = true) ∧
        (t.pwr.vset = u.pwr.vset → t.pwr.settled = (u.pwr.settled && v.getLsbD 5 == u.pwr.regHP)))) ∧
    Gives .islandVoltSettled s (fun t => t = { s with pwr.settled := true }) ∧
    Writes (.pwrDomainEnWrite q v) s (s.mayWriteReg q 9) 9 (fun u t =>
      let en := enablesAfter u.pwr.en (field v 0 8)
      let cs := u.pwr.changes ++ domainChanges u.pwr.en en
      t.pwr.en = en ∧ en.getLsbD 0 = u.pwr.en.getLsbD 0 ∧
      (∀ k, k < 8 → 1 ≤ k → u.pwr.en.getLsbD k = true → v.getLsbD k = false →
        en.getLsbD k = false ∧ ∀ j ∈ dependents k, en.getLsbD j = false) ∧
      ((∀ k, k < 8 → 1 ≤ k → u.pwr.en.getLsbD k = true → v.getLsbD k = true) →
        ∀ k, k < 8 → 1 ≤ k → u.pwr.en.getLsbD k = false → v.getLsbD k = true →
          en.getLsbD k = true ∧ ∀ j ∈ prerequisites k, en.getLsbD j = true) ∧
      (u.pwr.change.isSome = true → t = { u with pwr.en := en, pwr.changes := cs }) ∧
      (u.pwr.change = none →
        let w := { u with pwr.en := en, pwr.change := cs.head?, pwr.changes := cs.drop 1 }
        (cs = [] → t = w) ∧
        (∀ k, cs.head? = some ⟨k, true⟩ → t = { w with pwr.on := u.pwr.on ||| (1#8 <<< k.val) }) ∧
        (∀ k, cs.head? = some ⟨k, false⟩ → t = if k = 4 then w.drainSheet false else if k = 5 then w.drainSheet true else w))) ∧
    (s.pwr.change = some ⟨pd, false⟩ → Gives (.domainDrainComplete pd) s (fun t =>
      t = (s.domainOff pd.val).nextChange ∧ t.pwr.change = s.pwr.changes.head? ∧ t.pwr.changes = s.pwr.changes.drop 1 ∧
      (∀ k, k < 8 → t.powered k = (s.powered k && decide (k ≠ pd.val))) ∧
      (s.pwr.changes = [] →
        (∀ k, k < 8 → t.pwr.on.getLsbD k = (s.pwr.on.getLsbD k && decide (k ≠ pd.val))) ∧
        (∀ c ∈ clustersOf pd.val, t.fenced c = true)))) ∧
    (s.pwr.change ≠ some ⟨pd, false⟩ → Gives (.domainDrainComplete pd) s (fun t => t = s)) ∧
    (s.pwr.change = some ⟨pd, true⟩ → Gives (.domainReady pd) s (fun t =>
      t = ((s.domainOn pd.val).tryCore).nextChange ∧ t.pwr.change = s.pwr.changes.head? ∧
      t.pwr.changes = s.pwr.changes.drop 1 ∧
      (∀ k, k < 8 → t.powered k = (s.powered k || decide (k = pd.val))) ∧
      (s.pwr.changes = [] →
        ∀ k, k < 8 → t.pwr.on.getLsbD k = (s.pwr.on.getLsbD k || decide (k = pd.val))))) ∧
    (s.pwr.change ≠ some ⟨pd, true⟩ → Gives (.domainReady pd) s (fun t => t = s))

/-- DEV_STATE_REQUEST enters VIGIL, LINE or SERVICE, refuses what R95 and R164 name and takes LEFT in HOLD; an
acknowledge clears the fault latch. A request that reaches DEV_STATE: a code other than 3, 4 and 5 is ignored. It is
refused, with REFUSED set and nothing else, before the rods are loaded, for LINE on VBAT, and for LINE and VIGIL
with BP = 11 or, outside HOLD, without lock. Accepted in HOLD it becomes the state to return to; otherwise DEV_STATE
takes the state with the enables of Table 03-7, whose first change begins where none is in progress; SERVICE
releases ROLE, LINE and VIGIL disarm the clamps that a reset of the Sense die has left armed; engines, rods, store
and clocks stay. A write of 1 to FAULT_CAUSE that reaches it clears every field of the fault latch and nothing else. -/
def Obligations.DeviceStatesRequested : Prop :=
  ∀ (s : State) (q : Requester) (code : BitVec 3),
    Writes (.devStateRequest q code) s (s.mayWriteReg q 2) 2 (fun u t =>
      (code ≠ 3#3 → code ≠ 4#3 → code ≠ 5#3 → t = u) ∧
      ∀ p ∈ [(3#3, DevState.vigil), (4#3, DevState.line), (5#3, DevState.service)], code = p.1 →
        let refused := u.boot.rodsLoaded = false ∨ (p.2 = .line ∧ u.pwr.source = .vbat) ∨
          (p.2 ≠ .service ∧ (u.st.bp = 3#2 ∨ (u.clk.pllLock = false ∧ u.sys.state ≠ .hold)))
        (refused → t = { u with sys.refused := true }) ∧
        (¬refused → u.sys.state = .hold → t = { u with sys.left := p.2, sys.leftReq := true }) ∧
        (¬refused → u.sys.state ≠ .hold → t = u.enterState p.2 ∧ t.sys.state = p.2 ∧ t.sys.left = u.sys.left ∧
          t.pwr.en = u.stateEnables p.2 ∧ (p.2 = .line → t.pwr.en = 0xFF#8) ∧
          (p.2 = .service → t.pwr.en = u.pwr.en ||| 0x0F#8 ∧ t.tw.holds = false) ∧
          (p.2 ≠ .service → t.aux.clampReset = false) ∧
          (u.pwr.change = none → u.pwr.changes = [] → t.pwr.change = (domainChanges u.pwr.en t.pwr.en).head?) ∧
          (u.pwr.change.isSome = true → t.pwr.changes = u.pwr.changes ++ domainChanges u.pwr.en t.pwr.en) ∧
          t.eng = u.eng ∧ t.ab = u.ab ∧ t.st = u.st ∧ t.clk = u.clk)) ∧
    Writes (.faultCauseAck q) s (s.mayWriteReg q 5) 5 (fun u t =>
      t = { u with fault := ⟨0#8, 0#8, false, false, false, false⟩ })

/-- OSCILLATOR_START, PLL_LOCK, the writes of CLK_SRC, PLL_CFG and CLK_GATE, clock switches and forced gates complete
with their effects. A started source that is enabled runs, and the boot ROM that waits for XHF selects it and
enables the PLL; the PLL locks on a running reference with no switch in progress. A CLK_SRC write that reaches the
register takes XHF_EN, XHF_LP and, where an oven source is fitted or XREF_EN is 0, XREF_EN; it refuses a reserved
PLL_REF, a change during a switch and an engine clock above its limit or, in HOLD, the PLL (log 63) with
CFG_REFUSED, and otherwise starts the engine switch. PLL_CFG takes EN and each divider that is in range and within
the limits, else CFG_REFUSED. A switch in progress ends on the selected clock, or is abandoned with SWITCH_FAIL on
the old one, or on RING where the old one, the PLL, stands still. CLK_GATE opens gates at once, and closes each at
once unless an access is in progress or, at the panel's, a command runs; a gate held by an access is forced closed
with GATE_FORCED, and the access is dropped. Writes that do not reach their register leave everything as it was or
are refused by the link. Nothing else changes but the grade of a shot in flight. -/
def Obligations.ClocksSelectedAndGated : Prop :=
  ∀ (s : State) (q : Requester) (v : W32) (dead : Bool) (k : Fin 14),
    (s.powered 0 = true → Gives (.oscillatorStart .x32) s (fun t =>
      t = { s with clk.x32Run := true, rtc.x32Seen := true })) ∧
    (s.powered 4 = true → s.clk.xrefEn = true → Gives (.oscillatorStart .xref) s (fun t =>
      t = { s with clk.xrefRun := true, clk.xrefFail := false })) ∧
    (s.powered 4 = true → s.clk.xhfEn = true →
      (s.boot.romMapped = false ∨ s.boot.attempt = none ∨ s.boot.romXhf = true → Gives (.oscillatorStart .xhf) s (fun t =>
        t = { s with clk.xhfRun := true, clk.xhfFail := false })) ∧
      (s.boot.romMapped = true → s.boot.attempt.isSome = true → s.boot.romXhf = false → s.boot.coreReset = false →
        Gives (.oscillatorStart .xhf) s (fun t => t.clk.xhfRun = true ∧ t.clk.xhfFail = false ∧ t.clk.pllEn = true ∧
          t.clk.refSel = .xhf ∧ t.boot = { s.boot with romXhf := true } ∧
          { t with clk := s.clk, boot := s.boot, chords := s.chords, fl.locked := s.fl.locked } = s))) ∧
    (s.pllActive = true → s.clk.refBusy = false → s.clk.running s.clk.refUse = true →
      Gives .pllLock s (fun t => t = { s with clk.pllLock := true, clk.pllStopped := false, clk.relocking := false })) ∧
    Writes (.clkSrcWrite q v) s (s.mayWriteReg q 16) 16 (fun u t =>
      t.clk.xhfEn = v.getLsbD 1 ∧ t.clk.xhfLp = v.getLsbD 2 ∧ t.clk.xhfRun = (u.clk.xhfRun && v.getLsbD 1) ∧
      (v.getLsbD 0 = false ∨ u.clk.ovenFitted = true →
        t.clk.xrefEn = v.getLsbD 0 ∧ t.clk.xrefRun = (u.clk.xrefRun && v.getLsbD 0)) ∧
      (v.getLsbD 0 = true → u.clk.ovenFitted = false → t.clk.xrefEn = u.clk.xrefEn ∧ t.clk.cfgRefused = true) ∧
      (field v 3 2 = 3#2 ∨ u.clk.refBusy = true ∨ (field v 3 2 = 0#2 ∧ u.clk.ovenFitted = false) →
        t.clk.refSel = u.clk.refSel ∧ t.clk.cfgRefused = true) ∧
      (field v 3 2 = 1#2 → u.clk.refBusy = false → t.clk.refSel = .xhf) ∧
      (v.getLsbD 5 = u.clk.engPll → t.clk.engPll = u.clk.engPll ∧ t.clk.engBusy = u.clk.engBusy) ∧
      (u.clk.engBusy = true → t.clk.engPll = u.clk.engPll ∧ t.clk.cfgRefused = true) ∧
      (v.getLsbD 5 = true → u.clk.engPll = false →
        u.sys.state = .hold ∨ clocksOk true u.clk.kdiv u.clk.sdiv u.pwr.vset = false →
        t.clk.engPll = false ∧ t.clk.cfgRefused = true) ∧
      (u.clk.engBusy = false → v.getLsbD 5 ≠ u.clk.engPll →
        v.getLsbD 5 = false ∨ (u.sys.state ≠ .hold ∧ clocksOk true u.clk.kdiv u.clk.sdiv u.pwr.vset = true) →
        t.clk.engPll = v.getLsbD 5 ∧ t.clk.engBusy = true) ∧
      { t with clk := u.clk, chords := u.chords, fl.locked := u.fl.locked } = u ∧
      t.clk.engUse = u.clk.engUse ∧ t.clk.refUse = u.clk.refUse) ∧
    Writes (.pllCfgWrite q v) s (s.mayWriteReg q 18) 18 (fun u t =>
      let pll := u.clk.engPll || u.clk.engUse
      let kOk := decide (8 ≤ (field v 1 7).toNat) && decide ((field v 1 7).toNat ≤ 80) &&
        clocksOk pll (field v 1 7) u.clk.sdiv u.pwr.vset
      let sOk := decide (10 ≤ (field v 8 7).toNat) && decide ((field v 8 7).toNat ≤ 80) &&
        clocksOk pll t.clk.kdiv (field v 8 7) u.pwr.vset
      t.clk.kdiv = (if kOk then field v 1 7 else u.clk.kdiv) ∧ t.clk.sdiv = (if sOk then field v 8 7 else u.clk.sdiv) ∧
      t.clk.cfgRefused = (u.clk.cfgRefused || !kOk || !sOk) ∧ t.clk.pllEn = v.getLsbD 0 ∧
      t.clk.pllLock = (u.clk.pllLock && v.getLsbD 0) ∧ t.clk.relocking = (u.clk.relocking && v.getLsbD 0) ∧
      { t with clk := u.clk, chords := u.chords, fl.locked := u.fl.locked } = u) ∧
    (s.clk.refBusy = true →
      Gives (.clockSwitchComplete .pllRef dead) s (fun t => t =
        { s with clk.refBusy := false, clk.refUse := s.clk.refSel, clk.oldDead := s.clk.oldDead || dead }) ∧
      Gives (.clockSwitchAbandon .pllRef) s (fun t => t =
        { s with clk.refBusy := false, clk.refSel := s.clk.refUse, clk.switchFail := true })) ∧
    (s.clk.engBusy = true →
      Gives (.clockSwitchComplete .engSrc dead) s (fun t => t =
        { s with clk.engBusy := false, clk.engUse := s.clk.engPll, clk.oldDead := s.clk.oldDead || dead }) ∧
      (s.clk.engUse = false ∨ s.vcoRuns = true → Gives (.clockSwitchAbandon .engSrc) s (fun t => t =
        { s with clk.engBusy := false, clk.engPll := s.clk.engUse, clk.switchFail := true })) ∧
      (s.clk.engUse = true → s.vcoRuns = false → Gives (.clockSwitchAbandon .engSrc) s (fun t => t =
        { s with clk.engBusy := false, clk.engPll := false, clk.engUse := false, clk.switchFail := true,
                 clk.ringForced := true }))) ∧
    Writes (.clkGateWrite q v) s (s.mayWriteReg q 19) 19 (fun u t =>
      t.clk = { u.clk with gateReg := field v 0 14, gateOpen := t.clk.gateOpen } ∧
      (∀ j, j < 14 → t.clk.gateOpen.getLsbD j =
        (v.getLsbD j || (u.clk.gateOpen.getLsbD j && (u.gatePending j || (j == 5 && u.pn.run.isSome))))) ∧
      { t with clk := u.clk, aux := u.aux } = u) ∧
    (s.powered 3 = true → s.clk.gateReg.getLsbD k.val = false → s.clk.gateOpen.getLsbD k.val = true →
      s.gatePending k.val = true → Gives (.gateForceClose k) s (fun t =>
        t.clk.gateForced = true ∧ (t.clk.gateOpen.getLsbD k.val = true → k.val = 5 ∧ s.pn.run.isSome = true) ∧
        (∀ e, (t.engine e).stores = (s.engine e).stores.filter fun x => !x.gates.contains k.val) ∧
        (∀ e, { t.engine e with stores := (s.engine e).stores } = s.engine e) ∧
        { t with eng := s.eng, clk.gateForced := s.clk.gateForced, clk.gateOpen := s.clk.gateOpen } = s))

/-- OVNRDY, the oven's warmth, XHF_DEV with its age, RETURN_QUAL, the release of HOLD and AUTO_FALLBACK complete with
their effects. OVNRDY takes its level (low while VIO is low), and its fall makes the oven cold; WARM_QUAL over a
running XREF that passes its monitor, with OVNRDY high and an oven source fitted, makes it warm. In grade OVEN-WARM
with XHF running a measurement writes XHF_DEV, limited to 16 bits and within one unit of the exact deviation (no
rule states its rounding), with age 0; the age advances by one, up to 63. In HOLD, with lock on a running reference
whose monitors can pass, RETURN_QUAL is met, and with AUTO_RELEASE releases. A RELEASE written with all conditions
met ends HOLD: DEV_STATE returns to LEFT, damp-force falls, and the clock fences of the measuring clusters fall;
without them it sets CFG_REFUSED. AUTO_FALLBACK in HOLD without lock selects XHF, or RING where XHF is in use, once.
Each clause says what else stays. -/
def Obligations.OvenDeviationAndHold : Prop :=
  ∀ (s : State) (q : Requester) (high : Bool) (n : Nat),
    let released := fun (u t : State) =>
      t.sys = { u.sys with state := u.sys.left, leftReq := false } ∧ t.clk.damp = false ∧ t.clk.qualMet = false ∧
      t.clk.fellBack = false ∧ (∀ cl ∈ measuringClusters, t.fence cl = { u.fence cl with clock := false }) ∧
      (∀ cl, cl ∉ measuringClusters → t.fence cl = u.fence cl) ∧ t.eng = u.eng ∧ t.ab = u.ab ∧ t.dl = u.dl ∧
      t.st = u.st ∧ t.rtc = u.rtc ∧ t.page = u.page
    Gives (.ovnrdyChange high) s (fun t =>
      let level := high && !s.pwr.vioLow
      t.clk.ovnrdy = level ∧ t.clk.ovenWarm = (s.clk.ovenWarm && level) ∧
      { t with clk.ovnrdy := s.clk.ovnrdy, clk.ovenWarm := s.clk.ovenWarm, clk.warmMoved := s.clk.warmMoved,
               chords := s.chords } = s) ∧
    (s.powered 4 = true → s.clk.ovenFitted = true → s.clk.ovnrdy = true → s.clk.xrefRun = true →
      s.clk.xrefFail = false → Gives .ovenWarmQualified s (fun t =>
        t = { s with clk.ovenWarm := true, clk.warmMoved := s.clk.warmMoved || !s.clk.ovenWarm })) ∧
    (s.gradeNow = .ovenWarm → s.clk.xhfRun = true → Gives (.xhfDevMeasure n) s (fun t =>
      t.clk.xhfDevAge = 0#6 ∧
      (let x := ((50 * n : Int) - 2 ^ 30) * 10000000
       (-32768 * 2 ^ 30 ≤ x → x ≤ 32767 * 2 ^ 30 →
         x - 2 ^ 30 < t.clk.xhfDev.toInt * 2 ^ 30 ∧ t.clk.xhfDev.toInt * 2 ^ 30 < x + 2 ^ 30) ∧
       (x < -32768 * 2 ^ 30 → t.clk.xhfDev.toInt = -32768) ∧ (32767 * 2 ^ 30 < x → t.clk.xhfDev.toInt = 32767)) ∧
      { t with clk.xhfDev := s.clk.xhfDev, clk.xhfDevAge := s.clk.xhfDevAge, freeCtr := s.freeCtr } = s)) ∧
    (s.powered 4 = true → Gives .xhfDevAgeAdvance s (fun t =>
      t.clk.xhfDevAge.toNat = min 63 (s.clk.xhfDevAge.toNat + 1) ∧
      { t with clk.xhfDevAge := s.clk.xhfDevAge } = s)) ∧
    (s.sys.state = .hold → s.clk.pllLock = true → s.clk.running s.clk.refUse = true →
      (s.clk.refUse ≠ .ring ∨ (s.clk.ringFail = false ∧ s.clk.x32Fail = false)) →
      (s.clk.autoRelease = false → Gives .returnQualMet s (fun t => t = { s with clk.qualMet := true })) ∧
      (s.clk.autoRelease = true → Gives .returnQualMet s (released s))) ∧
    Writes (.holdReleaseWrite q) s (s.mayWriteReg q 21) 21 (fun u t =>
      (u.sys.state = .hold → u.clk.pllLock = true → u.clk.qualMet = true →
        (u.clk.refUse ≠ .ring ∨ (u.clk.ringFail = false ∧ u.clk.x32Fail = false)) → released u t) ∧
      (u.sys.state ≠ .hold ∨ u.clk.pllLock = false ∨ u.clk.qualMet = false ∨
        (u.clk.refUse = .ring ∧ (u.clk.ringFail = true ∨ u.clk.x32Fail = true)) →
        t = { u with clk.cfgRefused := true })) ∧
    (s.sys.state = .hold → s.clk.autoFallback = true → s.clk.fellBack = false → s.clk.pllLock = false →
      s.clk.refBusy = false → Gives .autoFallback s (fun t =>
        t.clk.refSel = (if s.clk.refUse = .xhf then PllRef.ring else .xhf) ∧ t.clk.fellBack = true ∧
        t.clk.refBusy = true ∧ t.clk.refUse = s.clk.refUse ∧ t.clk.engPll = s.clk.engPll ∧
        { t with clk := s.clk, chords := s.chords, fl.locked := s.fl.locked } = s))

/-- A missing edge, a lost lock, a missed relock or a bad window of the reference leads to the safe state; other windows
set or clear flags. While the PLL works, a missing edge of its output or a loss of lock leads to the safe state with
fault code 0x0C, a missing edge of its reference with 0x0B; a relock that does not come leads there with 0x0C. While
the monitors count: a window of XHF or XREF out of limits leads there with 0x0B where that source is the reference
of an enabled PLL, and otherwise, where the source is enabled, sets its FAIL flag, stops it as running and sets
EVENT_FLAGS bit 2 once; a window within limits clears the flag. A bad X32 window sets X32_FAIL, latches fault 0x10
and sets bit 2 once; a good one clears it. A bad RING window, unless X32 has failed, leads to the safe state where
RING is the reference of an enabled PLL, and otherwise latches fault 0x11 and sets bit 2. -/
def Obligations.ClockFailuresLeadToHold : Prop :=
  ∀ (s : State) (n : Nat),
    let flag2 := fun (u : State) => if u.powered 3 then { u with sys.eventFlags := u.sys.eventFlags ||| 4#24 } else u
    let flagged := fun (u t : State) (code : Byte) =>
      FaultLogged u { t with sys := u.sys } code 0#8 ∧ t.sys = (flag2 u).sys
    (s.pllActive = true →
      Gives (.missingEdgeTrip true) s (SafeState { s with clk.pllStopped := true } · 0x0C#8) ∧
      Gives (.missingEdgeTrip false) s (SafeState s.refStopped · 0x0B#8) ∧
      (s.clk.pllLock = true → Gives .pllLockLoss s (SafeState s · 0x0C#8))) ∧
    (s.clk.relocking = true → s.clk.pllEn = true → s.clocksRun = true ∨ s.pwr.sleep = .exiting false →
      Gives .relockTimeout s (SafeState s · 0x0C#8)) ∧
    (s.powered 4 = true → s.clocksRun = true → s.clk.ringFail = false →
      (s.clk.refUse = .xhf → s.clk.pllEn = true → (n < 112 ∨ 144 < n) →
        Gives (.clockMonitorWindow .xhf n) s (SafeState { s with clk.xhfRun := false } · 0x0B#8)) ∧
      (s.clk.refUse = .xref → s.clk.pllEn = true → (n < 140 ∨ 180 < n) →
        Gives (.clockMonitorWindow .xref n) s (SafeState s.refStopped · 0x0B#8)) ∧
      ((s.clk.refUse ≠ .xhf ∨ s.clk.pllEn = false) → s.clk.xhfEn = true → (n < 112 ∨ 144 < n) →
        Gives (.clockMonitorWindow .xhf n) s (fun t =>
          t = (if s.clk.xhfFail then { s with clk.xhfRun := false }
               else flag2 { s with clk.xhfFail := true, clk.xhfRun := false }))) ∧
      ((s.clk.refUse ≠ .xref ∨ s.clk.pllEn = false) → s.clk.xrefEn = true → (n < 140 ∨ 180 < n) →
        Gives (.clockMonitorWindow .xref n) s (fun t =>
          let u := { s with clk.xrefFail := true, clk.xrefRun := false, clk.ovenWarm := false,
                            clk.warmMoved := s.clk.warmMoved || s.clk.ovenWarm }
          t = (if s.clk.xrefFail then u else flag2 u))) ∧
      (s.clk.xhfEn = true → 112 ≤ n → n ≤ 144 → Gives (.clockMonitorWindow .xhf n) s (fun t =>
        t = { s with clk.xhfFail := false, clk.xhfRun := true })) ∧
      (s.clk.xrefEn = true → 140 ≤ n → n ≤ 180 → Gives (.clockMonitorWindow .xref n) s (fun t =>
        t = { s with clk.xrefFail := false, clk.xrefRun := true })) ∧
      ((n < 376 ∨ 483 < n) → Gives (.clockMonitorWindow .x32 n) s (fun t =>
        let u := { s with clk.x32Fail := true, fl.x32Bad := true, clk.qualMet := s.clk.qualMet && s.clk.refUse != .ring }
        (s.clk.x32Fail = true → t = u) ∧ (s.clk.x32Fail = false → flagged u t 0x10#8))) ∧
      (376 ≤ n → n ≤ 483 → Gives (.clockMonitorWindow .x32 n) s (fun t => t = { s with clk.x32Fail := false })) ∧
      (s.clk.x32Fail = false → (n < 70313 ∨ 85938 < n) →
        (s.clk.refUse = .ring → s.clk.pllEn = true →
          Gives (.clockMonitorWindow .ring n) s (SafeState { s with clk.ringFail := true } · 0x0B#8)) ∧
        (s.clk.refUse ≠ .ring ∨ s.clk.pllEn = false →
          Gives (.clockMonitorWindow .ring n) s (flagged { s with clk.ringFail := true } · 0x11#8))) ∧
      (s.clk.x32Fail = true ∨ (70313 ≤ n ∧ n ≤ 85938) → Gives (.clockMonitorWindow .ring n) s (fun t => t = s)))

/-- A bridge carries payload and tag while up, repeats once after a parity error, and refuses with EVENT_FLAGS bit 3
while down. With both ends powered, on a link that is up payload and tag cross and are acknowledged, or are held
while the clocks of the far island stand still; a first parity error repeats the transfer, a second refuses it with
fault 0x0D; a link found down refuses with fault 0x0E what waits on it and the shot commands on their way over it.
On a link that is down a transfer is refused with fault 0x0E, latched without reset, or with EVENT_FLAGS bit 3 alone
through the fence of the bridge cluster. Towards an unpowered domain nothing arrives. A link goes up when both dies
have left reset, that fence is down and PD3 is powered. Nothing else changes but the count of delayed transfers. -/
def Obligations.BridgeTransfers : Prop :=
  ∀ (s : State) (b : Bridge) (p : W64) (tag : Byte),
    let flag3 := fun (u : State) => if u.powered 3 then { u with sys.eventFlags := u.sys.eventFlags ||| 8#24 } else u
    let set := fun (x : BridgeSt) => { s with br := s.br.set b x }
    let x := s.br.get b
    (s.powered (bridgeDomain b) = true → x.up = true →
      (s.powered 3 = true → s.clocksRun = true → Gives (.bridgeTransfer b p tag) s (fun t =>
        t.br = s.br.set b { x with repeated := false, last := some (p, tag) } ∧
        { t with br := s.br, pt.delayed := s.pt.delayed } = s)) ∧
      (s.powered 3 = true → s.clocksRun = false → Gives (.bridgeTransfer b p tag) s (fun t =>
        t = set { x with held := x.held ++ [(p, tag)] })) ∧
      (x.repeated = false → Gives (.bridgeParityError b) s (fun t => t = set { x with repeated := true })) ∧
      (x.repeated = true → Gives (.bridgeParityError b) s (fun t =>
        FaultLogged (flag3 (set { x with repeated := false })) t 0x0D#8 (bridgeUnit b)))) ∧
    (s.powered 3 = true → s.powered (bridgeDomain b) = true → x.up = false →
      (s.fenced .bridge = false → Gives (.bridgeTransfer b p tag) s (fun t =>
        FaultLogged (flag3 s) t 0x0E#8 (bridgeUnit b))) ∧
      (s.fenced .bridge = true → Gives (.bridgeTransfer b p tag) s (fun t => t = flag3 s))) ∧
    (s.powered (bridgeDomain b) = false → Gives (.bridgeTransfer b p tag) s (fun t => t = s)) ∧
    (x.up = true → Gives (.bridgeLinkDown b) s (fun t =>
      t.br = s.br.set b { x with up := false, repeated := false, held := [] } ∧
      (∀ m ∈ t.sv.inTransit, crosses b m.chord = false) ∧
      (s.fenced .bridge = false → Latched s t 0x0E#8 (bridgeUnit b) false false false) ∧
      (s.fenced .bridge = true → t.fault = s.fault) ∧
      (s.powered 3 = true → t.sys.eventFlags = s.sys.eventFlags ||| 8#24) ∧
      ((∀ m ∈ s.sv.inTransit, crosses b m.chord = false) →
        { t with br := s.br, sys := s.sys, fault := s.fault, log := s.log } = s))) ∧
    (x.up = false → Gives (.bridgeLinkDown b) s (fun t => t = s)) ∧
    (s.boot.coreReset = false → s.dieReset (bridgeDie b) = false → s.fenced .bridge = false → s.powered 3 = true →
      Gives (.bridgeLinkUp b) s (fun t => t = set { x with up := true, repeated := false })) ∧
    (s.fenced .bridge = true → Gives (.bridgeLinkUp b) s (fun t => t = s))

/-- PARITY_ERROR, LOCKSTEP_MISMATCH, WATCHDOG_EXPIRY and METROLOGY_FENCE_RESET complete with fence, latched cause,
restart or reset. In a powered metrology cluster a lockstep mismatch, a parity error and the watchdog of its engine
raise the metrology fence with causes 6, 8 and 7, each a cause that resets, as the predicate MetrologyFenced says;
METROLOGY_FENCE_RESET then resets the device. The watchdog of another engine that runs, and a parity error outside
the program memories in a cluster with engines, raise the cluster's fence, latch cause 7 or 8 without reset, restart
every engine of the cluster at its entry point with registers and data memory clear, and let the fence fall. A
parity error in the program memory of such a cluster leads to a firmware reset, cause 10. In a cluster without
engines the fence stays up with cause 8; in the bridge cluster every link goes down and a reset is due. No watchdog
of an engine that is halted, dozing or not watched expires. -/
def Obligations.FencesByFaults : Prop :=
  ∀ (s : State) (e : Eng) (cl : Cluster) (inProgram : Bool),
    let runs := fun (e : Eng) => s.powered (clusterDomain (engCluster e)) = true ∧ (s.engine e).wdEn = true ∧
      (s.engine e).halt = false ∧ (s.engine e).brkHalt = false ∧ (s.engine e).wait ≠ some .doze
    let restarts := fun (c : Cluster) (code unit : Byte) (t : State) =>
      Latched s t code unit false false false ∧
      (c = .customer → s.fenced c = false → DeliveryAborted s t 3) ∧ (c ≠ .customer → t.dl = s.dl) ∧
      (c ≠ .survey → t.chords = s.chords) ∧
      { t with eng := s.eng, fences := s.fences, fault := s.fault, log := s.log, chords := s.chords, dl := s.dl,
               out.aoHeld := s.out.aoHeld, freeCtr := s.freeCtr } = s ∧
      (∀ k, k ∈ clusterEngines c → (t.engine k).g = W64.zero32 ∧ (t.engine k).data = [] ∧
        (t.engine k).pc = s.entryPoint k ∧ (t.engine k).prog = (s.engine k).prog ∧
        (t.engine k).halt = (s.engine k).halt ∧ (t.engine k).wait = none) ∧
      (∀ k, k ∉ clusterEngines c → t.engine k = s.engine k) ∧ (∀ k, k ≠ c → t.fence k = s.fence k)
    (s.powered 2 = true →
      Gives .lockstepMismatch s (MetrologyFenced s · 6#8 (clusterUnit .metrology) (fun f => { f with lockstep := true })) ∧
      Gives (.parityError .metrology inProgram) s
        (MetrologyFenced s · 8#8 (clusterUnit .metrology) (fun f => { f with parity := true })) ∧
      (runs .k01 → Gives (.watchdogExpiry .k01) s
        (MetrologyFenced s · 7#8 (engUnit .k01) (fun f => { f with watchdog := true })))) ∧
    (s.boot.fenceReset = true → Gives .metrologyFenceReset s (fun t =>
      (s.powered 1 = false → BootsAgain s t) ∧ (s.powered 1 = true → BootsAgain s.tearPage t) ∧
      t.fault = s.fault ∧ t.keys = s.keys ∧ t.rtc.cal = s.rtc.cal)) ∧
    (s.boot.fenceReset = false → Gives .metrologyFenceReset s (fun t => t = s)) ∧
    (e ≠ .k01 → runs e → Gives (.watchdogExpiry e) s (fun t =>
      restarts (engCluster e) 7#8 (engUnit e) t ∧
      t.fence (engCluster e) = { s.fence (engCluster e) with watchdog := false })) ∧
    ((s.engine e).wdEn = false ∨ (s.engine e).halt = true ∨ (s.engine e).brkHalt = true ∨
        (s.engine e).wait = some .doze → Gives (.watchdogExpiry e) s (fun t => t = s)) ∧
    (s.powered (clusterDomain cl) = true →
      (clusterEngines cl = [] → cl ≠ .bridge → Gives (.parityError cl inProgram) s (fun t =>
        t.fences = s.fences.set (clusterIdx cl) { s.fence cl with parity := true } ∧
        FaultLogged (s.raiseFence cl (fun f => { f with parity := true })) t 8#8 (clusterUnit cl) ∧
        Latched s t 8#8 (clusterUnit cl) false false false ∧ t.eng = s.eng ∧ t.ab = s.ab ∧ t.keys = s.keys ∧
        t.rtc = s.rtc)) ∧
      (clusterEngines cl ≠ [] → cl ≠ .metrology →
        Gives (.parityError cl false) s (fun t => restarts cl 8#8 (clusterUnit cl) t ∧
          t.fence cl = { s.fence cl with parity := false }) ∧
        Gives (.parityError cl true) s (fun t =>
          CommitsAndBoots { (s.raiseFence cl (fun f => { f with parity := true })).faultNoReset 8#8 (clusterUnit cl) with
            fault := t.fault } t ∧
          (s.resetActs = false → t.fault = ⟨0x0A#8, 0#8, false, false, true, true⟩)))) ∧
    (s.powered 3 = true → Gives (.parityError .bridge inProgram) s (fun t =>
      t.fences = s.fences.set (clusterIdx .bridge) { s.fence .bridge with parity := true } ∧
      t.boot = { s.boot with fenceReset := true } ∧ t.ab = { s.ab with frozen := true } ∧
      Latched s t 8#8 (clusterUnit .bridge) true false false ∧ t.eng = s.eng ∧ t.keys = s.keys ∧
      (s.fenced .bridge = false → (∀ b, (t.br.get b).up = false) ∧ t.sv.inTransit = [] ∧
        t.sys.eventFlags = s.sys.eventFlags ||| 8#24) ∧
      { t with fences := s.fences, boot := s.boot, ab := s.ab, fault := s.fault, br := s.br, sv.inTransit := s.sv.inTransit,
               sys := s.sys } = s))

/-- Each reset kind latches its cause and resets PD1 to PD7; command resets and RESET_N commit the rods first; releases
begin BOOT where it may. DEV_RESET by a port that reaches HOST_CTRL (cause 9), SYS reset by an engine other than K3
(10) and RESET_N low (5) latch their cause and reset as CommitsAndBoots says; with RESET_N low the device stays in
BACKUP until its release. A brown-out (4 in HP, 3 in LP, which NAP counts as) and a power-on reset of a die (4, with
the die's unit) latch their cause with the current limits and reset at once, a page in flight torn, as BootsAgain
says. DEV_RESET by an engine, a second RESET_N low and a brown-out with no domain on leave everything; SYS reset by
K3 traps PRIV. A release of RESET_N takes the level of FTEST; BOOT begins where FTEST is low, a source is selected
and PD0 is out of reset. A backup power-on reset also resets PD0: calendar, fault latch, wake registers; its release
powers PD0 and begins BOOT where it may. -/
def Obligations.ResetsOfTheDevice : Prop :=
  ∀ (s : State) (e : Eng) (q : Requester) (d : Die) (f : Bool),
    let boots := fun (u t : State) =>
      t = { u with sys.state := .boot, pwr.change := some ⟨1, true⟩,
                   pwr.changes := [⟨3, true⟩, ⟨2, true⟩, ⟨4, true⟩, ⟨6, true⟩], pwr.on := u.pwr.on ||| 2#8 }
    let torn := fun (u t : State) => (s.powered 1 = false → BootsAgain u t) ∧ (s.powered 1 = true → BootsAgain u.tearPage t)
    (isPort q = true → Writes (.devReset q) s (s.mayWriteReg q 6) 6 (fun u t =>
      Latched u t 9#8 0#8 true false false ∧ CommitsAndBoots { u with fault := t.fault } t)) ∧
    (isPort q = false → Gives (.devReset q) s (fun t => t = s)) ∧
    (Clear s e → e ≠ .k3 → Gives (.sysReset e) s (fun t =>
      Latched s t 0x0A#8 0#8 true false false ∧ CommitsAndBoots { s with fault := t.fault } t)) ∧
    (e = .k3 → Ready s e → (s.engine e).inTrap = false →
      Gives (.sysReset e) s (fun t => Traps s t e .priv (wordOf (.sysReset e)))) ∧
    (s.boot.pinLow = false → Gives .resetNAssert s (fun t =>
      Latched s t 5#8 0#8 true false false ∧ CommitsAndBoots { s with fault := t.fault, boot.pinLow := true } t ∧
      t.boot.pinLow = true ∧ t.sys.state = .backup ∧ t.pwr.change = none)) ∧
    (s.boot.pinLow = true → Gives .resetNAssert s (fun t => t = s)) ∧
    (s.boot.pinLow = true →
      (f = false → s.boot.backupReset = false → s.pwr.source ≠ .none → Gives (.resetNRelease f) s
        (boots { s with boot.pinLow := false, boot.ftest := false })) ∧
      (f = true ∨ s.boot.backupReset = true ∨ s.pwr.source = .none → Gives (.resetNRelease f) s
        (fun t => t = { s with boot.pinLow := false, boot.ftest := f }))) ∧
    (s.boot.pinLow = false → Gives (.resetNRelease f) s (fun t => t = s)) ∧
    (s.pwr.on &&& 0xFE#8 ≠ 0#8 →
      Gives .brownOut s (fun t => torn { s with fault := t.fault } t ∧
        Latched s t (if s.pwr.regHP = true ∧ s.pwr.sleep ≠ .asleep false then 4#8 else 3#8) 0#8 true
          s.pwr.vinIlim s.pwr.vbatIlim) ∧
      Gives (.diePowerOnReset d) s (fun t => torn { s with fault := t.fault } t ∧
        Latched s t 4#8 (dieUnit d) true s.pwr.vinIlim s.pwr.vbatIlim)) ∧
    (s.pwr.on &&& 0xFE#8 = 0#8 → Gives .brownOut s (fun t => t = s) ∧ Gives (.diePowerOnReset d) s (fun t => t = s)) ∧
    Gives .backupPowerOnReset s (fun t => t.rtc = Rtc.reset ∧ t.fault = FaultLatch.powerOn ∧ t.sys.state = .off ∧
      t.pwr.on = 0#8 ∧ t.pwr.ready = 0#8 ∧ t.pwr.wakeEn = 0#7 ∧ t.pwr.wakeCause = 0#8 ∧ t.pwr.wakeLead = 4#8 ∧
      t.pwr.driveOt = false ∧ t.pwr.source = .none ∧ t.pwr.vinOk = s.pwr.vinOk ∧ t.pwr.vbatOk = s.pwr.vbatOk ∧
      t.boot = { Boot.reset with backupReset := true, pinLow := s.boot.pinLow, ftest := s.boot.ftest } ∧
      t.fences = Vector.replicate 38 Fence.unpowered ∧ t.keys = s.keys ∧ t.eng = Engines.reset ∧
      t.er = EngineRegs.reset ∧ t.ab = Abacus.cleared ∧ t.sv = Survey.reset ∧ t.log = EventLog.reset ∧
      t.st.flight = none ∧ t.st.rodA.isSome = s.st.rodA.isSome ∧ t.sram = [] ∧ t.page = []) ∧
    (s.boot.backupReset = true → Gives .backupResetRelease s (fun t =>
      let u := { s with boot.backupReset := false, pwr.on := 1#8, pwr.ready := 1#8, sys.state := .backup,
                        pwr.source := selectSource s.pwr.pathBat s.pwr.vinOk s.pwr.vbatOk,
                        fences := s.fences.set 34 Fence.clear }
      (s.boot.pinLow = false → s.boot.ftest = false → u.pwr.source ≠ .none → boots u t) ∧
      (s.boot.pinLow = true ∨ s.boot.ftest = true ∨ u.pwr.source = .none → t = u))) ∧
    (s.boot.backupReset = false → Gives .backupResetRelease s (fun t => t = s))

/-- A shot command is entered with its marks, late or accepted; its fire edge starts the burst, whose phases end in
RELEASED. The oldest command on its way to a chord reaches it where the clocks run: with marks of its own, at a
chord that is OFF or blocked (ABORTED), late, or with the marks of the settings that it latches it is entered
unfired, with GAIN_LIMIT where the chord carries it; otherwise it waits. At the fire edge the first waiting shot is
entered unfired where its chord is blocked, OFF or has a shorted port; it stays while an earlier shot is in flight
or deferred; under BLANK it joins the deferred queue; otherwise it fires: listening port LISTEN and firing port
DRIVE (PARK where it listens only, is dropped or PD6 is off; a shorted port stays parked), start stamp of its lane,
grade and tc. BURST_END, ANTI_PHASE_END and CLAMP_END move the firing port on to ANTI, CLAMP and RELEASED; a release
inside the window marks CLAMP_OVERLAP and takes back what the detector did in the 80 periods before it. A drive that
does not reach parks and marks the port. MUTE_END ends the mute. Without such a command, shot or port state each
does nothing. -/
def Obligations.ShotsAcceptedAndFired : Prop :=
  ∀ (s : State) (c : Chord) (cmd : ShotCmd) (before rest : List ShotCmd) (ok low : Bool) (tap tap' : Byte)
    (sh : Shot) (more : List Shot),
    let u := ({ s with sv.inTransit := before ++ rest, sv.vdrvOk := ok }).hop (chordHops c)
    let la := u.latchShot cmd
    let limit := markIf (s.chord c).gainLimit Mark.gainLimit
    let entered := fun (m : BitVec 38) => Gives (.fireCommandArrival c ok) s (fun t =>
      Queued u t c (({ la with marks := m ||| limit }).entry 0#40 0#64 0#64))
    let now := (s.lane sh.lane).coarse
    let becomes := fun (p : PortState) (x : Shot) (t : State) =>
      t = s.modChord c fun ch => { ch.setFiring sh.cmd.up p with cur := some x }
    let old := fun (r : BitVec 24) => decide (80 < (now - r).toNat)
    let trip := sh.tripAt.filter old
    let keeps := sh.grid || (trip.isSome && sh.tpRaw.all fun r => old (field r 16 24))
    let releases := fun (high : Bool) (t : State) =>
      (sh.winOpen = false → becomes .released { sh with discharges := high } t) ∧
      (sh.winOpen = true → becomes .released { sh with
        discharges := high, marks := sh.marks ||| Mark.clampOverlap, relAt := some now, tripAt := trip,
        counted := (if trip.isSome then sh.counted.filter old else []), tp := (if keeps then sh.tp else none),
        tpRaw := (if keeps then sh.tpRaw else none) } t)
    (s.clocksRun = true → s.sv.inTransit = before ++ cmd :: rest → (∀ x ∈ before, x.chord ≠ c) → cmd.chord = c →
      (cmd.marks ≠ 0#38 → entered cmd.marks) ∧
      (cmd.marks = 0#38 →
        ((s.chord c).state = .off ∨ s.shotBlocked c = true → entered Mark.aborted) ∧
        ((s.chord c).state ≠ .off → s.shotBlocked c = false →
          (u.isLate la = true ∨ cmd.target < s.sv.timeBase + 80 ∨ (s.chord c).unsent ≠ [] → entered Mark.late) ∧
          (u.isLate la = false → u.refusalMarks la ≠ 0#38 → entered (u.refusalMarks la)) ∧
          (u.isLate la = false → u.refusalMarks la = 0#38 →
            Gives (.fireCommandArrival c ok) s (fun t => t = u.modChord c fun ch => { ch with
              waiting := ch.waiting ++ [{ la with marks := markIf (!cmd.listen && !ok) Mark.lowDrive ||| limit }] }))))) ∧
    (s.clocksRun = false ∨ (∀ x ∈ s.sv.inTransit, x.chord ≠ c) →
      Gives (.fireCommandArrival c ok) s (fun t => t = s)) ∧
    ((s.chord c).waiting = sh :: more → sh.cmd.chord = c →
      let barred := s.shotBlocked c = true ∨ (s.chord c).state = .off
      let short := sh.cmd.listen = false ∧ (s.chord c).shorted = true
      let drives := !sh.cmd.listen && !s.dropped sh && s.powered 6
      (barred ∨ short → Gives (.fireEdge c tap tap' low) s (fun t =>
        (t.chord c).waiting = more ∧ (∀ k, k ≠ c → t.chord k = s.chord k) ∧
        { t with chords := s.chords, sv.queueN := s.sv.queueN, sv.queueS := s.sv.queueS } = s ∧
        t.resultsOf c = s.resultsOf c ++ [({ sh with
          marks := sh.marks ||| markIf (s.shotBlocked c || (s.chord c).state == ChordState.off) Mark.aborted |||
            markIf (!sh.cmd.listen && (s.chord c).shorted) Mark.driveFault }).entry 0#40
              (if sh.fired ∧ !sh.grid then sh.startWord else 0#64) 0#64])) ∧
      (¬barred → ¬short →
        (s.hasDeferred c = true ∨ (s.chord c).cur ≠ none → Gives (.fireEdge c tap tap' low) s (fun t => t = s)) ∧
        (s.hasDeferred c = false → (s.chord c).cur = none →
          (s.aux.blankEn = true → s.aux.blankActive = true ∨ s.aux.deferred ≠ [] →
            Gives (.fireEdge c tap tap' low) s (fun t => t = s.deferShot sh ∧ t.hasDeferred c = true ∧
              { t with aux.deferred := s.aux.deferred } = s ∧ (s.aux.deferred = [] →
                t.aux.deferred = [{ target := sh.cmd.target, members := [c] }]))) ∧
          (s.aux.blankEn = false ∨ (s.aux.blankActive = false ∧ s.aux.deferred = []) →
            Gives (.fireEdge c tap tap' low) s (fun t =>
              (t.chord c).cur = some { sh with
                fired := true, muted := true, ts := (s.lane sh.lane).stamp 0#24 tap, edgeAt := now, trav := s.sv.tc.setWidth 8,
                grade := s.gradeNow, shadowTs := (s.shadowLane c).map fun k => (s.lane k).stamp 0#24 tap',
                marks := sh.marks ||| markIf (s.dropped sh) Mark.ptDrop ||| markIf (drives && low) Mark.openLoad } ∧
              (t.chord c).waiting = more ∧ (t.chord c).lastRange = sh.range ∧
              (t.chord c).firingPort sh.cmd.up = (if drives then .drive else .park) ∧
              (t.chord c).listeningPort sh.cmd.up = (if s.portFree c (!sh.cmd.up) then .listen else .park) ∧
              t.pt.drops = (if s.dropped sh then satCount s.pt.drops else s.pt.drops) ∧
              (∀ k, k ≠ c → t.chord k = s.chord k) ∧ { t with chords := s.chords, pt.drops := s.pt.drops } = s))))) ∧
    ((s.chord c).waiting = [] → Gives (.fireEdge c tap tap' low) s (fun t => t = s)) ∧
    ((s.chord c).cur = some sh →
      let fp := (s.chord c).firingPort sh.cmd.up
      Gives (.muteEnd c) s (fun t => t = s.modChord c fun ch => { ch with cur := some { sh with muted := false } }) ∧
      (fp = .drive →
        (dpAnti sh.drive ≠ 0 → Gives (.burstEnd c) s (becomes .anti sh)) ∧
        (dpAnti sh.drive = 0 → dpClamp sh.drive ≠ 0 → Gives (.burstEnd c) s (becomes .clamp sh)) ∧
        (dpAnti sh.drive = 0 → dpClamp sh.drive = 0 → Gives (.burstEnd c) s
          (releases (cycleInverted sh.drive (burstPeriods sh.drive - 1))))) ∧
      (fp ≠ .drive → Gives (.burstEnd c) s (fun t => t = s)) ∧
      (fp = .drive ∨ fp = .anti → Gives (.driveReachFail c) s (fun t =>
          t = ({ s with chords := s.chords.set c ({ (s.chord c).setFiring sh.cmd.up .park with
            shorted := true, faultB := sh.cmd.up, cur := some { sh with marks := sh.marks ||| Mark.driveFault } }),
                        sv.portFault := true }).event 4)) ∧
      (fp ≠ .drive → fp ≠ .anti → Gives (.driveReachFail c) s (fun t => t = s)) ∧
      (fp = .anti →
        (dpClamp sh.drive ≠ 0 → Gives (.antiPhaseEnd c) s (becomes .clamp sh)) ∧
        (dpClamp sh.drive = 0 → Gives (.antiPhaseEnd c) s (releases sh.endsHigh))) ∧
      (fp ≠ .anti → Gives (.antiPhaseEnd c) s (fun t => t = s)) ∧
      (fp = .clamp → Gives (.clampEnd c) s (releases sh.discharges)) ∧
      (fp ≠ .clamp → Gives (.clampEnd c) s (fun t => t = s))) ∧
    ((s.chord c).cur = none → ∀ i ∈ [Instr.muteEnd c, .burstEnd c, .antiPhaseEnd c, .clampEnd c, .driveReachFail c],
      Gives i s (fun t => t = s))

/-- The window arms detector or capture; crossings count to the stop edge; the close, or the correlation, queues the
result entry. At the gate edge the window of the shot in flight opens (the boost stops for quiet with BOOST_QUIET);
in grid timing the first divider edge inside it gives the grid stamp and opens the capture, with the lane's test
offset marked. The detector trips once where it is armed and not blanked, CLIPPED from threshold 250; crossings
after it are counted to ZC, then the next of polarity POL is the stop edge; before its span it marks EARLY_EDGE or
SPAN_SHIFT, after it nothing. Full scale marks CLIPPED unless muted, a clamp of the listening port CLAMPED, a boost
that resumes at its limit RAIL_NOISE, all in an open window. A capture ends with its samples packed, its descriptor
written and the correlator word started. With no rotation step in progress the close parks both ports, settles the
peak and the clip step and queues the entry with its marks, Tp - Ts or 0, under SYNTH_DT shifted; in grid timing
with a capture the entry follows the correlation, which writes its result words. Each does nothing without its shot. -/
def Obligations.ShotsTimedAndEntered : Prop :=
  ∀ (s : State) (c : Chord) (sh : Shot) (phase : BitVec 24) (tap tap' : Byte) (falling portB : Bool) (k : Fin 27) (cl : Fin 47)
    (samples : List (Int × Bool)) (vmax : Nat) (more : List Shot) (w0 w1 : W64),
    let l := s.lane sh.lane
    let off := s.stopOffset sh.lane
    let offMark := markIf (s.pt.stopOffset[sh.lane] != 0#24) Mark.ptOffset
    let becomes := fun (x : Shot) (t : State) => t = s.modChord c fun ch => { ch with cur := some x }
    let noted := fun (t : State) => (∀ j, j ≠ c → t.chord j = s.chord j) ∧
      t.pt.offset = (if s.pt.stopOffset[sh.lane] = 0#24 then s.pt.offset else satCount s.pt.offset)
    let n := max 1 (rxDiv sh.rx)
    let d0 := BitVec.ofNat 24 (phase.toNat % n)
    let delay := if l.stamp d0 tap + off - sh.ts < sh.wOpen then d0 + BitVec.ofNat 24 n else d0
    let g := l.stamp delay tap + off - sh.ts
    let quiet := s.sv.boostStopped || (s.sv.boostQuiet && !s.windowOpenAnywhere)
    let armed := sh.cdiv = false ∨ sh.grid = true ∨ (predTicks sh.pred : Int) - (rxZc sh.rx + 2) * sh.period <
      (((l.coarse.setWidth 40 <<< 16) - sh.ts).toNat : Int) + 65536
    let d := (l.stamp 0#24 tap + off - sh.ts).toNat
    let lo := if sh.cdiv then max sh.wOpen.toNat (predTicks sh.pred - 2 * dpHalf sh.drive * 65536) else sh.wOpen.toNat
    let hi := if sh.cdiv then min sh.wClose.toNat (predTicks sh.pred + 2 * dpHalf sh.drive * 65536) else sh.wClose.toNat
    let crosses := sh.winOpen = true ∧ sh.tripAt ≠ none ∧ sh.tp = none ∧ sh.grid = false ∧ s.blankedNow c sh = false
    let xs := (samples.take (sh.sampleLimit (2 ^ 40))).zipIdx.map fun x =>
      storeSample (sh.sampleBlank x.2) (adcCode x.1.1) x.1.2
    let at' := capDesc sh.cmd.up (rxLen sh.rx)
    let v := s.pt.synth[c]
    let shifted := fun (time : BitVec 40) => if v = 0#24 then time else synthShift v sh.cmd.up time
    let synth := fun (y : Shot) => { y with marks := y.marks ||| markIf (v != 0#24) Mark.ptSynth }
    let limits := fun (x : Shot) => anyMark x.marks Mark.clipped && rgAgcEn ((s.chord c).live.get offRXG) && !s.sv.agcHold
    let steps := fun (x : Shot) => limits x && decide (rgMin ((s.chord c).live.get offRXG) < (s.chord c).range.toNat)
    let settled := fun (x : Shot) => { x with marks := x.marks ||| markIf (limits x && !steps x) Mark.gainLimit }
    let captured' := fun (t : State) =>
      (t.chord c).cap = (writeWords (s.chord c).cap (capBase sh.cmd.up (rxLen sh.rx)) (packSamples xs)).set at'
        ((t.chord c).cap.get at') ∧
      field ((t.chord c).cap.get at') 0 13 = BitVec.ofNat 13 xs.length ∧
      ((t.chord c).cap.get at').getLsbD 23 = true ∧ ((t.chord c).cap.get at').getLsbD 50 = false ∧
      ((t.chord c).corrStart sh.cmd.up).getLsbD 45 = false ∧ ∀ j, j ≠ c → t.chord j = s.chord j
    let ended : Shot := { sh with
      cap := .done, capEnd := (s.sv.timeBase : Int), peak := capPeak xs,
      marks := sh.marks ||| markIf (xs.any fun w => w.getLsbD 14) Mark.clipped }
    let closed : Shot := { sh with
      winOpen := false, peak := (if sh.grid then sh.peak else peakOf vmax),
      marks := sh.marks ||| markIf (sh.tripAt == none) Mark.noArrival |||
        markIf (sh.tp.isNone && (sh.grid || sh.cdiv || sh.tripAt != none)) Mark.noStop }
    let parked := fun (t : State) => (t.chord c).cur = none ∧ (t.chord c).portA = .park ∧ (t.chord c).portB = .park ∧
      (∀ j, j ≠ c → t.chord j = s.chord j) ∧ { t with chords := s.chords, sv := s.sv, pt.synths := s.pt.synths } = s
    ((s.chord c).cur = some sh → sh.cmd.chord = c →
      (sh.winOpen = true → Gives (.stopWindowOpen c phase tap tap') s (fun t => t = s)) ∧
      (sh.winOpen = false → sh.grid = false → Gives (.stopWindowOpen c phase tap tap') s (fun t =>
        t = ({ s with sv.boostStopped := quiet }).modChord c fun ch => { ch with cur := some { sh with winOpen := true } })) ∧
      (sh.winOpen = false → sh.grid = true → Gives (.stopWindowOpen c phase tap tap') s (fun t =>
        noted t ∧ t.sv.boostStopped = quiet ∧
        { t with chords := s.chords, sv.boostStopped := s.sv.boostStopped, pt.offset := s.pt.offset } = s ∧
        (sh.wOpen ≤ g → g < sh.wClose →
          (t.chord c).cur = some { sh with
            winOpen := true, cap := .open, tp := some (l.stamp delay tap + off), tpRaw := some (l.stamp delay tap),
            shadowTp := (s.shadowLane c).map (fun k => (s.lane k).stamp delay tap'), marks := sh.marks ||| offMark } ∧
          field ((t.chord c).cap.get at') 0 13 = 0#13 ∧ ((t.chord c).cap.get at').getLsbD 23 = false ∧
          field ((t.chord c).cap.get at') 24 8 = field ((s.chord c).cap.get at') 24 8 + 1#8) ∧
        (g < sh.wOpen ∨ sh.wClose ≤ g → (t.chord c).cap = (s.chord c).cap ∧
          (t.chord c).cur = some { sh with winOpen := true, marks := sh.marks ||| offMark }))) ∧
      (sh.winOpen = true → sh.tripAt = none → armed → s.blankedNow c sh = false → Gives (.firstWaveTrip c) s
        (becomes { sh with tripAt := some l.coarse, counted := [],
                           marks := sh.marks ||| markIf (decide (250 ≤ rxThresh sh.rx)) Mark.clipped })) ∧
      (sh.winOpen = false ∨ sh.tripAt ≠ none ∨ ¬armed ∨ s.blankedNow c sh = true →
        Gives (.firstWaveTrip c) s (fun t => t = s)) ∧
      (crosses →
        (sh.counted.length < rxZc sh.rx → Gives (.zeroCrossing c falling tap tap') s
          (becomes { sh with counted := sh.counted ++ [l.coarse] })) ∧
        (rxZc sh.rx ≤ sh.counted.length → falling ≠ rxFalling sh.rx →
          Gives (.zeroCrossing c falling tap tap') s (fun t => t = s)) ∧
        (rxZc sh.rx ≤ sh.counted.length → falling = rxFalling sh.rx →
          (d < lo → Gives (.zeroCrossing c falling tap tap') s (becomes { sh with
            marks := sh.marks ||| markIf (decide (d < sh.wOpen.toNat)) Mark.earlyEdge |||
              markIf (sh.cdiv && decide (d + 2 * dpHalf sh.drive * 65536 < predTicks sh.pred)) Mark.spanShift })) ∧
          (lo ≤ d → hi ≤ d → Gives (.zeroCrossing c falling tap tap') s (fun t => t = s)) ∧
          (lo ≤ d → d < hi → Gives (.zeroCrossing c falling tap tap') s (fun t => noted t ∧
            { t with chords := s.chords, pt.offset := s.pt.offset } = s ∧
            (t.chord c).cur = some { sh with
              tp := some (l.stamp 0#24 tap + off), tpRaw := some (l.stamp 0#24 tap), marks := sh.marks ||| offMark,
              shadowTp := (s.shadowLane c).map (fun k => (s.lane k).stamp 0#24 tap') })))) ∧
      (¬crosses → Gives (.zeroCrossing c falling tap tap') s (fun t => t = s)) ∧
      Gives (.amplifierClip c) s (becomes { sh with
        marks := sh.marks ||| markIf (sh.winOpen && !s.mutedNow c sh) Mark.clipped }) ∧
      (s.clampsArmed = true → s.powered 4 = true → (10 ≤ c.val → s.powered 5 = true) → k.val = 7 + c.val →
        cl.val = 7 + 2 * c.val + (if portB then 1 else 0) →
        Gives (.clampConduct cl) s (fun t =>
          (t.chord c).cur = some { sh with marks := sh.marks ||| markIf (sh.winOpen && sh.cmd.up != portB) Mark.clamped } ∧
          t.aux = { s.aux with clamp := s.aux.clamp ||| (1#27 <<< k.val) } ∧ (∀ j, j ≠ c → t.chord j = s.chord j) ∧
          t.sys.eventFlags = (if s.powered 3 && !s.aux.clamp.getLsbD k.val then s.sys.eventFlags ||| 0x80#24
            else s.sys.eventFlags) ∧ { t with chords := s.chords, aux := s.aux, sys := s.sys } = s)) ∧
      (sh.winOpen = true → s.lr.step = none →
        (sh.grid = false → sh.cap ≠ .open → Gives (.stopWindowClose c vmax) s (fun t =>
          (∀ p, sh.tp = some p → t.resultsOf c = s.resultsOf c ++ [(synth (settled closed)).entry (shifted (p - sh.ts))
            sh.startWord (place 64 0 (sh.ts + shifted (p - sh.ts)))]) ∧
          (sh.tp = none → t.resultsOf c = s.resultsOf c ++ [(settled closed).entry 0#40
            (if sh.fired then sh.startWord else 0#64) 0#64]) ∧
          parked t ∧ (t.chord c).range = (if steps closed then (s.chord c).range - 1#3 else (s.chord c).range) ∧
          (if sh.cmd.up then (t.chord c).peakUp else (t.chord c).peakDn) = peakOf vmax)) ∧
        (sh.grid = true → sh.res = none → sh.tp = none → sh.cap ≠ .open → Gives (.stopWindowClose c vmax) s (fun t =>
          parked t ∧ t.resultsOf c = s.resultsOf c ++ [(settled closed).entry 0#40 0#64 0#64])) ∧
        (sh.grid = true → sh.res = none → sh.tp ≠ none → Gives (.stopWindowClose c vmax) s (fun t =>
          parked t ∧ t.resultsOf c = s.resultsOf c ∧ (t.chord c).correlating = (s.chord c).correlating ++
            [if sh.cap = .open then closed else settled closed])) ∧
        (sh.grid = true → sh.res = some (w0, w1) → sh.cap ≠ .open → Gives (.stopWindowClose c vmax) s (fun t =>
          parked t ∧ t.resultsOf c = s.resultsOf c ++
            [(synth (settled closed)).entry (shifted (field w0 0 40)) w0 w1]))) ∧
      (sh.winOpen = false → Gives (.stopWindowClose c vmax) s (fun t => t = s)) ∧
      (sh.cap = .open → (s.chord c).correlating = [] → Gives (.captureEnd c samples) s (fun t =>
        captured' t ∧ (t.chord c).cur = some ended ∧
        { t with chords := s.chords, sv.boostStopped := s.sv.boostStopped } = s)) ∧
      ((s.chord c).correlating = [] → sh.cap = .done → sh.res = none → Gives (.correlationComplete c) s (fun t =>
        let o := s.correlate sh
        let r0 := o.word0 sh ((s.chord c).corrStart sh.cmd.up)
        t = ({ s with freeCtr := s.freeCtr + 6 }).modChord c fun ch => { ch.setCorr sh.cmd.up r0 o.word1 with
          cur := some { sh with marks := sh.marks ||| o.marks sh, res := some (r0, o.word1) } }))) ∧
    ((s.chord c).cur = none → (s.chord c).correlating = [] → ∀ i ∈ [Instr.stopWindowOpen c phase tap tap',
      .firstWaveTrip c, .zeroCrossing c falling tap tap', .amplifierClip c, .stopWindowClose c vmax,
      .captureEnd c samples, .correlationComplete c], Gives i s (fun t => t = s)) ∧
    (s.sv.boostStopped = true → Gives .boostQuietLimit s (fun t =>
      (∀ j, t.chord j = { s.chord j with cur := (s.chord j).cur.map fun x => { x with
        marks := x.marks ||| markIf (x.winOpen && s.sv.boostEn && s.powered 6 && !s.pwr.driveOt) Mark.railNoise } }) ∧
      t.sv.boostStopped = false ∧ { t with chords := s.chords, sv.boostStopped := true } = s)) ∧
    (s.sv.boostStopped = false → Gives .boostQuietLimit s (fun t => t = s)) ∧
    ((s.chord c).correlating = sh :: more → sh.cmd.chord = c → sh.cap = .open → s.lr.step = none →
      Gives (.captureEnd c samples) s (fun t => captured' t ∧ (t.chord c).correlating = settled ended :: more ∧
        (t.chord c).range = (if steps ended then (s.chord c).range - 1#3 else (s.chord c).range) ∧
        { t with chords := s.chords, sv.boostStopped := s.sv.boostStopped } = s)) ∧
    ((s.chord c).correlating = sh :: more → sh.cmd.chord = c → sh.cap = .done →
      Gives (.correlationComplete c) s (fun t =>
        let o := s.correlate sh
        let r0 := o.word0 sh ((s.chord c).corrStart sh.cmd.up)
        (t.chord c).corrStart sh.cmd.up = r0 ∧ (t.chord c).correlating = more ∧
        t.resultsOf c = s.resultsOf c ++
          [(synth { sh with marks := sh.marks ||| o.marks sh }).entry (shifted (field r0 0 40)) r0 o.word1] ∧
        (∀ j, j ≠ c → t.chord j = s.chord j) ∧ t.freeCtr = s.freeCtr + 6 ∧
        { t with chords := s.chords, sv.queueN := s.sv.queueN, sv.queueS := s.sv.queueS, pt.synths := s.pt.synths,
                 freeCtr := s.freeCtr } = s))

/-- A boundary counts the traverse, brings settings into force, closes and opens traverses; the judgement moves chords
by Table 10-5; RUN and AT. With RUN = 1 and PD2 powered a boundary advances tc, restarts the time base, brings
TIMING, FIRING, AGC_HOLD, boost, band, TRAV_PERIOD and CHORD_EN into force, sets OVERRUN where entries are owed and
LATE_START without lock, empties the deferred queue and ends the ATs that wait; a chord turned off is OFF, one newly
enabled in PROBATION, and with a perturbation lock pending a perturbed one that is not OFF in PROBATION. Outside
HOLD it closes the traverses with nothing owed and opens the new one; a sole traverse so closed leaves each chord of
unchanged enable as the judgement does, ACTIVE after eight counted traverses, where the new one has a chord enabled
and is not late. The judgement of a traverse: OFF stays (its kept entry is judged aside); an accepted pair makes
ACTIVE and HELD chords ACTIVE and a FAILED one enter PROBATION, any other makes the former HELD, FAILED past
HOLD_TIME; PROBATION stays; a pair of an abandoned or late traverse or a disabled chord, or one not complete, is not
accepted. Without PD2 a boundary is only counted; with RUN = 0 nothing happens. RUN, where it may be written and the
survey cluster is not fenced, begins with a first boundary when set and leaves the interval in progress void when
cleared. An AT that waits ends at its target with g[d] = tc. -/
def Obligations.SurveyBoundaries : Prop :=
  ∀ (s : State) (q : Requester) (tr : Traverse) (e : Eng) (d : GReg) (g : Nat) (ring : W64) (run : Bool),
    let tc := s.sv.tc + 1#64
    let unpoweredCount := fun (t : State) => t = { s with
      sv.run := true, sv.sleepCount := s.sv.sleepCount + 1, sv.travPeriod := s.sv.travNext.getD s.sv.travPeriod,
      sv.travNext := none, sv.timeBase := 0, sv.boundaryAt := s.rtc.elapsed }
    let counted := fun (t : State) => t.sv.tc = tc ∧ t.sv.timeBase = 0 ∧
      t.sv.run = true ∧ t.sv.grid = s.sv.timingReg ∧ t.sv.cdiv = s.sv.firingReg ∧ t.sv.agcHold = s.sv.agcHoldReg ∧
      t.sv.boostEn = s.sv.boostEnReg ∧ t.sv.vdrvSet = s.sv.vdrvSetReg ∧ t.sv.chordEn = s.sv.chordEnReg ∧
      t.sv.band = (if s.sv.bandForce then s.sv.bandSel else s.sv.sensorBand) ∧
      t.sv.travPeriod = s.sv.travNext.getD s.sv.travPeriod ∧ t.sv.travNext = none ∧
      t.sv.overrun = (s.sv.overrun || s.sv.traverses.any fun x => x.owed != 0) ∧ t.sv.lateStart = !t.clk.pllLock ∧
      t.aux.deferred = [] ∧ t.keys = s.keys ∧ t.rtc = s.rtc ∧ t.pwr = s.pwr ∧ t.boot = s.boot ∧ t.upd = s.upd ∧
      (s.sys.state ≠ .hold → t.sv.boundaryAt = s.rtc.elapsed ∧
        (∀ x ∈ t.sv.traverses, x.owed ≠ 0 ∨ x.tc = tc) ∧
        (s.sv.chordEnReg ≠ 0#20 → t.sv.lateStart = false → (∀ x ∈ s.sv.traverses, x.tc ≠ tc) →
          (t.sv.traverses.getLast?.map fun x => x.tc) = some tc)) ∧
      (∀ k ∈ [Eng.s0, Eng.s1], ∀ w ∈ [Wait.atTarget d g, Wait.atBoundary d], (s.engine k).wait = some w →
        (t.engine k).wait = none ∧ t.reg k d = (if d = 0#5 then 0#64 else tc)) ∧
      ∀ c : Chord,
        (s.sv.chordEnReg.getLsbD c.val = false → s.sv.chordEn.getLsbD c.val = true → (t.chord c).state = .off) ∧
        (s.pt.lockPending = true → (s.chord c).perturbed = true → (t.chord c).state ≠ .off →
          (t.chord c).state = .probation ∧ (t.chord c).perturbed = false) ∧
        (s.pt.lockPending = false →
          (s.sv.chordEnReg.getLsbD c.val = true → s.sv.chordEn.getLsbD c.val = false →
            (t.chord c).state = .probation) ∧
          (s.sv.chordEnReg.getLsbD c.val = s.sv.chordEn.getLsbD c.val →
            s.sys.state = .hold ∨ (s.sv.chordEnReg ≠ 0#20 ∧ t.sv.lateStart = false) →
            (s.sv.traverses = [] ∨ s.sys.state = .hold → (t.chord c).state =
              (if (s.chord c).state = .probation ∧ (s.chord c).probCount = 8#4 then .active else (s.chord c).state)) ∧
            (s.sv.traverses = [tr] → tr.owed = 0 → s.sys.state ≠ .hold → (t.chord c).state =
              (let x := (s.judgeTraverse tr).1.chord c
               if x.state = .probation ∧ x.probCount = 8#4 then .active else x.state))))
    (s.sv.run = true → s.powered 2 = true → Gives (.traverseBoundary ring) s counted) ∧
    (s.sv.run = true → s.powered 2 = false → Gives (.traverseBoundary ring) s unpoweredCount) ∧
    (s.sv.run = false → Gives (.traverseBoundary ring) s (fun t => t = s)) ∧
    (∀ c : Chord,
      let before := s.chord c
      let after := (s.judgeTraverse tr).1.chord c
      let j := s.verdictOn tr c (before.judgedIn tr c)
      (before.state = .off → after.state = .off) ∧
      (before.state = .active ∨ before.state = .held → after.state =
        (if j.accepted then .active else if s.holdOver before.lastAccept then .failed else .held)) ∧
      (before.state = .failed → after.state = (if j.accepted then .probation else .failed)) ∧
      (before.state = .probation → after.state = .probation) ∧
      (tr.abandoned = true ∨ tr.late = true ∨ (tr.cfg[c]).enabled = false ∨
        (tr.pairs[c]).complete tr.grid tr.cdiv = none → j.accepted = false)) ∧
    (s.mayWriteReg q 22 = false → Gives (.surveyRunWrite q run) s (fun t => t = s)) ∧
    (s.mayWriteReg q 22 = true → (s.powered 2 = true → s.fenced .survey = false) →
      (s.powered 0 = true ∨ s.powered 2 = true) →
      Gives (.surveyRunWrite q run) s (fun t =>
        (run = s.sv.run → t = s) ∧
        (run = false → s.sv.run = true → t.sv = { s.sv with
            run := false, traverses := s.sv.traverses.map fun x => if x.ended.isNone then { x with void := true } else x } ∧
          t.fl = { s.fl with waiting := none, stopped := some s.sv.boundaryAt } ∧ { t with sv := s.sv, fl := s.fl } = s) ∧
        (run = true → s.sv.run = false → s.powered 2 = true → counted t) ∧
        (run = true → s.sv.run = false → s.powered 2 = false → unpoweredCount t))) ∧
    ((s.powered 2 = true ∧ s.fenced .survey = true) ∨ (s.powered 0 = false ∧ s.powered 2 = false) →
      Gives (.surveyRunWrite q run) s (fun t => t = s)) ∧
    ((s.engine e).wait = some (.atTarget d g) → Gives (.traverseTimeTarget e) s (fun t =>
      Wrote s t e d s.sv.tc ∧ (t.engine e).wait = none ∧ WentOn s t e ∧ KeptFlags s t e ∧ OnlyEngine s t e)) ∧
    ((match (s.engine e).wait with
        | some (.atTarget _ _) => true
        | _ => false) = false → Gives (.traverseTimeTarget e) s (fun t => t = s))

/-- Rotation steps come due, calibrations write graticules or fail the lane, entries reach their Surveyor, temperatures
act. With ROT_EN and PD4 a step due during another waits; otherwise it takes the next lane: a chord lane with L20
free and usable waits for the boundary; with L20 busy the step runs uncovered under HOLD_CAL where it fits
HOLD_TIME, else the lane is passed over. A calibration that passes its sanity check writes the graticule of the
lane; one that fails leaves it out, in a step with one more failure, and sets EVENT_FLAGS bit 5; a step that came
due meanwhile begins then (none waiting here). Outside a step the lane enters service, and CALALL ends with its last
lane. Where a Sense queue delivers (powered, clocked, neither stalled nor fenced, bridge up), its oldest entry
reaches the Surveyor that issued its shot; otherwise nothing. A Sense reading leaves a band within 2 degrees of both
its edges, unchanged where it is so already. The over-temperature latch cuts shots, parks ports, closes valves,
aborts a delivery and latches fault 0x0F; while it is set a new one only counts as hot. OT_CLEAR that reaches it
clears the latch below 130 degrees with PD6 powered, else sets its refusal. -/
def Obligations.LanesRotatedAndResultsDelivered : Prop :=
  ∀ (s : State) (q : Requester) (l : Lane) (hits : List Nat) (st : RotStep) (south below : Bool) (en : Entry)
    (rest : List Entry) (temp : Int),
    let x := s.lane l
    let issuer : Eng := if en.toS1 then .s1 else .s0
    let visited := { s with lr.lastVisited := some l, lr.stepWaiting := false }
    let due := fun (uncovered : Bool) => { visited with
      lr.repeatLane := none, lr.returnHeld := false, lr.step := some ⟨l, .due, [], uncovered⟩ }
    let passes : LaneSt := { x with
      grat := calibrate x.logH hits, gratH := x.logH, valid := true, calibrating := false, hist := hits }
    (s.lr.rotEn = true → s.powered 4 = true →
      (s.lr.step.isSome = true → Gives .rotationStepDue s (fun t => t = { s with lr.stepWaiting := true })) ∧
      (s.lr.step = none → s.nextStepLane = none → Gives .rotationStepDue s (fun t => t = s)) ∧
      (s.lr.step = none → s.nextStepLane = some l → l.val < 20 →
        (s.lr.spareFor = 31#5 → (s.lane L20).usable = true → Gives .rotationStepDue s (fun t => t = due false)) ∧
        (s.spareBusy l = true → s.lr.holdCal = true → s.calibrationExceedsHold = false →
          Gives .rotationStepDue s (fun t => t = due true)) ∧
        (s.spareBusy l = true → s.lr.holdCal = false ∨ s.calibrationExceedsHold = true →
          Gives .rotationStepDue s (fun t => t = visited))) ∧
      (s.lr.step = none → s.nextStepLane = some L20 → l = L20 → Gives .rotationStepDue s (fun t =>
        t = if s.lr.spareFor = 31#5 then due false else visited)) ∧
      (s.lr.step = none → s.nextStepLane = some L21 → l = L21 → Gives .rotationStepDue s (fun t =>
        (s.aux.res.cur.isSome = true → t = due false) ∧
        (s.aux.res.cur = none → (t.lane L21).calibrating = true ∧ t.lr.step = some ⟨L21, .calibrating, [], false⟩ ∧
          { t with lanes := s.lanes, lr := s.lr } = s)))) ∧
    (s.lr.rotEn = false ∨ s.powered 4 = false → Gives .rotationStepDue s (fun t => t = s)) ∧
    (x.calibrating = true → s.lanePowered l = true → histogramOk x.logH hits = true →
      (s.lr.step = some st → st.lane = l → l ≠ L21 → sanityFails x.logH hits = false →
        Gives (.calibrationComplete l hits) s (fun t => t.lane l = passes ∧
          t.lr = { s.lr with step := some { st with phase := .passed } } ∧
          (∀ k, k ≠ l → t.lane k = s.lane k) ∧ { t with lanes := s.lanes, lr := s.lr } = s)) ∧
      (s.lr.step = some st → st.lane = l → l = L21 → sanityFails x.logH hits = false → s.lr.stepWaiting = false →
        Gives (.calibrationComplete l hits) s (fun t =>
          t.lane l = { passes with out := false, fails := 0, dead := false } ∧ t.lr = { s.lr with step := none } ∧
          (∀ k, k ≠ l → t.lane k = s.lane k) ∧ { t with lanes := s.lanes, lr := s.lr } = s)) ∧
      (s.lr.step = some st → st.lane = l → sanityFails x.logH hits = true → s.lr.stepWaiting = false →
        Gives (.calibrationComplete l hits) s (fun t =>
          t.lane l = { x with out := true, calibrating := false, fails := x.fails + 1, hist := hits,
                              dead := decide (max 1 s.lr.retry.toNat ≤ x.fails + 1) } ∧
          t.lr.step = none ∧ t.sys.eventFlags = (if s.powered 3 then s.sys.eventFlags ||| 32#24 else s.sys.eventFlags) ∧
          (∀ k, k ≠ l → t.lane k = s.lane k) ∧ { t with lanes := s.lanes, lr := s.lr, sys := s.sys } = s)) ∧
      ((s.lr.step.any fun st => st.lane == l) = false → Gives (.calibrationComplete l hits) s (fun t =>
        (sanityFails x.logH hits = false → t.lane l = { passes with out := false, fails := 0, dead := false }) ∧
        (sanityFails x.logH hits = true →
          t.lane l = { x with out := true, calibrating := false, fails := 0, dead := false, hist := hits } ∧
          t.sys.eventFlags = (if s.powered 3 then s.sys.eventFlags ||| 32#24 else s.sys.eventFlags)) ∧
        (∀ k, k ≠ l → t.lane k = s.lane k) ∧ t.lr.step = s.lr.step ∧
        (s.lr.calAll = true → (∀ k, k ≠ l → (s.lane k).calibrating = false) → t.lr.calAll = false) ∧
        (s.lr.calAll = false → t.eng = s.eng) ∧
        { t with lanes := s.lanes, lr := s.lr, eng := s.eng, sys := s.sys } = s))) ∧
    (x.calibrating = false ∨ s.lanePowered l = false ∨ histogramOk x.logH hits = false →
      Gives (.calibrationComplete l hits) s (fun t => t = s)) ∧
    (s.powered (if south then 5 else 4) = true → s.powered 2 = true → s.clocksRun = true →
      s.fenced (senseCtl south) = false → s.fenced .survey = false →
      s.pt.stalled[if south then (1 : Fin 7) else 0] = false →
      (s.br.get (if south then .senseS else .senseN)).up = true → Gives (.resultEntryDelivery south) s (fun t =>
        t = (s.deliverOne south).hop [25] ∧
        ((if south then s.sv.queueS else s.sv.queueN) = en :: rest → (s.engine issuer).wait = none →
          (∀ c : Chord, decide (10 ≤ c.val) = south → (s.chord c).unsent = []) →
          t = ((if south then { s with sv.queueS := rest } else { s with sv.queueN := rest }).setEntries issuer
            (s.entriesOf issuer ++ [en])).hop [25]) ∧
        ((if south then s.sv.queueS else s.sv.queueN) = [] → t = s.hop [25]))) ∧
    (s.powered (if south then 5 else 4) = false ∨ s.powered 2 = false ∨ s.clocksRun = false ∨
        s.fenced (senseCtl south) = true ∨ s.fenced .survey = true ∨
        s.pt.stalled[if south then (1 : Fin 7) else 0] = true ∨
        (s.br.get (if south then .senseS else .senseN)).up = false →
      Gives (.resultEntryDelivery south) s (fun t => t = s)) ∧
    (s.powered 4 = true → Gives (.dieTemperatureSample temp) s (fun t =>
      (t.sv.sensorBand.toNat < 7 → temp < bandEdge (t.sv.sensorBand.toNat + 1) + 256) ∧
      (0 < t.sv.sensorBand.toNat → bandEdge t.sv.sensorBand.toNat - 256 ≤ temp) ∧
      ((s.sv.sensorBand.toNat < 7 → temp < bandEdge (s.sv.sensorBand.toNat + 1) + 256) →
        (0 < s.sv.sensorBand.toNat → bandEdge s.sv.sensorBand.toNat - 256 ≤ temp) →
        t.sv.sensorBand = s.sv.sensorBand) ∧
      t.sv.senseTemp = temp ∧
      { t with sv.sensorBand := s.sv.sensorBand, sv.senseTemp := s.sv.senseTemp } = s)) ∧
    (s.powered 4 = false → Gives (.dieTemperatureSample temp) s (fun t => t = s)) ∧
    (s.powered 6 = true → s.pwr.driveOt = false → Gives .driveOvertemp s (fun t =>
      t.pwr = { s.pwr with driveOt := true, driveHot := true } ∧ t.dl.v1 = false ∧ t.dl.v2 = false ∧
      Latched s t 0x0F#8 0#8 false false false ∧
      (s.dl.state = .running ∨ s.dl.state = .trim → t.dl.state = .aborted ∧ t.dl.reason = 3#4) ∧
      (∀ c, (t.chord c).cur = none ∧ (t.chord c).correlating = [] ∧ (t.chord c).portA = .park ∧
        (t.chord c).portB = .park) ∧ t.eng = s.eng ∧ t.ab = s.ab ∧ t.st = s.st ∧ t.rtc = s.rtc ∧ t.clk = s.clk)) ∧
    (s.powered 6 = true → s.pwr.driveOt = true → Gives .driveOvertemp s (fun t => t = { s with pwr.driveHot := true })) ∧
    (s.powered 6 = false → Gives .driveOvertemp s (fun t => t = s)) ∧
    Writes (.otClear q below) s (s.mayWriteReg q 8) 8 (fun u t =>
      let hot := if u.powered 6 then !below else u.pwr.driveHot
      (u.pwr.driveOt = true → u.powered 6 = true → below = true →
        t = { u with pwr.driveHot := hot, pwr.driveOt := false }) ∧
      (u.pwr.driveOt = true → u.powered 6 = false ∨ below = false →
        t = { u with pwr.driveHot := hot, pwr.otRefused := true }) ∧
      (u.pwr.driveOt = false → t = { u with pwr.driveHot := hot }))

/-- BLANK begins and ends episodes, chatters, sticks, restarts its count, and the deferred shots fire or are skipped
after it. With BLANK enabled, PD4 powered and VIO good an accepted assertion begins an episode and counts it, with
AUX = 1 each conversion in progress going back to the head of its queue as deferred; it begins none while BLANK is
ignored, and the 65th of a count sets BLANK_CHATTER once with EVENT_FLAGS bit 9. A deassertion ends the episode; the
longest hold ends it too, sets BLANK_STUCK with bit 8 and ignores BLANK until its deassertion. With RUN = 0 the
count restarts at 1 in an episode, 0 otherwise. After an episode each member of the first deferred entry fires with
DEFERRED on its own edge, with PT_DROP and no drive where it is dropped, or, where a window of the entry would close
after the slot, yields BLANK_SKIP; a blocked, OFF or shorted one yields its refusal. A write of 1 to SELF_TEST that
reaches it starts the self-test in SERVICE alone; its end leaves the failures of the enabled channels. -/
def Obligations.BlankEpisodes : Prop :=
  ∀ (s : State) (q : Requester) (fail : BitVec 6) (edges : List Edge) (df : Deferred) (later : List Deferred)
    (j : Nat) (c : Chord) (sh : Shot) (more : List Shot),
    let ed := edges.getD j ⟨0#8, 0#8, false⟩
    let late := ∃ m ∈ df.members, ((s.chord m).waiting.head?.any fun x =>
      decide (s.slotPeriods < s.sv.timeBase + ceilPeriods x.wClose)) = true
    let barred := s.shotBlocked c = true ∨ (s.chord c).state = .off ∨ (sh.cmd.listen = false ∧ (s.chord c).shorted = true)
    let drives := !sh.cmd.listen && !s.dropped sh && s.powered 6
    let entered := fun (m : BitVec 38) (t : State) => t.aux = { s.aux with deferred := later } ∧
      (t.chord c).waiting = more ∧ (t.chord c).cur = (s.chord c).cur ∧ t.clk = s.clk ∧ t.eng = s.eng ∧ t.ab = s.ab ∧
      ({ sh with marks := sh.marks ||| m }).entry 0#40 (if sh.fired ∧ !sh.grid then sh.startWord else 0#64) 0#64 ∈ t.resultsOf c
    (s.aux.blankEn = true → s.powered 4 = true → s.aux.blankLevel = false → s.pwr.vioLow = false →
      (s.aux.blankIgnored = true → Gives .blankAssert s (fun t => t = { s with aux.blankLevel := true })) ∧
      (s.aux.blankIgnored = false → s.aux.blankCount < 64 → Gives .blankAssert s (fun t =>
        t.aux.blankLevel = true ∧ t.aux.blankActive = true ∧ t.aux.blankCount = s.aux.blankCount + 1 ∧
        (s.aux.blankAux = true → t.aux.res.cur = none ∧ t.aux.pres.cur = none ∧
          (∀ cv, s.aux.res.cur = some cv → t.aux.res.queue = { cv.req with deferred := true } :: s.aux.res.queue) ∧
          (∀ cv, s.aux.pres.cur = some cv → t.aux.pres.queue = { cv.req with deferred := true } :: s.aux.pres.queue)) ∧
        (s.aux.blankAux = false → t.aux.res = s.aux.res ∧ t.aux.pres = s.aux.pres ∧ t.lanes = s.lanes ∧ t.lr = s.lr) ∧
        { t with aux.blankLevel := s.aux.blankLevel, aux.blankActive := s.aux.blankActive,
                 aux.blankCount := s.aux.blankCount, aux.res := s.aux.res, aux.pres := s.aux.pres, lanes := s.lanes,
                 lr := s.lr } = s)) ∧
      (s.aux.blankIgnored = false → 64 ≤ s.aux.blankCount → s.aux.chattered = false →
        Gives .blankAssert s (fun t => Raised
          { s with aux.blankLevel := true, aux.chattered := true, aux.blankChatter := true } t 9)) ∧
      (s.aux.blankIgnored = false → 64 ≤ s.aux.blankCount → s.aux.chattered = true →
        Gives .blankAssert s (fun t => t = { s with aux.blankLevel := true }))) ∧
    (s.aux.blankEn = false ∨ s.powered 4 = false ∨ s.aux.blankLevel = true ∨ s.pwr.vioLow = true →
      Gives .blankAssert s (fun t => t = s)) ∧
    (s.aux.blankLevel = true → Gives .blankDeassert s (fun t =>
      t = { s with aux.blankLevel := false, aux.blankIgnored := false, aux.blankActive := false })) ∧
    (s.aux.blankLevel = false → Gives .blankDeassert s (fun t => t = s)) ∧
    (s.aux.blankActive = true → Gives .blankMaxHold s (fun t => Raised
      { s with aux.blankActive := false, aux.blankIgnored := true, aux.blankStuck := true } t 8)) ∧
    (s.aux.blankActive = false → Gives .blankMaxHold s (fun t => t = s)) ∧
    (s.sv.run = false → Gives .blankCountRestart s (fun t =>
      t = { s with aux.blankCount := if s.aux.blankActive then 1 else 0, aux.chattered := false })) ∧
    (s.sv.run = true → Gives .blankCountRestart s (fun t => t = s)) ∧
    (s.aux.deferred = [] ∨ s.aux.blankActive = true → Gives (.deferredShotFire edges) s (fun t => t = s)) ∧
    (s.aux.deferred = df :: later → s.aux.blankActive = false → df.members.Nodup → df.members[j]? = some c →
      (s.chord c).waiting = sh :: more → sh.cmd.chord = c →
      (∀ m ∈ df.members, ∀ x xs, (s.chord m).waiting = x :: xs → x.cmd.chord = m) →
      (¬barred → ¬late → Gives (.deferredShotFire edges) s (fun t => t.aux = { s.aux with deferred := later } ∧
        (t.chord c).waiting = more ∧ (t.chord c).cur = some { sh with
          cmd := { sh.cmd with target := s.sv.timeBase }, fired := true, muted := true,
          ts := (s.lane sh.lane).stamp 0#24 ed.tap, edgeAt := (s.lane sh.lane).coarse, trav := s.sv.tc.setWidth 8,
          grade := s.gradeNow, shadowTs := (s.shadowLane c).map (fun k => (s.lane k).stamp 0#24 ed.shadowTap),
          marks := sh.marks ||| Mark.deferred ||| markIf (s.dropped sh) Mark.ptDrop |||
            markIf (drives && ed.lowCharge) Mark.openLoad } ∧
        (t.chord c).firingPort sh.cmd.up = (if drives then .drive else .park) ∧ t.clk = s.clk ∧ t.eng = s.eng ∧
        t.ab = s.ab)) ∧
      (¬barred → late → Gives (.deferredShotFire edges) s (entered Mark.blankSkip)) ∧
      (barred → Gives (.deferredShotFire edges) s (entered (markIf (s.shotBlocked c || (s.chord c).state == ChordState.off)
        Mark.aborted ||| markIf (!sh.cmd.listen && (s.chord c).shorted) Mark.driveFault)))) ∧
    Writes (.selfTestStart q) s (s.mayWriteReg q 30) 30 (fun u t =>
      (u.sys.state = .service → t = { u with aux.selfTest := true }) ∧ (u.sys.state ≠ .service → t = u)) ∧
    (s.aux.selfTest = true → Gives (.selfTestComplete fail) s (fun t =>
      t = { s with aux.selfTest := false, aux.stFail := fail &&& (s.aux.pbEn ++ s.aux.rtdEn) })) ∧
    (s.aux.selfTest = false → Gives (.selfTestComplete fail) s (fun t => t = s))

/-- The first request of an island starts, its phases add up, and the conversion writes its ratio, marks and sequence
number; clamps mark it. On a free island that runs, the first request starts a conversion with its phases and, where
it switches excitation, a settle span that a forced one marks UNSETTLED; BLANK with AUX = 1 holds it DEFERRED, a
step on L21 holds it, and L21 out of service or uncalibrated gives NO_LANE. A phase end adds stop - start to its
kind, a timeout adds 150 us with OVER_RANGE; neither acts before the span of an unforced conversion has ended. A
completed resistance conversion writes the ratio, rounded and where the value can hold it, formed with a partner of
the other polarity, the same word, at most 10 s old and without an invalidating mark, or UNPAIRED; it toggles the
polarity and becomes the partner. A bridge conversion writes code * 2^17 / GAIN. SEQ advances, K0-K1 take the entry
where they run (NO_CAL and a VALUE of 0 without a front-end record), the island is free, a held word of the channel
acts, NOTIFY signals the issuer. An armed clamp that conducts sets its bit, EVENT_FLAGS bit 7 where it was clear,
and CLAMP_HIT on the conversion whose channel, or reference, it is. -/
def Obligations.AuxiliaryConversions : Prop :=
  ∀ (s : State) (i : AuxIsland) (req : AuxReq) (rest : List AuxReq) (cv : AuxConv) (p : AuxPhase)
    (ps : List AuxPhase) (start stop : BitVec 40) (openWire exFault : Bool) (code : BitVec 24) (k : Fin 4)
    (ch : Fin 6) (cl : Fin 47) (f : Option AuxPartner),
    let isl := s.aux.isl i
    let begins := s.aux.startSwitches i req.ch && settles req.ch s.aux.cfg[req.ch]
    let added := fun (n : Nat) (m : BitVec 10) (t : State) => t = { s with aux.res.cur := some { cv with
      phases := ps, marks := m, zeroT := cv.zeroT + (if p = .zero then n else 0),
      refT := cv.refT + (if p = .ref then n else 0), elemT := cv.elemT + (if p = .elem then n else 0),
      leadT := cv.leadT + (if p = .lead then n else 0) } }
    let written := fun (j : AuxIsland) (r : AuxReq) (m : BitVec 10) (t : State) =>
      let issuer : Eng := if r.fromS1 then .s1 else .s0
      let en := t.aux.entry[r.ch]
      en.tDone = s.rtc.elapsed ∧ en.seq = s.aux.entry[r.ch].seq + 1#8 ∧
      en.marks &&& ~~~(amNoCal ||| amRange) = m &&& ~~~(amNoCal ||| amRange) ∧
      (s.metrologyUp = false → en.value = s.aux.entry[r.ch].value) ∧
      (s.metrologyUp = true → s.fl.front = none → en.value = 0#64 ∧ en.marks &&& amNoCal = amNoCal) ∧
      (∀ c, c ≠ r.ch → t.aux.entry[c] = s.aux.entry[c]) ∧
      (t.aux.isl j).cur = none ∧ t.aux.cfgHeld[r.ch] = none ∧
      t.aux.cfg[r.ch] = ((s.aux.cfgHeld[r.ch]).map fun w => w &&& 0x7FFF#64).getD s.aux.cfg[r.ch] ∧
      (∀ e, e ≠ issuer → t.engine e = s.engine e) ∧ (r.notify = false → t.eng = s.eng) ∧
      (r.notify = true → (s.engine issuer).wait ≠ some .doze →
        t.engine issuer = { s.engine issuer with sigEvent := true }) ∧
      (r.notify = true → (s.engine issuer).wait = some .doze → t.engine issuer = (s.engine issuer).done) ∧
      { t with aux := s.aux, eng := s.eng, freeCtr := s.freeCtr, fl.fs := s.fl.fs, lanes := s.lanes, lr := s.lr } = s
    let qualifies := fun (o : AuxPartner) => o.pol ≠ s.aux.pol[k] ∧ o.cfg = s.aux.cfg[cv.req.ch] ∧
      (s.rtc.elapsed - o.tDone).toNat ≤ 327680 ∧
      o.marks &&& (amUnsettled ||| amClampHit ||| amOverRange ||| amOpenWire) = 0#10
    (isl.queue = req :: rest → isl.cur = none → s.islandRuns i = true →
      let held := s.aux.blankEn = true ∧ s.aux.blankActive = true ∧ s.aux.blankAux = true
      (held → Gives (.auxConversionStart i) s (fun t =>
        t = { s with aux := s.aux.setIsl i { isl with queue := { req with deferred := true } :: rest } })) ∧
      (¬held →
        (i = .res → (s.lane L21).calibrating = true → Gives (.auxConversionStart i) s (fun t => t = s)) ∧
        (i = .res → (s.lane L21).calibrating = false → (s.lane L21).out = true ∨ (s.lane L21).valid = false →
          Gives (.auxConversionStart i) s (fun t => written i req amNoLane t ∧ (t.aux.isl i).queue = rest)) ∧
        ((i = .res → (s.lane L21).calibrating = false ∧ (s.lane L21).out = false ∧ (s.lane L21).valid = true) →
          Gives (.auxConversionStart i) s (fun t => t = { s with aux := s.aux.setIsl i {
            queue := rest, lastCh := some req.ch, settling := (if begins then some req.ch else isl.settling),
            cur := some {
              req := req, phases := (if isRtd req.ch then resistancePhases s.aux.cfg[req.ch] else []),
              zeroT := 0, refT := 0, elemT := 0, leadT := 0,
              marks := (if req.deferred then amDeferred else 0#10) |||
                (if req.forced && (begins || isl.settling.isSome) then amUnsettled else 0#10) } } })))) ∧
    (isl.queue = [] ∨ isl.cur ≠ none ∨ s.islandRuns i = false → Gives (.auxConversionStart i) s (fun t => t = s)) ∧
    Gives (.settleSpanEnd i) s (fun t => t = { s with aux := s.aux.setIsl i { isl with settling := none } }) ∧
    (s.aux.res.cur = some cv →
      (cv.phases = p :: ps → s.islandRuns .res = true → s.aux.res.settling = none ∨ cv.req.forced = true →
        Gives .dischargeTimeout s (added (150 * 400 * 65536) (cv.marks ||| amOverRange)) ∧
        Gives (.auxPhaseEnd start stop) s (added (stop - start).toNat cv.marks)) ∧
      (cv.phases = [] ∨ s.islandRuns .res = false ∨ (s.aux.res.settling ≠ none ∧ cv.req.forced = false) →
        Gives .dischargeTimeout s (fun t => t = s) ∧ Gives (.auxPhaseEnd start stop) s (fun t => t = s)) ∧
      (cv.phases ≠ [] ∨ s.islandRuns .res = false ∨ 4 ≤ cv.req.ch.val →
        Gives (.resistanceConversionComplete openWire) s (fun t => t = s)) ∧
      (cv.phases = [] → s.islandRuns .res = true → cv.req.ch.val = k.val → s.aux.partner[k] = f →
        Gives (.resistanceConversionComplete openWire) s (fun t =>
          let w := s.aux.cfg[cv.req.ch]
          let m := if openWire then (cv.marks &&& ~~~amOverRange) ||| amOpenWire else cv.marks
          let en := t.aux.entry[cv.req.ch]
          let mine := fun (m : BitVec 10) => some (⟨cv.zeroT, cv.refT, cv.elemT, cv.leadT, s.aux.pol[k], w, s.rtc.elapsed, m⟩ : AuxPartner)
          t.aux.pol = s.aux.pol.set k (!s.aux.pol[k]) ∧ en.pol = s.aux.pol[k] ∧ t.aux.res.queue = s.aux.res.queue ∧
          (f = none → written .res cv.req (m ||| amUnpaired) t ∧ t.aux.partner[k] = mine (m ||| amUnpaired)) ∧
          (∀ o, f = some o → ¬qualifies o →
            written .res cv.req (m ||| amUnpaired) t ∧ t.aux.partner[k] = mine (m ||| amUnpaired)) ∧
          (∀ o, f = some o → qualifies o → written .res cv.req m t ∧ t.aux.partner[k] = mine m ∧
            (let z : Int := ((cv.zeroT + o.zeroT) * 2 ^ rcRep w : Nat)
             let num : Int := (cv.elemT + o.elemT : Nat) - (if rcWire3 w then ((cv.leadT + o.leadT : Nat) : Int) else z)
             let den : Int := (cv.refT + o.refT : Nat) - z
             let r := roundDiv ((if den < 0 then -num else num) * 2 ^ 40) den.natAbs
             den ≠ 0 → 0 ≤ r → r < 2 ^ 64 → en.raw = BitVec.ofInt 64 r))))) ∧
    (s.aux.res.cur = none → Gives .dischargeTimeout s (fun t => t = s) ∧ Gives (.auxPhaseEnd start stop) s (fun t => t = s) ∧
      Gives (.resistanceConversionComplete openWire) s (fun t => t = s)) ∧
    (s.aux.pres.cur = some cv → cv.req.ch = ch → s.islandRuns .pres = true →
      s.aux.pres.settling = none ∨ cv.req.forced = true →
      Gives (.bridgeConversionComplete code exFault) s (fun t =>
        t.aux.entry[ch].raw = BitVec.ofInt 64 (code.toInt * 2 ^ 17 / 2 ^ pcGainLog s.aux.cfg[ch]) ∧
        t.aux.entry[ch].pol = false ∧ t.aux.pres.queue = s.aux.pres.queue ∧ t.aux.partner = s.aux.partner ∧
        written .pres cv.req (cv.marks ||| (if code = 0x7FFFFF#24 ∨ code = 0x800001#24 then amOverRange else 0#10) |||
          (if exFault then amExFault else 0#10)) t)) ∧
    (s.aux.pres.cur = none ∨ s.islandRuns .pres = false ∨
        (s.aux.pres.settling ≠ none ∧ (s.aux.pres.cur.all fun x => !x.req.forced) = true) →
      Gives (.bridgeConversionComplete code exFault) s (fun t => t = s)) ∧
    (s.clampsArmed = true → s.powered 4 = true → cl.val < 7 → Gives (.clampConduct cl) s (fun t =>
      t.aux.clamp = s.aux.clamp ||| (1#27 <<< cl.val) ∧
      t.sys.eventFlags = (if s.powered 3 && !s.aux.clamp.getLsbD cl.val then s.sys.eventFlags ||| 0x80#24
        else s.sys.eventFlags) ∧
      t.aux.res.cur = (s.aux.res.cur.map fun x =>
        if x.req.ch.val = cl.val ∨ cl.val = 4 then { x with marks := x.marks ||| amClampHit } else x) ∧
      t.aux.pres.cur = (s.aux.pres.cur.map fun x =>
        if x.req.ch.val + 1 = cl.val ∧ 5 ≤ cl.val then { x with marks := x.marks ||| amClampHit } else x) ∧
      { t with aux.clamp := s.aux.clamp, aux.res.cur := s.aux.res.cur, aux.pres.cur := s.aux.pres.cur, sys := s.sys } = s)) ∧
    (s.clampsArmed = false ∨ s.powered 4 = false ∨ (27 ≤ cl.val ∧ s.powered 5 = false) →
      Gives (.clampConduct cl) s (fun t => t = s))

/-- Requests are written page by page and end what waits for them; BP and STORE_DATA take or refuse writes; log entries
are staged or lost. A page in flight that ends is in the array, byte for byte; with nothing else waiting or staged
the next unprotected page of its request follows, or the request ends: raw BUSY, the host's save, a PSAVE or
interval entry with status 0, a snapshot, the rods in a rod record or the entry in the journal with the commits that
wait. With PD1 off or an idle store nothing happens. On an idle store the rod record each second, the settings save
and an accepted raw write put their request in flight; behind a page in flight they wait. BP takes a new value, or
is refused when sealed, or for 11 in LINE, VIGIL, a HOLD left from them or a survey; 11 waits for a rod record where
the Abacus runs, else releases ROLE at once. STORE_DATA reads four bytes at ADDR, its write is taken or refused,
both advance ADDR by 4, and neither acts while an access is in progress. A snapshot copies the closed rods. Engines
stage DATA by halves and submit entries of their own codes, those of K0-K1 for fluid and dryness with their event
flag; a full stage counts a loss; host ports stage nothing and their submission is refused. CLR_LOST clears the
count. -/
def Obligations.StoreAndEventLog : Prop :=
  ∀ (s : State) (q : Requester) (r : StoreReq) (p p' : Nat × List Byte) (ps : List (Nat × List Byte)) (a : Nat)
    (bp : BitVec 2) (v : W32) (e : Eng) (l : Lane) (id arg : BitVec 16) (code : BitVec 12) (d : GReg) (je : JEntry) (b : Bool),
    let stage := s.log.stagedData[engNum e]!
    let ends := fun (x : Eng) (w : Wait) (t : State) => (s.engine x).wait = some w →
      t.engine x = (s.engine x).done
    let done : State := { s with st := { s.st.writePage p with flight := none } }
    let abacusRuns := fun (u : State) => u.powered 2 = true ∧ u.boot.rodsLoaded = true ∧ u.ab.frozen = false
    (s.powered 1 = false ∨ StoreIdle s → Gives .storePageComplete s (fun t => t = s)) ∧
    (s.powered 1 = true → s.st.flight = some r → s.st.waiting = [] → s.log.staged = [] →
      (r.pages = some (p :: p' :: ps) → s.st.pfw = false → pageProtected s.st.bp p'.1 = false →
        Gives .storePageComplete s (fun t => t = { s with
          st := { s.st.writePage p with flight := some { r with pages := some (p' :: ps) } } })) ∧
      (r.pages = some [p] →
        Gives .storePageComplete s (fun t => t.st.array.get 0#8 a =
          (if h : p.1 ≤ a ∧ a < p.1 + p.2.length then p.2[a - p.1]'(by omega) else s.st.array.get 0#8 a)) ∧
        (r.kind = .raw → Gives .storePageComplete s (fun t => t = { done with st.rawBusy := false })) ∧
        (r.kind = .record id .host → Gives .storePageComplete s (fun t =>
          t = { done with st.hostSave := false, st.saveStatus := 0#3 })) ∧
        ((r.kind = .record id (.engine e) ∧ id ≠ 0x20#16) ∨ r.kind = .interval e → (s.engine e).wait = some (.psave d) →
          Gives .storePageComplete s (fun t => Wrote s t e d 0#64 ∧ (t.engine e).wait = none ∧ WentOn s t e ∧
            KeptFlags s t e ∧ OnlyEngine done t e)) ∧
        (r.kind = .snapshot e l → (s.engine e).wait = some (.snapWrite d) → Gives .storePageComplete s (fun t =>
          Wrote s t e d 0#64 ∧ (t.engine e).wait = none ∧ WentOn s t e ∧ KeptFlags s t e ∧ OnlyEngine done t e)) ∧
        (r.kind = .rodRecord false → s.st.bpWait = false → Gives .storePageComplete s (fun t =>
          t.st.flight = none ∧ t.ab = { s.ab with sinceRecord := 0 } ∧
          (if s.st.rodWrite.1 then t.st.rodB else t.st.rodA) = some (s.rodRecordNow false) ∧
          ends .k01 (.commit b) t ∧ ends .k3 (.commit b) t ∧ { t with st := s.st, ab := s.ab, eng := s.eng } = s)) ∧
        (r.kind = .journal je → s.ab.sinceRecord < 63 → Gives .storePageComplete s (fun t =>
          t.st = done.st.putJournal je ∧ t.ab = { s.ab with sinceRecord := s.ab.sinceRecord + 1 } ∧
          ends .k01 (.commit b) t ∧ ends .k3 (.commit b) t ∧ { t with st := s.st, ab := s.ab, eng := s.eng } = s)))) ∧
    (abacusRuns s →
      (StoreIdle s → Gives .rodRecordPeriodic s (fun t => Writing s t (.rodRecord false) [])) ∧
      (s.keepCut = false → s.st.flight = some r → Gives .rodRecordPeriodic s (fun t =>
        t = { s with st.waiting := s.st.waiting ++ [⟨.rodRecord false, [], none, false⟩] }))) ∧
    (¬abacusRuns s → Gives .rodRecordPeriodic s (fun t => t = s)) ∧
    Writes (.saveSettings q) s (s.mayWriteReg q 6) 6 (fun u t =>
      (StoreIdle u → Writing u t (.record 1#16 .host) u.settingsPayload ∧ t.st.hostSave = true) ∧
      (u.keepCut = false → u.st.flight = some r → t = { u with
        st.hostSave := true, st.waiting := u.st.waiting ++ [⟨.record 1#16 .host, u.settingsPayload, none, false⟩] })) ∧
    Writes (.hostSnapshot q) s (s.mayWriteReg q 6) 6 (fun u t =>
      (u.powered 2 = true → t = { u with ab.snap := u.ab.closed, ab.snapSeq := u.ab.snapSeq + 1#32 }) ∧
      (u.powered 2 = false → t = u)) ∧
    Writes (.storeProtectWrite q bp) s (s.mayWriteReg q 42) 42 (fun u t =>
      let m := fun (x : DevState) => x = .line ∨ x = .vigil
      let refused := u.sealed = true ∨ (bp = 3#2 ∧ (m u.sys.state ∨ (u.sys.state = .hold ∧ m u.sys.left) ∨ u.sv.run = true))
      (refused → t = { u with st.protectRefused := true }) ∧
      (¬refused → bp ≠ 3#2 → t.st = { u.st with bp := bp, bpWait := false } ∧ { t with st := u.st, log := u.log } = u) ∧
      (¬refused → bp = 3#2 → u.st.bp = 3#2 ∨ ¬abacusRuns u →
        t.st = { u.st with bp := 3#2, bpWait := false } ∧ t.tw.holds = false ∧ t.eng = u.eng ∧ t.ab = u.ab) ∧
      (¬refused → bp = 3#2 → u.st.bp ≠ 3#2 → abacusRuns u → StoreIdle u →
        Writing u t (.rodRecord false) [] ∧ t.st.bpWait = true ∧ t.st.bp = u.st.bp)) ∧
    (let u := (({ s with readOut := 0#64 }).regCross 44).1
     let ad := s.st.addr.toNat
     (s.regAnswers 44 = false → Gives (.storeDataRead q) s (fun t => t = { s with readOut := 0#64 })) ∧
     (s.regAnswers 44 = true → (({ s with readOut := 0#64 }).regCross 44).2 = false ∨ s.st.rawBusy = true ∨
       s.st.hostSave = true → Gives (.storeDataRead q) s (fun t => t = u)) ∧
     (s.regAnswers 44 = true → (({ s with readOut := 0#64 }).regCross 44).2 = true → s.st.rawBusy = false →
       s.st.hostSave = false → Gives (.storeDataRead q) s (fun t =>
         t = { u with st.addr := s.st.addr + 4#23, freeCtr := s.freeCtr + 4, readOut := t.readOut } ∧
         field t.readOut 32 32 = 0#32 ∧ ∀ k, k < 4 →
           (s.st.codeSpace = true → field t.readOut (8 * k) 8 =
             (if 0x700000 ≤ ad + k then 0xFF#8 else s.st.code.get 0xFF#8 (ad + k))) ∧
           (s.st.codeSpace = false → storeAbacus (ad + k) = false → ad + k < 0x100000 →
             field t.readOut (8 * k) 8 = s.st.byte (ad + k))))) ∧
    Writes (.storeDataWrite q v) s (s.mayWriteReg q 44) 44 (fun u t =>
      let ad := u.st.addr.toNat
      let taken := u.sealed = false ∧ u.st.codeSpace = false ∧ ad < 0x100000 ∧ storeAbacus ad = false ∧
        storeReserved ad = false ∧ (ad < 0x800 ∨ 0xC00 ≤ ad) ∧ (ad < 0x40000 ∨ 0x80000 ≤ ad)
      (u.st.rawBusy = true ∨ u.st.hostSave = true → t = u) ∧
      (u.st.rawBusy = false → u.st.hostSave = false →
        (taken → StoreIdle u → Writing u t .raw [] ∧ t.st.addr = u.st.addr + 4#23 ∧ t.st.rawBusy = true ∧
          (t.st.flight.map StoreReq.pages) = some (some [(ad, leBytes 4 v.toNat)])) ∧
        (¬taken → t = { u with st.addr := u.st.addr + 4#23, st.rawRefused := true }))) ∧
    (isPort q = true →
      Writes (.logStageLow q arg) s (s.mayWriteReg q 40) 40 (fun u t => t = u) ∧
      Writes (.logStageHigh q arg) s (s.mayWriteReg q 40) 40 (fun u t => t = u) ∧
      Writes (.logSubmit q code) s (s.mayWriteReg q 40) 40 (fun u t => t = { u with st.logRefused := true })) ∧
    Writes (.logStageLow (.eng e) arg) s (s.mayWriteReg (.eng e) 40) 40 (fun u t =>
      t = { u with log.stagedData := s.log.stagedData.set! (engNum e) (field stage 16 16 ++ arg) }) ∧
    Writes (.logStageHigh (.eng e) arg) s (s.mayWriteReg (.eng e) 40) 40 (fun u t =>
      t = { u with log.stagedData := s.log.stagedData.set! (engNum e) (arg ++ field stage 0 16) }) ∧
    Writes (.logSubmit (.eng e) code) s (s.mayWriteReg (.eng e) 40) 40 (fun u t =>
      let mine : LogEntry := ⟨stage, BitVec.ofNat 34 (secondsOf u.rtc.cal), u.rtc.subsec, code, BitVec.ofNat 3 (engNum e)⟩
      let fluid := e = .k01 ∧ (code.toNat = 0x10A ∨ code.toNat = 0x10B)
      (codeAllowed e code.toNat = false → t = { u with
        st.logRefused := true, log.stagedData := s.log.stagedData.set! (engNum e) 0#32 }) ∧
      (codeAllowed e code.toNat = true → u.powered 1 = true →
        t.log.stagedData = s.log.stagedData.set! (engNum e) 0#32 ∧
        (u.log.staged.length < 16 → t.log.staged = u.log.staged ++ [mine] ∧ t.log.lost = u.log.lost) ∧
        (16 ≤ u.log.staged.length → t.log.staged = u.log.staged ∧ t.log.lost.toNat = min 255 (u.log.lost.toNat + 1)) ∧
        (¬fluid ∨ u.powered 3 = false → { t with log := u.log } = u) ∧
        (fluid → u.powered 3 = true → t.sys.eventFlags = u.sys.eventFlags ||| (1#24 <<< (code.toNat - 0x100)) ∧
          { t with log := u.log, sys := u.sys } = u))) ∧
    Writes (.clrLost q) s (s.mayWriteReg q 40) 40 (fun u t => t = { u with log.lost := 0#8 })

/-- The restore fills the RWT fields, a verified image starts the engines, and sessions go from OPEN to ACTIVATE or
APPLY. The restore in BOOT takes RWT fields from the settings record or their factory default. An image that
verifies starts every engine at its entry point with the rods loaded; one that fails is noted, with recovery tried
after another; without another image BOOT_IMAGE (0x12) is latched. A command of UPD_CTRL that reaches the controller
is dropped for a requester that names no owner, answers SEQUENCE while another runs, NOT_OWNER to others than the
owner and SEQUENCE without a session or in another state; otherwise OPEN locks a fresh or resumed session unless
R490 or R493 refuses it, BLOCK takes the next block by R494 (a VOLTAGE refusal also traps K2), VERIFY starts under
R495, ACTIVATE commits, resets with cause 0x0A and boots, APPLY makes the set take effect, CLOSE suspends an image
session, ABORT gives it up, CONFIRM ends a trial. A BLOCK ends with its sector programmed, or with FLASH and the
sector alone open; VERIFY with its verdict; the timeout leaves code 0x0F; the deadline falls back and resets. Each
result sets CODE and, with PD3 powered, EVENT_FLAGS bit 12. QREQ by a port tells K2, QREADY is set by K2 and cleared
by a port, CERT_READ by K2 copies the certificate. -/
def Obligations.BootAndUpdateSessions : Prop :=
  ∀ (s : State) (q : Requester) (kind port : BitVec 2) (resume : Bool) (n : BitVec 10) (src : ImageSource) (ok : Bool)
    (a : Nat) (e : Eng),
    let w := fun idx => (settingsEntry idx s.settings).getD (rwtDefault idx)
    let base := flashBase s.upd.slot.toNat + 4096 * s.upd.nextBlock
    let answers := fun (c : BitVec 5) (u t : State) => t = ({ u with upd.code := c }).event 12
    let coded := fun (c : BitVec 5) (u t : State) => t.upd.code = c ∧
      t.sys = (if u.powered 3 then { u.sys with eventFlags := u.sys.eventFlags ||| 0x1000#24 } else u.sys)
    let runs := fun (i : Instr) (f : BitVec 2 → State → State → Prop) => Writes i s (s.mayWriteReg q 45) 45 (fun u t =>
      (updOwner q port = none → t = u) ∧ ∀ o, updOwner q port = some o →
        (u.upd.job.isSome = true → answers 6#5 u t) ∧ (u.upd.job = none → f o u t))
    let owned := fun (i : Instr) (f : State → State → Prop) => runs i (fun o u t =>
      (u.upd.owner = 0#2 → answers 6#5 u t) ∧ (u.upd.owner ≠ 0#2 → u.upd.owner ≠ o → answers 5#5 u t) ∧
      (u.upd.owner ≠ 0#2 → u.upd.owner = o → f u t))
    (s.powered 1 = true → s.boot.restored = false → s.sys.state = .boot → s.powered 6 = false →
      Gives .settingsRestoreComplete s (fun t => t.boot.restored = true ∧
        t.boot.defaultsUsed = usesDefaults s.settings ∧ t.sv.chordEnReg = field (w 24) 0 20 ∧
        t.sv.timingReg = (w 22).getLsbD 1 ∧ t.rtc.trim = field (w 52) 16 11 ∧ t.upd.flowLimit = field (w 47) 0 20 ∧
        t.pn.dcMax = field (w 58) 13 8 ∧ t.st.logSeq = s.st.findLog.1 ∧ t.keys = s.keys ∧ t.ab = s.ab ∧ t.eng = s.eng)) ∧
    (s.powered 1 = false ∨ s.boot.restored = true ∨ s.sys.state ≠ .boot →
      Gives .settingsRestoreComplete s (fun t => t = s)) ∧
    (s.boot.attempt = some src → s.imageVerdict (slotOf src) = 0#5 → Gives .imageVerifyComplete s (fun t =>
      t.boot.running = some src ∧ t.boot.attempt = none ∧ t.boot.romMapped = false ∧ t.boot.rodsLoaded = true ∧
      (t.engine e).halt = false ∧ t.pn.interrupted = s.rtc.panelInt ∧
      (t.engine e).pc = BitVec.ofNat 32 (s.st.codeWord (slotBase src + 0x20 + 4 * engNum e)) ∧ t.keys = s.keys)) ∧
    (s.boot.attempt = some src → s.imageVerdict (slotOf src) ≠ 0#5 → Gives .imageVerifyComplete s (fun t =>
      t.boot.failed = s.boot.failed ++ [src] ∧ t.boot.running = s.boot.running ∧
      (src ≠ .recovery → .recovery ∉ s.boot.failed → t.boot.attempt ≠ none) ∧
      (src = .recovery → s.st.bootPtr.confA = false → s.st.bootPtr.confB = false → t.boot.attempt = none ∧
        t.boot.noImage = true ∧ Latched s t 0x12#8 0#8 false false false ∧
        (s.powered 3 = true → t.sys.eventFlags = s.sys.eventFlags ||| 0x800000#24)))) ∧
    (s.boot.attempt = none → Gives .imageVerifyComplete s (fun t => t = s)) ∧
    runs (.updOpen q kind resume port) (fun o u t =>
      let k := if resume then u.upd.kind else kind
      let moves := u.sv.run = true ∧
        (u.ab.lastClose = none ∨ (u.ab.lastClose.any fun x => decide (65536 < (u.rtc.elapsed - x).toNat)) = true ∨
          u.upd.flowLimit.toNat * 2 ^ 32 < u.fl.lastQ.natAbs * 1000000 ∨ u.dl.state = .running ∨ u.dl.state = .trim ∨
          u.dl.state = .closing)
      let code : BitVec 5 :=
        if u.upd.owner ≠ 0#2 ∧ u.upd.owner ≠ o then 1#5
        else if u.upd.owner ≠ 0#2 ∨ kind = 3#2 ∨ (resume = true ∧ u.upd.state ≠ .suspended) then 6#5
        else if (k = 1#2 ∧ u.sealed = true) ∨ (k = 0#2 ∧ u.st.bootPtr.trial = true) then 0x10#5
        else if moves then 2#5
        else if u.pwr.source = .vbat ∨ (u.pwr.vbatLow = true ∧ u.upd.noCell = false) then 3#5
        else if u.keys.updLock = true ∧ k ≠ 2#2 then 4#5 else 0#5
      (code ≠ 0#5 → answers code u t) ∧
      (code = 0#5 → resume = true → answers 0#5 { u with upd := { u.upd with owner := o, state := u.upd.stored, buffer := [] } } t) ∧
      (code = 0#5 → resume = false → coded 0#5 u t ∧
        t.upd = { u.upd with owner := o, kind := kind, slot := u.sessionSlot kind, len := none, nextBlock := 0,
                             buffer := [], stored := .idle, state := .opened, code := 0#5 } ∧
        { t with upd := u.upd, sys := u.sys, st.array := u.st.array } = u ∧
        (u.upd.state ≠ .suspended → t.st = u.st))) ∧
    owned (.updBlock q n port) (fun u t =>
      let block := u.upd.buffer.bytes 0#8 0 4096
      let code : BitVec 5 :=
        if n.toNat ≠ u.upd.nextBlock ∨ (n ≠ 0#10 ∧ (u.upd.len.any fun l => decide (blockCount l ≤ n.toNat)) = true) then 6#5
        else if crc32 block ≠ u.upd.check then 7#5 else if u.upd.kind = 2#2 then 0#5
        else if n = 0#10 ∧ headerOk block u.upd.slot.toNat = false then 8#5
        else if u.pwr.regHP = false ∨ u.pwr.vset.toNat < 6 then 0x0E#5
        else if u.upd.slot = u.st.bootPtr.active ∨ (u.upd.slot = 2#2 ∧ u.sealed = true) then 0x0D#5 else 0#5
      let open_ := u.upd.state = .opened ∨ u.upd.state = .downloading
      (¬open_ → answers 6#5 u t) ∧
      (open_ → code ≠ 0#5 → (code ≠ 0x0E#5 ∨ q ≠ .eng .k2) → answers code u t) ∧
      (open_ → code = 0x0E#5 → q = .eng .k2 →
        t = (({ u with upd.code := 0x0E#5 }).event 12).trap .k2 .voltage (u.pwr.vset.setWidth 64)) ∧
      (open_ → code = 0#5 → u.upd.kind ≠ 2#2 → t = { u with
        upd.len := u.blockLen n.toNat block, upd.job := some .block, upd.state := .downloading }) ∧
      (open_ → code = 0#5 → u.upd.kind = 2#2 →
        answers 0#5 { u with upd := { u.upd with nextBlock := 1, state := .downloaded } } t)) ∧
    owned (.updVerify q port) (fun u t =>
      let rail := u.pwr.regHP = true ∧ 2 ≤ u.pwr.vset.toNat
      (u.upd.state ≠ .downloaded → answers 6#5 u t) ∧ (u.upd.state = .downloaded → ¬rail → answers 0x0E#5 u t) ∧
      (u.upd.state = .downloaded → rail → t = { u with upd.job := some .verify, upd.state := .verifying })) ∧
    owned (.updActivate q port) (fun u t =>
      let due := u.upd.state = .verified ∧ u.upd.kind ≠ 2#2
      let written := ((({ u with upd.state := .activating }).commitRecord 4 u.activated.payload).writeSession .idle).updCode 0#5
      let v := (written.faultReset 0x0A#8 0#8).kick.finishPage.commitRods true
      (¬due → answers 6#5 u t) ∧ (∀ c, due → u.updRefusal u.upd.kind = some c → answers c u t) ∧
      (due → u.updRefusal u.upd.kind = none → u.st.bp = 3#2 → answers 0x0C#5 u t) ∧
      (due → u.updRefusal u.upd.kind = none → u.st.bp ≠ 3#2 →
        BootsAgain v t ∧ Latched u t 0x0A#8 0#8 true false false ∧ t.keys = u.keys ∧ t.rtc.cal = u.rtc.cal)) ∧
    owned (.updApply q port) (fun u t =>
      let set := readSet (u.upd.buffer.bytes 0#8 0 4096)
      let due := u.upd.state = .verified ∧ u.upd.kind = 2#2
      (¬due → answers 6#5 u t) ∧ (∀ c, due → u.updRefusal 2#2 = some c → answers c u t) ∧
      (∀ c, due → u.updRefusal 2#2 = none → u.applyRefusal set = some c → answers c u t) ∧
      (due → u.updRefusal 2#2 = none → u.applyRefusal set = none →
        t = (u.applySet set).applyEnd set ∧ t.upd.code = 0#5 ∧ (u.powered 3 = true → t.sys.eventFlags.getLsbD 12 = true) ∧
        t.upd.owner = 0#2 ∧ t.upd.state = .idle ∧
        (set.kind = 2 → set.op = 3 → t.keys = { u.keys with updLock := true }) ∧
        (set.kind = 2 → set.op = 4 → t.keys = { u.keys with updLock := false }) ∧
        (set.kind = 2 → set.op = 5 → t.keys = { u.keys with owner := none, updLock := false }) ∧
        (set.kind = 3 → t.keys = { u.keys with owner := some set.modulus }) ∧
        (set.kind = 4 → set.key = 0 → t.keys.v1 = { state := .valid, key := .loaded set.modulus }) ∧
        (set.kind = 1 → t.keys = u.keys))) ∧
    owned (.updClose q port) (fun u t => coded 0#5 u t ∧ t.upd.owner = 0#2 ∧ t.upd.job = none ∧
      (u.upd.kind = 2#2 → t.upd.state = .idle ∧ t.upd.nextBlock = 0 ∧ { t with upd := u.upd, sys := u.sys } = u) ∧
      (u.upd.kind ≠ 2#2 → t.upd.state = .suspended ∧ t.upd.stored = u.upd.state.keep ∧ t.upd.nextBlock = u.upd.nextBlock ∧
        { t with upd := u.upd, sys := u.sys, st.array := u.st.array } = u)) ∧
    owned (.updAbort q port) (fun u t => coded 0#5 u t ∧ t.upd = { u.upd with
        owner := 0#2, state := .idle, nextBlock := 0, stored := .idle, len := none, code := 0#5 } ∧
      { t with upd := u.upd, sys := u.sys, st.array := u.st.array } = u ∧ (u.upd.kind = 2#2 → t.st = u.st)) ∧
    runs (.updConfirm q port) (fun _ u t => (u.st.bootPtr.trial = false → answers 6#5 u t) ∧
      (u.st.bootPtr.trial = true → u.st.bp = 3#2 → answers 0x0C#5 u t) ∧
      (u.st.bootPtr.trial = true → u.st.bp ≠ 3#2 →
        answers 0#5 { u with st := u.st.putRecord 4 u.st.confirmedPtr.payload } t)) ∧
    (s.upd.job = some .block →
      Gives (.updBlockComplete true) s (fun t =>
        (base ≤ a → a < base + 4096 → t.st.code.get 0xFF#8 a = s.upd.buffer.get 0#8 (a - base)) ∧
        (a < base ∨ base + 4096 ≤ a → t.st.code.get 0xFF#8 a = s.st.code.get 0xFF#8 a) ∧
        (s.st.bp = 3#2 → coded 0x0C#5 s t ∧ t.upd = { s.upd with job := none, code := 0x0C#5 }) ∧
        (s.st.bp ≠ 3#2 → coded 0#5 s t ∧ t.upd = { s.upd with
          nextBlock := s.upd.nextBlock + 1, state := s.upd.afterBlock, job := none, code := 0#5 }) ∧
        { t with upd := s.upd, st.code := s.st.code, st.array := s.st.array, sys := s.sys } = s) ∧
      Gives (.updBlockComplete false) s (fun t => coded 0x0D#5 s t ∧
        t.upd = { s.upd with job := none, code := 0x0D#5 } ∧
        (a < base ∨ base + 4096 ≤ a → t.st.code.get 0xFF#8 a = s.st.code.get 0xFF#8 a) ∧
        { t with upd := s.upd, st.code := s.st.code, sys := s.sys, freeCtr := s.freeCtr } = s)) ∧
    (s.upd.job ≠ some .block → Gives (.updBlockComplete ok) s (fun t => t = s)) ∧
    (let v := if s.upd.kind = 2#2 then s.setVerdict
       else if s.imageVerdict s.upd.slot.toNat = 0#5 ∧ s.st.bp = 3#2 then 0x0C#5 else s.imageVerdict s.upd.slot.toNat
     let free := s.cr.job = none ∧ (s.tw.pairing.any fun p => p.signing) = false
     (s.upd.job = some .verify → free → Gives .updVerifyComplete s (fun t => coded v s t ∧
       t.upd = { s.upd with job := none, code := v, state := (if v = 0#5 then .verified else .downloaded) })) ∧
     (s.upd.job ≠ some .verify ∨ ¬free → Gives .updVerifyComplete s (fun t => t = s))) ∧
    (s.upd.owner ≠ 0#2 → s.upd.job ≠ some .block → Gives .updIdleTimeout s (fun t => t.upd.code = 0x0F#5 ∧
      t.upd.owner = 0#2 ∧ t.upd.job = none ∧ t.upd.state = (if s.upd.kind = 2#2 then .idle else .suspended) ∧
      { t with upd := s.upd, st.array := s.st.array } = s)) ∧
    (s.upd.owner = 0#2 ∨ s.upd.job = some .block → Gives .updIdleTimeout s (fun t => t = s)) ∧
    (let due := s.powered 1 = true ∧ s.st.bootPtr.trial = true ∧ s.boot.running ≠ none
     (due → Gives .trialDeadline s (fun t => Latched s t 0x0A#8 0#8 true false false ∧
       BootsAgain (((s.writeFallback s.st.bootPtr 5 true).faultReset 0x0A#8 0#8).kick.finishPage.commitRods true) t)) ∧
     (¬due → Gives .trialDeadline s (fun t => t = s))) ∧
    Writes (.qreq q) s (s.mayWriteReg q 49) 49 (fun u t =>
      let heard := isPort q = true ∧ u.upd.qBusy = false ∧ u.boot.noImage = false
      (¬heard → t = u) ∧
      (heard → t.upd = { u.upd with qBusy := true } ∧ OnlyEngine { u with upd.qBusy := true } t .k2 ∧
        ((u.engine .k2).wait ≠ some .doze → t.engine .k2 = { u.engine .k2 with sigEvent := true }) ∧
        ((u.engine .k2).wait = some .doze → t.engine .k2 = (u.engine .k2).done))) ∧
    Writes (.qready q) s (s.mayWriteReg q 49) 49 (fun u t =>
      (q = .eng .k2 → t = { u with upd.qReady := true, upd.qBusy := false }) ∧
      (isPort q = true → t = { u with upd.qReady := false }) ∧
      (q ≠ .eng .k2 → isPort q = false → t = u)) ∧
    Writes (.certRead) s (s.mayWriteReg (.eng .k2) 49) 49 (fun u t => t = { u with
      prt.win := u.prt.win.write 0#8 0xF800 (Config.identityCert.take 2048), upd.certRead := false })

/-- A second passes, a read latches its shadow, a commit loads or refuses the staged time, alarms fire, backup bytes and
PWRON act. From a valid time the calendar shows the next second, counted from 2000-01-01 00:00:00; the last second
of 2199 wraps to the first of 2000; every shadow is stale and SUBSEC 0 unless the trim is positive. An armed alarm
that matches the new time fires once: ARM falls, FIRED rises, EVENT_FLAGS bit 14 is set. Without armed alarms
nothing else moves. A read of RTC_TIME that reaches it returns the live time and latches the reader's shadow; one
that does not reads 0. COMMIT, where written, is carried out at its edge: a valid staged time is loaded with SUBSEC
0, TIME_SET, SUSPECT clear and EVENT_FLAGS bit 13, and an armed alarm that matches it, or that a forward jump has
passed (SKIPPED too), fires; any other sets CMT_REFUSED. A stop of X32 that has been seen sets SUSPECT; a trim cycle
takes TRIM with -1024 as -1023; BKP_WRITE writes two bytes below 56; PWRON asserts and releases, the release staying
low where an event coincides. -/
def Obligations.CalendarAlarmsAndBackup : Prop :=
  ∀ (s : State) (q : Requester) (sel : BitVec 5) (data : BitVec 16) (both second : Bool) (a : Nat),
    let quiet := s.rtc.alarm0.arm = false ∧ s.rtc.alarm1.arm = false
    let fired := fun (second : Bool) (t : State) => (t.rtc.alarm second).arm = false ∧ (t.rtc.alarm second).fired = true ∧
      (s.powered 3 = true → t.sys.eventFlags.getLsbD 14 = true)
    let fires := fun (second : Bool) (cal : CalTime) (t : State) =>
      (s.rtc.alarm second).arm = true → (s.rtc.alarm second).matches cal = true → fired second t
    (s.calendarOk → Gives .rtcSecond s (fun t =>
      let last := s.rtc.cal.year = 199#8 ∧ s.rtc.cal.month = 12#4 ∧ s.rtc.cal.day = 31#5 ∧ s.rtc.cal.hour = 23#5 ∧
        s.rtc.cal.min = 59#6 ∧ s.rtc.cal.sec = 59#6
      (¬ last → secondsOf t.rtc.cal = secondsOf s.rtc.cal + 1 ∧ t.rtc.wrapped = s.rtc.wrapped) ∧
      (last → secondsOf t.rtc.cal = 0 ∧ t.rtc.wrapped = true) ∧ calOk t.rtc.cal = true ∧
      (s.rtc.trimNow.toInt ≤ 0 → t.rtc.subsec = 0#15) ∧ t.rtc.elapsed = s.rtc.elapsed ∧
      t.rtc.shadow = (s.rtc.shadow.map fun x => { x with stale := true }) ∧
      fires false t.rtc.cal t ∧ fires true t.rtc.cal t ∧
      (quiet → { t with
        rtc.cal := s.rtc.cal, rtc.subsec := s.rtc.subsec, rtc.wrapped := s.rtc.wrapped,
        rtc.shadow := s.rtc.shadow, freeCtr := s.freeCtr } = s))) ∧
    (let u := ({ s with readOut := 0#64 }).regCross 50
     (s.regAnswers 50 = false → Gives (.rtcTimeRead q) s (fun t => t = { s with readOut := 0#64 })) ∧
     (s.regAnswers 50 = true → u.2 = false → Gives (.rtcTimeRead q) s (fun t => t = u.1)) ∧
     (s.regAnswers 50 = true → u.2 = true → Gives (.rtcTimeRead q) s (fun t => t = { u.1 with
       readOut := (rtcTimeWord s.rtc.cal).setWidth 64,
       rtc.shadow := s.rtc.shadow.set (reqIdx q)
         ⟨s.rtc.cal.day, s.rtc.cal.month, s.rtc.cal.year, s.rtc.subsec, false⟩ }))) ∧
    Writes (.rtcCommit q) s (s.mayWriteReg q 53) 53 (fun u t => t = { u with rtc.commit := true }) ∧
    (s.rtc.commit = true →
      (calOk s.rtc.staged = true → Gives .rtcCommitEdge s (fun t =>
        t.rtc.cal = s.rtc.staged ∧ t.rtc.subsec = 0#15 ∧ t.rtc.timeSet = true ∧ t.rtc.suspect = false ∧
        t.rtc.commit = false ∧ (s.powered 3 = true → t.sys.eventFlags.getLsbD 13 = true) ∧
        fires false s.rtc.staged t ∧ fires true s.rtc.staged t ∧
        ((s.rtc.alarm second).arm = true → (s.rtc.alarm second).matches s.rtc.staged = false →
          secondsOf s.rtc.cal < secondsOf s.rtc.staged →
          (s.rtc.alarm second).jumped (secondsOf s.rtc.cal) (secondsOf s.rtc.staged) = true →
          fired second t ∧ (t.rtc.alarm second).skipped = true) ∧
        (quiet → { t with rtc := s.rtc, sys.eventFlags := s.sys.eventFlags, log := s.log } = s ∧
          t.rtc.alarm0 = s.rtc.alarm0 ∧ t.rtc.alarm1 = s.rtc.alarm1 ∧ t.rtc.bkp = s.rtc.bkp))) ∧
      (calOk s.rtc.staged = false → Gives .rtcCommitEdge s (fun t =>
        t = { s with rtc.commit := false, rtc.cmtRefused := true }))) ∧
    (s.rtc.commit = false → Gives .rtcCommitEdge s (fun t => t = s)) ∧
    (s.rtc.x32Seen = true → Gives .x32StopDetect s (fun t => t = { s with rtc.suspect := true })) ∧
    (s.rtc.x32Seen = false → Gives .x32StopDetect s (fun t => t = s)) ∧
    Gives .trimCycle s (fun t => t = { s with
      rtc.trimNow := if s.rtc.trim.toInt = -1024 then BitVec.ofInt 11 (-1023) else s.rtc.trim }) ∧
    Writes (.bkpWrite q sel data) s (s.mayWriteReg q 53) 53 (fun u t =>
      (sel.toNat < 28 →
        t.rtc.bkp.get 0#8 (2 * sel.toNat) = field data 0 8 ∧ t.rtc.bkp.get 0#8 (2 * sel.toNat + 1) = field data 8 8 ∧
        (a ≠ 2 * sel.toNat → a ≠ 2 * sel.toNat + 1 → t.rtc.bkp.get 0#8 a = u.rtc.bkp.get 0#8 a) ∧
        { t with rtc.bkp := u.rtc.bkp } = u) ∧
      (28 ≤ sel.toNat → t = u)) ∧
    Writes (.pwronAssert q) s (s.mayWriteReg q 57) 57 (fun u t => t = { u with rtc.pwron := true }) ∧
    Writes (.pwronRelease q both) s (s.mayWriteReg q 57) 57 (fun u t =>
      t = { u with rtc.pwron := both && u.rtc.pwron })

/-- Panel commands are accepted or refused in order, drive their frames, and a drawn image becomes SHOWN with its CRC. A
write of CMD by K0-K1 that reaches port-guard north is refused with the first reason of Table 19-4 or latches image
(its TEST segment off while perturbation is unlocked), band and frame entries and waits for the pump; other writers
are ignored. With PD7 powered and not fenced the pump lets the first frame start and sets PANEL_INT for a drawing
command. A frame adds level minus TOP to every account, saturated at 32767, judges DC_WARN, and the next frame, the
next pass or the discharge follows. At the end of the discharge a drawn image is SHOWN with its CRC, and a
CLEAR_REDRAW ends INTERRUPTED; a BALANCE or a cut command leaves SHOWN; a check that is due is then made. A CRC
mismatch clears SHOWN_VALID with EVENT_FLAGS bit 15; a check due while BUSY waits. A reading keeps the band within 1
degree of its edges, unchanged where it is so already, and is the last one for OT_CLEAR. Outside its phase, and with
PD6 off, each does nothing. -/
def Obligations.PanelCommandsAndFrames : Prop :=
  ∀ (s : State) (q : Requester) (r : PanelRun) (temp : Int) (k : Fin 97),
    let p := s.pn
    let answers := fun (c : PanelCmd) (u t : State) =>
      let p := u.pn
      let band := if p.bandForce then p.bandSel else p.sensorBand
      let refuses := fun (n : BitVec 3) => t = { u with pn.reason := n }
      let badCrc := c ≠ .balance ∧ imageCrc (p.next.setWidth 96) ≠ p.crc
      let redraw := c ≠ .clearRedraw ∧ (p.shownValid = false ∨ p.interrupted = true)
      (p.run ≠ none → refuses 1#3) ∧
      (p.run = none → u.powered 7 = false → refuses 2#3) ∧
      (p.run = none → u.powered 7 = true → u.tw.role = .check → refuses 3#3) ∧
      (p.run = none → u.powered 7 = true → u.tw.role ≠ .check →
        (badCrc → refuses 4#3) ∧ (¬badCrc → redraw → refuses 5#3) ∧
        (¬badCrc → ¬redraw → p.bandOk band.toNat = false → refuses 6#3) ∧
        (¬badCrc → ¬redraw → p.bandOk band.toNat = true → t = { u with pn := { p with
          run := some ⟨c, p.next.setWidth 96 &&& (if u.pt.unlocked then ~~~(1#96 <<< 95) else ~~~0#96),
            p.entries band.toNat, .pumping, 0, 0, p.balFrames.toNat, false⟩,
          band := band, reason := 0#3, markSuppressed := u.pt.unlocked,
          tempRange := p.tempRange || decide (p.reading < -25 * 128) || decide (70 * 128 < p.reading) } }))
    Writes (.panelUpdate (.eng .k01)) s true 58 (answers .update) ∧
    Writes (.clearRedraw (.eng .k01)) s true 58 (answers .clearRedraw) ∧
    Writes (.balance (.eng .k01)) s true 58 (answers .balance) ∧
    (q ≠ .eng .k01 → Gives (.panelUpdate q) s (fun t => t = s) ∧ Gives (.clearRedraw q) s (fun t => t = s) ∧
      Gives (.balance q) s (fun t => t = s)) ∧
    (p.run = some r →
      (r.phase = .pumping → s.powered 7 = true → s.fenced .panel = false → Gives .pumpOk s (fun t =>
        t = { s with pn := { p with
          run := some { r with
            phase := .driving,
            pass := if r.cmd = .balance then 0 else if r.cmd = .clearRedraw ∨ p.shown.getLsbD 95 = true then 1 else 2 },
          pumpOk := true }, rtc.panelInt := s.rtc.panelInt || decide (r.cmd ≠ .balance) })) ∧
      (r.phase ≠ .pumping ∨ s.powered 7 = false ∨ s.fenced .panel = true → Gives .pumpOk s (fun t => t = s)) ∧
      (r.phase = .driving → Gives .panelFrameEnd s (fun t =>
        let next := r.passAfter p.shown r.pass
        (r.cmd ≠ .balance → (t.pn.acct[k]).toInt = max (-32767) (min 32767
          ((p.acct[k]).toInt + r.drive p.shown (r.wave.getD r.frame 0#16) k.val))) ∧
        (r.cmd = .balance → (t.pn.acct[k]).toInt = max (-32767) (min 32767
          ((p.acct[k]).toInt + balanceDrive p.shown p.acct[k] k.val))) ∧
        (r.cmd ≠ .balance → t.pn.run = some (
          if r.frame + 1 < r.wave.length then { r with frame := r.frame + 1 }
          else if next = 4 then { r with phase := .discharging, pass := 0, frame := 0 }
          else { r with pass := next, frame := 0 })) ∧
        (r.cmd = .balance → t.pn.run = some (
          if r.frame + 1 < r.frames then { r with frame := r.frame + 1 } else { r with phase := .discharging })) ∧
        t.pn.dcWarn = (p.dcWarn || (p.dcMax != 0#8 && t.pn.acct.toList.any fun a => decide (16 * p.dcMax.toNat ≤ a.toInt.natAbs))) ∧
        { t with pn.acct := p.acct, pn.run := p.run, pn.dcWarn := p.dcWarn } = s)) ∧
      (r.phase ≠ .driving → Gives .panelFrameEnd s (fun t => t = s)) ∧
      (r.phase = .discharging → Gives .panelDischargeEnd s (fun t =>
        let drawn := r.cmd ≠ .balance ∧ r.cut = false
        let failed := p.checkDue = true ∧ ¬drawn ∧ imageCrc p.shown ≠ p.shownCrc
        t.pn.run = none ∧ t.pn.pumpOk = false ∧ t.pn.checkDue = false ∧ t.pn.waveHeld = [] ∧ t.pn.acct = p.acct ∧
        (drawn → t.pn.shown = r.image ∧ t.pn.shownCrc = imageCrc r.image ∧ t.pn.shownValid = true ∧
          t.pn.interrupted = (p.interrupted && r.cmd != .clearRedraw) ∧ t.rtc = { s.rtc with panelInt := false }) ∧
        (¬drawn → t.pn.shown = p.shown ∧ t.pn.shownCrc = p.shownCrc ∧ t.pn.interrupted = p.interrupted ∧ t.rtc = s.rtc) ∧
        (¬drawn → ¬failed → t.pn.shownValid = p.shownValid) ∧
        (failed → t.pn.shownValid = false ∧ t.pn.shownFail = true ∧
          (s.powered 3 = true → t.sys.eventFlags = s.sys.eventFlags ||| 0x8000#24)) ∧
        (¬failed → { t with pn := p, rtc := s.rtc, clk.gateOpen := s.clk.gateOpen } = s))) ∧
      (r.phase ≠ .discharging → Gives .panelDischargeEnd s (fun t => t = s))) ∧
    (p.run = none → Gives .pumpOk s (fun t => t = s) ∧ Gives .panelFrameEnd s (fun t => t = s) ∧
      Gives .panelDischargeEnd s (fun t => t = s)) ∧
    (s.powered 6 = true →
      (p.run ≠ none → Gives .shownCrcCheck s (fun t => t = { s with pn.checkDue := true })) ∧
      (p.run = none → imageCrc p.shown = p.shownCrc → Gives .shownCrcCheck s (fun t => t = s)) ∧
      (p.run = none → imageCrc p.shown ≠ p.shownCrc → Gives .shownCrcCheck s (fun t => Raised
        { s with pn.shownValid := false, pn.shownFail := true } t 15)) ∧
      Gives (.panelTemperatureSample temp) s (fun t => t.pn.reading = temp ∧ t.pwr.driveHot = decide (130 * 128 ≤ temp) ∧
        (t.pn.sensorBand.toNat < 7 → temp < panelEdge (t.pn.sensorBand.toNat + 1) + 128) ∧
        (0 < t.pn.sensorBand.toNat → panelEdge t.pn.sensorBand.toNat - 128 ≤ temp) ∧
        ((p.sensorBand.toNat < 7 → temp < panelEdge (p.sensorBand.toNat + 1) + 128) →
          (0 < p.sensorBand.toNat → panelEdge p.sensorBand.toNat - 128 ≤ temp) → t.pn.sensorBand = p.sensorBand) ∧
        t.pn.bandShift = (p.bandShift || (p.run.isSome && (if p.bandForce then p.bandSel else t.pn.sensorBand) != p.band)) ∧
        { t with pn.reading := p.reading, pn.sensorBand := p.sensorBand, pn.bandShift := p.bandShift,
                 pwr.driveHot := s.pwr.driveHot } = s)) ∧
    (s.powered 6 = false → Gives .shownCrcCheck s (fun t => t = s) ∧
      Gives (.panelTemperatureSample temp) s (fun t => t = s))

/-- Host frames answer their STATUS and act once, system-port transactions are acknowledged or refused, optical
characters queue. A whole frame that the host port hears answers NOT_READY, a CRC error, in HOLD NOT_READY from
0x2000 on, an address error, BUSY at STORE_DATA or DENIED, in that order, and does nothing; a write that is OK
writes its words one after another (one register word through its register write, the nonce and the block buffer
byte for byte), advances WSEQ and answers it; a read that is OK keeps N, STATUS and the words for REPLAY, which
answers them again without an access. Any other frame and every frame while the port does not hear changes nothing.
The matcher answers the device's address: PWRON where enabled, acknowledged and read or write where ready,
stretching where it stretches, not acknowledged in BACKUP and OFF; the wake source acts. A stretch ends when the
port is ready or runs out, then it reads 0xFF. A write transaction that fails its checks is not acknowledged and
does nothing; a good one sets the pointer and writes its words; a read returns the word at the pointer with its CRC
and moves the pointer; over a Keep link that is down both are refused. A character enters the receive ring, is
counted where it is full, and is dropped while one is sent; a sent one leaves the transmit ring. An optical edge
wakes, and while something sleeps its character is lost and counted. -/
def Obligations.PortTransactions : Prop :=
  ∀ (s : State) (bs : List Byte) (addr : BitVec 7) (rd : Bool) (k : Nat) (ch : Byte) (par frm : Bool) (st : Byte)
    (m : Nat) (ds : List Byte),
    let n := frameN bs
    let a := frameAddrOf bs
    let status := fun (u : State) (c : BitVec 4) => ({ u with prt.status := u.prt.wseq ++ c } : State)
    let hold := s.sys.state = .hold ∧ 0x2000 ≤ a ∧ a < 0x4000
    let busy := s.storeBusy = true ∧ storeDataAddr ∈ wordAddrs a n
    let denied := hostRegion a = some .page ∨ hostRegion a = some .quote ∨ hostRegion a = some .cert ∨
      ((hostRegion a = some .buffer ∨ hostRegion a = some .check) ∧ s.upd.owner ≠ 1#2) ∨
      (hostRegion a = some .nonce ∧ s.upd.qBusy = true)
    let ok := crcAt bs (3 + 4 * n) = true ∧ ¬hold ∧ addrsOk a n = true ∧ ¬busy ∧ ¬denied
    (s.hostListens = true → frameKind bs = 1 → 6 + 4 * n ≤ bs.length →
      (s.portNotReady = true → Gives (.hostWriteFrame bs) s (fun t => t = status s 1#4)) ∧
      (s.portNotReady = false →
        (crcAt bs (3 + 4 * n) = false → Gives (.hostWriteFrame bs) s (fun t => t = status s 2#4)) ∧
        (crcAt bs (3 + 4 * n) = true → hold → Gives (.hostWriteFrame bs) s (fun t => t = status s 1#4)) ∧
        (crcAt bs (3 + 4 * n) = true → ¬hold →
          (addrsOk a n = false → Gives (.hostWriteFrame bs) s (fun t => t = status s 3#4)) ∧
          (addrsOk a n = true → busy → Gives (.hostWriteFrame bs) s (fun t => t = status s 4#4)) ∧
          (addrsOk a n = true → ¬busy → denied → Gives (.hostWriteFrame bs) s (fun t => t = status s 5#4))) ∧
        (ok → Gives (.hostWriteFrame bs) s (fun t =>
          let u := s.writeWords .host ((wordAddrs a n).zip (frameWords n (bs.drop 3)))
          (u.powered 3 = true → t = (status { u with prt.wseq := u.prt.wseq + 1#4 } 0#4).runSteps) ∧
          (u.powered 3 = false → t = u) ∧
          (hostRegion a = some .regs → n = 1 → a ≠ storeDataAddr →
            u = s.writeReg .host (a / 4) (BitVec.ofNat 32 (leNat ((bs.drop 3).take 4)))) ∧
          (hostRegion a = some .nonce ∨ hostRegion a = some .buffer → k < 4 * n → s.er.stepReq = 0#5 →
            (if hostRegion a = some .nonce then t.prt.win.get 0#8 (a + 0xC000 + k)
              else t.upd.buffer.get 0#8 (a - 0x2000 + k)) = bs.getD (3 + k) 0#8 ∧
            t.prt.wseq = s.prt.wseq + 1#4 ∧ t.prt.status = (s.prt.wseq + 1#4) ++ 0#4 ∧
            { t with prt := s.prt, upd := s.upd } = s))))) ∧
    (s.hostListens = true → frameKind bs = 0 → 7 + 4 * n ≤ bs.length →
      (s.portNotReady = true → Gives (.hostReadFrame bs) s (fun t =>
        t = { status s 1#4 with
          prt.lastRead := some (n, s.prt.wseq ++ 1#4, List.replicate (4 * n) 0#8), freeCtr := s.freeCtr + 4 * n })) ∧
      (s.portNotReady = false →
        (let no := fun (c : BitVec 4) (t : State) => t.prt.status = s.prt.wseq ++ c ∧ t.freeCtr = s.freeCtr + 4 * n ∧
            (t.prt.lastRead.any fun x => x.1 == n && x.2.1 == (s.prt.wseq ++ c : Byte) && x.2.2.length == 4 * n) = true ∧
            { t with prt.status := s.prt.status, prt.lastRead := s.prt.lastRead, freeCtr := s.freeCtr } = s
         (crcAt bs 3 = false → Gives (.hostReadFrame bs) s (no 2#4)) ∧
         (crcAt bs 3 = true → addrsOk a n = false → Gives (.hostReadFrame bs) s (no 3#4)) ∧
         (crcAt bs 3 = true → addrsOk a n = true → busy → Gives (.hostReadFrame bs) s (no 4#4))) ∧
        (crcAt bs 3 = true → addrsOk a n = true → ¬busy → Gives (.hostReadFrame bs) s (fun t =>
          let r := s.readWords .host (wordAddrs a n)
          let ws := r.2.flatMap fun (w : W32) => leBytes 4 w.toNat
          t = { status r.1 0#4 with prt.lastRead := some (n, r.1.prt.wseq ++ 0#4, ws) } ∧
          (n = 1 → r = ((s.readHost .host a).1, [(s.readHost .host a).2])))))) ∧
    (s.hostListens = true →
      (s.portNotReady = true → Gives .hostReplayFrame s (fun t => t = status s 1#4)) ∧
      (s.portNotReady = false → s.prt.lastRead = some (m, st, ds) → Gives .hostReplayFrame s (fun t =>
        t = { s with prt.status := st })) ∧
      (s.portNotReady = false → s.prt.lastRead = none → Gives .hostReplayFrame s (fun t => t = status s 6#4))) ∧
    ((s.hostListens = false ∨ frameKind bs ≠ 1 ∨ bs.length < 6 + 4 * n) →
      Gives (.hostWriteFrame bs) s (fun t => t = s)) ∧
    ((s.hostListens = false ∨ bs.length < 7 + 4 * n ∨ frameKind bs = 1 ∨ frameKind bs = 2) →
      Gives (.hostReadFrame bs) s (fun t => t = s)) ∧
    (s.hostListens = false → Gives .hostReplayFrame s (fun t => t = s)) ∧
    (addr = 0b01110#5 ++ s.addrSel → s.boot.backupReset = false →
      let phase := fun (p : I2cPhase) => ({ s with
        rtc.pwron := s.rtc.pwron || s.rtc.pwronSrc.getLsbD 2, prt.i2cAck := p != .idle, prt.i2c := p,
        prt.i2cOut := [] } : State)
      let off := s.sys.state = .backup ∨ s.sys.state = .off
      let early := s.sys.state = .boot ∧ s.boot.restored = false
      (off → Gives (.i2cAddressMatch addr rd) s (fun t => t = phase .idle)) ∧
      (¬off → early → Gives (.i2cAddressMatch addr rd) s (fun t => Woken (phase (.stretching rd)) t 2)) ∧
      (¬off → ¬early → s.pwr.sleep ≠ .awake → Gives (.i2cAddressMatch addr rd) s (fun t =>
        Woken (phase (if s.pwr.wakeEn.getLsbD 2 && s.prt.i2cStretch then .stretching rd else .idle)) t 2)) ∧
      (¬off → ¬early → s.pwr.sleep = .awake → Gives (.i2cAddressMatch addr rd) s (fun t =>
        Woken (phase (if s.i2cReady then (if rd then .read else .write) else .idle)) t 2))) ∧
    ((addr ≠ 0b01110#5 ++ s.addrSel ∨ s.boot.backupReset = true) →
      Gives (.i2cAddressMatch addr rd) s (fun t => t = s)) ∧
    (s.prt.i2c = .stretching rd →
      (s.i2cReady = true → Gives .i2cStretchRelease s (fun t =>
        t = { s with prt.i2c := if rd then .read else .write })) ∧
      (s.i2cReady = false → Gives .i2cStretchRelease s (fun t => t = s)) ∧
      Gives .i2cStretchTimeout s (fun t => t = { s with prt.i2c := .ignoring })) ∧
    ((∀ b, s.prt.i2c ≠ .stretching b) → Gives .i2cStretchRelease s (fun t => t = s) ∧
      Gives .i2cStretchTimeout s (fun t => t = s)) ∧
    (s.prt.i2c = .write → s.i2cReady = true →
      (s.br.keep.up = false → Gives (.i2cWriteTransaction bs) s (fun t =>
        t = { s.bridgeRefuse .keep with prt.i2c := .idle, prt.i2cAck := false })) ∧
      (s.br.keep.up = true → s.i2cWriteOk bs = false → Gives (.i2cWriteTransaction bs) s (fun t =>
        t = { s with prt.i2c := .idle, prt.i2cAck := false })) ∧
      (s.br.keep.up = true → s.i2cWriteOk bs = true → Gives (.i2cWriteTransaction bs) s (fun t =>
        let u := { s.hop [25, 27] with prt.i2c := .idle, prt.i2cAck := true, prt.i2cPtr := BitVec.ofNat 16 a }
        t = (u.writeWords .sysPort ((wordAddrs a (i2cN bs)).zip (frameWords (i2cN bs) (bs.drop 4)))).runSteps ∧
        (i2cN bs = 0 → t = u.runSteps) ∧
        (i2cN bs = 1 → s.powered 3 = true → a ≠ storeDataAddr →
          t = (u.writeReg .sysPort (a / 4) (BitVec.ofNat 32 (leNat ((bs.drop 4).take 4)))).runSteps)))) ∧
    ((s.prt.i2c ≠ .write ∨ s.i2cReady = false) → Gives (.i2cWriteTransaction bs) s (fun t => t = s)) ∧
    (s.prt.i2c = .read → s.i2cReady = true →
      (s.br.keep.up = false → Gives .i2cReadWord s (fun t =>
        t = { s.bridgeRefuse .keep with prt.i2cOut := List.replicate 5 0#8 })) ∧
      (s.br.keep.up = true → s.prt.i2cPtr.toNat % 4 = 0 → (s.prt.i2cPtr.toNat = storeDataAddr → s.storeBusy = false) →
        Gives .i2cReadWord s (fun t =>
          let r := (s.hop [25, 27]).readHost .sysPort s.prt.i2cPtr.toNat
          let d := leBytes 4 r.2.toNat
          t = { r.1 with prt.i2cOut := d ++ [crc8 (leBytes 2 s.prt.i2cPtr.toNat ++ d)],
                         prt.i2cPtr := BitVec.ofNat 16 (nextAddr s.prt.i2cPtr.toNat) }))) ∧
    (s.prt.i2c = .ignoring → Gives .i2cReadWord s (fun t => t = { s with prt.i2cOut := List.replicate 5 0xFF#8 })) ∧
    ((s.prt.i2c = .read ∧ s.i2cReady = false ∨ (s.prt.i2c ≠ .read ∧ s.prt.i2c ≠ .ignoring)) →
      Gives .i2cReadWord s (fun t => t = s)) ∧
    (let full := 256 ≤ (s.prt.rxWr - s.prt.rxRd).toNat
     let at_ := 0xC000 + 2 * (s.prt.rxWr.toNat % 256)
     (s.opticalHears = true → s.prt.txWr = s.prt.txRd →
       (¬full → Gives (.opticalCharReceived ch par frm) s (fun t =>
         t.prt.rxWr = s.prt.rxWr + 1#12 ∧
         t.prt.win.get 0#8 at_ = (if s.prt.optFmt then ch else ch &&& 0x7F#8) ∧
         t.prt.win.get 0#8 (at_ + 1) = placeB 8 0 (par && !s.prt.optFmt) ||| placeB 8 1 frm ∧
         (k < at_ ∨ at_ + 2 ≤ k → t.prt.win.get 0#8 k = s.prt.win.get 0#8 k) ∧
         { t with prt.rxWr := s.prt.rxWr, prt.win := s.prt.win } = s)) ∧
       (full → Gives (.opticalCharReceived ch par frm) s (fun t =>
         t = { s with prt.overrun := s.prt.overrun + 1#16 }))) ∧
     ((s.opticalHears = false ∨ s.prt.txWr ≠ s.prt.txRd) →
       Gives (.opticalCharReceived ch par frm) s (fun t => t = s)) ∧
     (s.opticalRuns = true → s.prt.txWr ≠ s.prt.txRd → Gives .opticalCharSent s (fun t =>
       t = { s with prt.txRd := s.prt.txRd + 1#12 })) ∧
     ((s.opticalRuns = false ∨ s.prt.txWr = s.prt.txRd) → Gives .opticalCharSent s (fun t => t = s))) ∧
    (s.powered 3 = true → s.pwr.vioLow = false → Gives .opticalWakeEdge s (fun t =>
      Woken (if s.sleeping && s.pwr.wakeEn.getLsbD 5 && s.clk.gateOpen.getLsbD 2 && !s.fenced .port then
        { s with prt.wakeLost := s.prt.wakeLost + 1#64 } else s) t 5)) ∧
    ((s.powered 3 = false ∨ s.pwr.vioLow = true) → Gives .opticalWakeEdge s (fun t => t = s))

/-- Pulses start and end; a delivery arms, starts, soft-starts, stops and resets under its conditions, and its faults
abort it. With the output block running and the device awake, a pulse that is pending starts on an output in pulse
mode that is idle and not held, and PULSE_END ends one; otherwise they do nothing. A command that reaches the
controller acts: ARM from IDLE, DONE or FINAL clears the flags of the last delivery where configuration, preset and
rods allow; START from ARMED, unless refused by its conditions, latches the bases and opens V2; STOP disarms, or
aborts RUNNING, TRIM and CLOSING with reason 1; RESET returns ARMED, DONE and a final ABORTED to IDLE; anything else
sets CMD_REFUSED alone. V1_SOFT_START opens V1 of a RUNNING delivery that nothing bars. MAX_TIME, where set, aborts
with reason 8, an overcurrent of an energised stage sets VALVE_FAULT, switches both off and aborts with reason 10;
no other state is left by them. The run-out timeout ends a CLOSING delivery as DONE without learning, an aborted one
as FINAL, and compares the batch where the increments have been taken. -/
def Obligations.OutputsAndDeliveries : Prop :=
  ∀ (s : State) (q : Requester) (k : Fin 4) (v1 : Bool),
    let o := s.out.po[k]
    let d := s.dl
    let can := s.powered 3 = true ∧ s.clk.gateOpen.getLsbD 4 = true ∧ s.pwr.sleep = .awake
    let starts := can ∧ poActs o.cfg = 1 ∧ s.outHeld k.val = false ∧ o.active = false ∧ o.pend ≠ 0#32
    let refused := fun (u t : State) => t = { u with dl.cmdRefused := true }
    let aborts := fun (u : State) (r : Nat) (t : State) =>
      DeliveryAborted u t r ∧ { t with dl := u.dl, log := u.log, freeCtr := u.freeCtr } = u
    let may := decide (q = .eng .k3) || s.mayWriteReg q 63
    let runs := fun (x : Delivery) => x.state = .running ∨ x.state = .trim ∨ x.state = .closing
    (starts → Gives (.pulseStart k) s (fun t =>
      t = { s with out.po := s.out.po.set k { o with active := true, pend := o.pend - 1#32 } })) ∧
    (¬starts → Gives (.pulseStart k) s (fun t => t = s)) ∧
    (can → Gives (.pulseEnd k) s (fun t => t = { s with out.po := s.out.po.set k { o with active := false } })) ∧
    (¬can → Gives (.pulseEnd k) s (fun t => t = s)) ∧
    Writes (.deliveryArm q) s may 63 (fun u t =>
      let src := (u.ab.closed[u.dl.rod]).scale
      let ten := (u.ab.closed[10]).scale
      let ok := (u.dl.state = .idle ∨ u.dl.state = .done ∨ (u.dl.state = .aborted ∧ u.dl.final = true)) ∧
        dcOk u.dl.cfg = true ∧ u.dl.preset ≠ 0#40 ∧ u.dl.trimAt < u.dl.preset ∧ src ≠ 0#64 ∧ (ten = 0#64 ∨ ten = src)
      (ok → t = { u with
        dl.state := .armed, dl.final := false, dl.valveFault := false, dl.trimSkipped := false,
        dl.runoutTimeout := false, dl.learned := false, dl.mismatch := false, dl.reason := 0#4 }) ∧
      (¬ok → refused u t)) ∧
    Writes (.deliveryStart q) s may 63 (fun u t =>
      let barred := u.clk.damp = true ∨ u.pwr.driveOt = true ∨ u.powered 6 = false ∨ u.dl.valveFault = true ∨
        u.fenced .metrology = true ∨ u.fenced .customer = true ∨ u.pwr.pfail = true ∨ u.sys.state = .hold
      let ok := u.dl.state = .armed ∧ (u.sys.state = .line ∨ u.sys.state = .vigil) ∧ u.gradeNow.code ≤ 1 ∧
        u.tw.role ≠ .check ∧ u.pt.unlocked = false ∧ ¬barred
      (ok → t = { u with
        dl.state := .running, dl.v2 := true, dl.base := (u.ab.closed[u.dl.rod]).val.total,
        dl.base10 := (u.ab.closed[10]).val.total, dl.delivered := 0, dl.quiet := 0, dl.learnOk := true,
        dl.compareDue := false, dl.incs := [], dl.incLost := 0#8 }) ∧
      (¬ok → refused u t)) ∧
    Writes (.deliveryStop q) s may 63 (fun u t =>
      (u.dl.state = .armed → t = { u with dl.state := .idle }) ∧ (runs u.dl → aborts u 1 t) ∧
      (u.dl.state ≠ .armed → ¬runs u.dl → refused u t)) ∧
    Writes (.deliveryReset q) s may 63 (fun u t =>
      let ok := u.dl.state = .armed ∨ u.dl.state = .done ∨ (u.dl.state = .aborted ∧ u.dl.final = true)
      (ok → t = { u with dl.state := .idle }) ∧ (¬ok → refused u t)) ∧
    (d.state = .running → s.deliveryBarred = false → Gives .v1SoftStart s (fun t => t = { s with dl.v1 := true })) ∧
    ((d.state ≠ .running ∨ s.deliveryBarred = true) → Gives .v1SoftStart s (fun t => t = s)) ∧
    (dcMaxTime d.cfg ≠ 0 → Gives .deliveryMaxTime s (aborts s 8)) ∧
    (dcMaxTime d.cfg = 0 → Gives .deliveryMaxTime s (fun t => t = s)) ∧
    ((if v1 then d.v1 else d.v2) = true → Gives (.valveOvercurrent v1) s
      (aborts { s with dl.valveFault := true, dl.v1 := false, dl.v2 := false } 10)) ∧
    ((if v1 then d.v1 else d.v2) = false → Gives (.valveOvercurrent v1) s (fun t => t = s)) ∧
    (let compared := fun (x : Delivery) (t : State) =>
       let settled := d.incs = [] ∧ s.ab.touched.getLsbD 10 = false
       let same := (((s.ab.closed[10]).val.total - d.base10) % (256 * countLimit * 2 ^ 64) : Int) = d.delivered
       (¬settled → t = { s with dl := { x with compareDue := true } }) ∧
       (settled → same → t = { s with dl := { x with compareDue := false } }) ∧
       (settled → ¬same → t.dl = { x with compareDue := false, mismatch := true } ∧
         { t with dl := s.dl, log := s.log, freeCtr := s.freeCtr } = s)
     (d.state = .closing → Gives .runoutTimeout s (compared { d with state := .done, runoutTimeout := true })) ∧
     (d.state = .aborted → d.final = false →
       Gives .runoutTimeout s (compared { d with final := true, runoutTimeout := true })) ∧
     (d.state ≠ .closing → (d.state = .aborted → d.final = true) → Gives .runoutTimeout s (fun t => t = s)))

/-- The link comes up, frames are delivered once, pairing exchanges HELLO, certificates and proofs, and ends paired or
with its code. A link that runs and is DOWN or LOST comes up; SEQ counts from 0, the frames that waited first;
unless detached, pairing starts, as it does by PAIRING_RETRY and PAIR: with EN and the link UP and none in progress,
HELLO and the certificate's fragments are queued, or without record 0x0010 it fails with code 1. A frame on a closed
link, one that does not parse and one that repeats the last SEQ change nothing; any other stores its SEQ. HELLO and
fragments advance the pairing; a fragment out of place or a certificate that does not verify fails it with code 2, a
proof that does not verify with 3, the timeout with 9. Advancing, the signature begins with the regulator raised
once HELLO and key stand and the crypto engine is free; its end returns the regulator and sends PROOF; with both
proofs the code of Table 21-4 fails it, or the link is PAIRED, and ROLE is kept, taken by a designated fit twin, or
left for an adoption. A failure ends the signature and returns the regulator. An ACK ends the repeats of its frame,
that of a HANDOVER releases ROLE; the oldest frame is repeated 4 times, 10 while the link is down, then dropped and
counted. A PAIRED link is lost, or detached by frame or command. MERIDIAN activity is a wake source. -/
def Obligations.TwinLinkAndPairing : Prop :=
  ∀ (s : State) (q : Requester) (bs p : List Byte) (seq b : Byte) (pr : Pairing) (cfg h : List Byte) (key : Nat)
    (f : MerFrame) (fs : List MerFrame),
    let u := ({ s with tw.lastSeq := some seq }).hop [31]
    let up := { s with
      tw.link := .up, tw.lastSeq := none, tw.sendSeq := BitVec.ofNat 8 s.tw.out.length,
      tw.out := s.tw.out.mapIdx fun k x => { x with seq := BitVec.ofNat 8 k } }
    let starts := fun (u t : State) =>
      let ready := u.tw.en = true ∧ u.tw.link = .up ∧ u.tw.pairing = none
      (¬ready → t = u) ∧ (ready → u.twinCfg = none → t = { u with tw.pairFail := 1#4 }) ∧
      (ready → u.twinCfg = some cfg →
        let hello := u.helloPayload cfg
        let parts := certFragments Config.identityCert
        t = { u with
          tw.pairing := some ⟨hello, none, [], none, none, false, false, false, none⟩,
          tw.out := u.tw.out ++ ⟨1#8, u.tw.sendSeq, hello, 0⟩ ::
            parts.mapIdx fun k x => ⟨2#8, u.tw.sendSeq + 1#8 + BitVec.ofNat 8 k, x, 0⟩,
          tw.sendSeq := u.tw.sendSeq + 1#8 + BitVec.ofNat 8 parts.length, freeCtr := u.freeCtr + 33 } ∧
        hello.length = 128 ∧ helloPeriod hello = u.sv.travPeriod % 2 ^ 32 ∧ helloSeat hello = u.tw.seat ∧
        helloSealed hello = u.sealed ∧ helloMeter hello = cfg.take 16)
    let takes := fun (typ limit : Nat) => s.linkOpen = true ∧ parseFrame typ limit bs = some (seq, p) ∧
      s.tw.lastSeq ≠ some seq
    let drops := fun (typ limit : Nat) => s.linkOpen = false ∨ parseFrame typ limit bs = none ∨
      (parseFrame typ limit bs = some (seq, p) ∧ s.tw.lastSeq = some seq)
    let failed := fun (u : State) (raised : Option (Bool × BitVec 5)) (c : BitVec 4) (t : State) =>
      let v := { u with tw.pairing := none }
      t = { v.lowerRail raised with tw.pairFail := c } ∧
      (raised = none → t = { v with tw.pairFail := c }) ∧
      (∀ x, raised = some x → t.pwr.regHP = x.1 ∧ t.pwr.vset = if v.voltageOk x.2 then x.2 else u.pwr.vset)
    let advances := fun (u : State) (x : Pairing) (t : State) =>
      let v := { u with tw.pairing := some x }
      let signs := x.peerHello ≠ none ∧ x.peerKey ≠ none ∧ x.proofSent = false ∧ x.signing = false ∧ v.cryptoRuns = false
      let both := x.proofSent = true ∧ x.proofOk = true
      (signs → v.railOk 2 = true → t = { u with tw.pairing := some { x with signing := true, raised := none } }) ∧
      (signs → v.railOk 2 = false → t = { u with
        tw.pairing := some { x with signing := true, raised := some (u.pwr.regHP, u.pwr.vset) }, pwr.regHP := true,
        pwr.vset := if u.pwr.vset.toNat < 2 then 2#5 else u.pwr.vset, pwr.settled := false }) ∧
      (¬signs → (x.peerHello = none ∨ ¬both) → t = v) ∧
      (x.peerHello = some h → both →
        let c := v.pairingCode x.hello h
        let w := { u with
          tw.pairing := none, tw.pairFail := 0#4, tw.link := .paired, tw.linkErr := 0#8, tw.rejoin := true,
          tw.firstEdge := true, tw.window := none }
        let takesRole := u.tw.lineLow = false ∧ designated u.tw.seat x.hello h = true ∧ w.twinFit = true
        (c ≠ 0 → failed u x.raised (BitVec.ofNat 4 c) t) ∧
        (c = 0 → u.tw.holds = true → t = w) ∧
        (c = 0 → u.tw.holds = false → takesRole → t.tw = { w.tw with
          holds := true, handover := false, adopt := false, adoptPaired := false,
          role := if u.tw.en then .principal else .solo } ∧ { t with tw := w.tw, out.aoHeld := w.out.aoHeld } = w) ∧
        (c = 0 → u.tw.holds = false → ¬takesRole → t = { w with tw.adoptPaired := u.tw.role == .check }))
    let digest := pairingDigest s.tw.seat pr.hello Config.identityCert h pr.certPart
    let detached := fun (u : State) (l : Link) =>
      { u with tw.link := l, tw.devValid := false, tw.window := none, tw.adoptPaired := false }
    (s.meridianRuns = true → s.tw.link = .down ∨ s.tw.link = .lost →
      (s.tw.detached = true → Gives .linkUp s (fun t => t = up)) ∧
      (s.tw.detached = false → Gives .linkUp s (fun t => starts up t))) ∧
    ((s.meridianRuns = false ∨ s.tw.link = .up ∨ s.tw.link = .paired) → Gives .linkUp s (fun t => t = s)) ∧
    (s.tw.detached = false → Gives .pairingRetry s (fun t => starts s t)) ∧
    (s.tw.detached = true → Gives .pairingRetry s (fun t => t = s)) ∧
    Writes (.twinPair q) s (s.mayWriteReg q 65) 65 (fun u t => starts { u with tw.detached := false } t) ∧
    (drops 1 128 → Gives (.helloFrame bs) s (fun t => t = s)) ∧ (drops 2 1024 → Gives (.certFrame bs) s (fun t => t = s)) ∧
    (drops 3 512 → Gives (.proofFrame bs) s (fun t => t = s)) ∧ (drops 0x12 0 → Gives (.detachFrame bs) s (fun t => t = s)) ∧
    (s.tw.pairing = none → (takes 1 128 → Gives (.helloFrame bs) s (fun t => t = u)) ∧
      (takes 2 1024 → Gives (.certFrame bs) s (fun t => t = u)) ∧ (takes 3 512 → Gives (.proofFrame bs) s (fun t => t = u)) ∧
      Gives .pairingTimeout s (fun t => t = s) ∧ Gives .pairingSignatureComplete s (fun t => t = s)) ∧
    (s.tw.pairing = some pr →
      Gives .pairingTimeout s (failed s pr.raised 9#4) ∧
      (takes 1 128 → p.length = 128 → Gives (.helloFrame bs) s (advances u { pr with peerHello := some p })) ∧
      (takes 1 128 → p.length ≠ 128 → Gives (.helloFrame bs) s (fun t => t = u)) ∧
      (takes 2 1024 →
        let total := leNat (p.take 2)
        let part := pr.certPart ++ p.drop 8
        let fits := 8 ≤ p.length ∧ leNat ((p.drop 2).take 2) = pr.certPart.length ∧ part.length ≤ total ∧
          (pr.certTotal = none ∨ pr.certTotal = some total)
        let taken := { pr with certPart := part, certTotal := some total }
        (¬fits → Gives (.certFrame bs) s (failed u pr.raised 2#4)) ∧
        (fits → part.length < total → Gives (.certFrame bs) s (advances u taken)) ∧
        (fits → part.length = total → peerCertKey part = none → Gives (.certFrame bs) s (failed u pr.raised 2#4)) ∧
        (fits → part.length = total → peerCertKey part = some key →
          Gives (.certFrame bs) s (advances u { taken with peerKey := some key }))) ∧
      (takes 3 512 →
        (pr.peerHello = some h → pr.peerKey = some key →
          (pssVerify key digest p = false → Gives (.proofFrame bs) s (failed u pr.raised 3#4)) ∧
          (pssVerify key digest p = true → Gives (.proofFrame bs) s (advances u { pr with proofOk := true }))) ∧
        ((pr.peerHello = none ∨ pr.peerKey = none) → Gives (.proofFrame bs) s (failed u pr.raised 3#4))) ∧
      (pr.signing = true → pr.peerHello = some h → Gives .pairingSignatureComplete s (fun t =>
        let sent := { pr with signing := false, proofSent := true }
        let v := ({ s with tw.pairing := some sent }).lowerRail pr.raised
        advances { v with
          tw.out := s.tw.out ++ [⟨3#8, s.tw.sendSeq, Config.identitySign digest, 0⟩],
          tw.sendSeq := s.tw.sendSeq + 1#8 } { sent with raised := none } t ∧
        (pr.raised = none → v = { s with tw.pairing := some sent }))) ∧
      ((pr.signing = false ∨ pr.peerHello = none) → Gives .pairingSignatureComplete s (fun t => t = s))) ∧
    (s.linkOpen = true → parseFrame 0x3F 1 bs = some (seq, [b]) →
      let hand := (s.tw.out.any fun g => g.seq == b && g.typ == 0x11#8) && s.tw.releasing
      let v := { s with tw.out := s.tw.out.filter fun g => g.seq != b }
      (hand = false → Gives (.ackFrame bs) s (fun t => t = v)) ∧
      (hand = true → s.tw.holds = true → Gives (.ackFrame bs) s (fun t => Released v t)) ∧
      (hand = true → s.tw.holds = false → Gives (.ackFrame bs) s (fun t => t = v))) ∧
    ((s.linkOpen = false ∨ parseFrame 0x3F 1 bs = none ∨ (parseFrame 0x3F 1 bs = some (seq, []))) →
      Gives (.ackFrame bs) s (fun t => t = s)) ∧
    (s.tw.out = f :: fs →
      let limit := if s.tw.link = .up ∨ s.tw.link = .paired then 4 else 10
      (f.repeats < limit → Gives .meridianRetry s (fun t =>
        t = { s with tw.out := { f with repeats := f.repeats + 1 } :: fs })) ∧
      (limit ≤ f.repeats → Gives .meridianRetry s (fun t =>
        t.tw.linkErr.toNat = min 255 (s.tw.linkErr.toNat + 1) ∧ t = { s with tw.out := fs, tw.linkErr := t.tw.linkErr }))) ∧
    (s.tw.out = [] → Gives .meridianRetry s (fun t => t = s)) ∧
    (s.tw.link = .paired → Gives .linkLost s (fun t => t = (detached s .lost).event 16 ∧
      (s.powered 3 = true → t.sys.eventFlags = s.sys.eventFlags ||| 0x10000#24))) ∧
    (s.tw.link ≠ .paired → Gives .linkLost s (fun t => t = s)) ∧
    (takes 0x12 0 → Gives (.detachFrame bs) s (fun t => t = if s.tw.link = .paired then detached u .up else u)) ∧
    Writes (.twinDetach q) s (s.mayWriteReg q 65) 65 (fun u t =>
      (u.tw.link = .paired → t = { detached u .up with
        tw.detached := true, tw.out := u.tw.out ++ [⟨0x12#8, u.tw.sendSeq, [], 0⟩],
        tw.sendSeq := u.tw.sendSeq + 1#8 }) ∧
      (u.tw.link ≠ .paired → t = u)) ∧
    (s.powered 3 = true → Gives .meridianRequest s (fun t => Woken s t 3)) ∧
    (s.powered 3 = false → Gives .meridianRequest s (fun t => t = s))

/-- STATUS marks, SERVICE frames queue, SYNC sets the boundary, and ROLE passes by release, handover and takeover. A
frame that is delivered stores its SEQ. A principal's STATUS is a check twin's mark, a check twin's gives a
principal DEV, VALID, ALARM and WSEQ; any other is only counted, and a payload of another length not even that.
HANDOVER acts as STATUS and lets the line be taken at once. A SERVICE frame enters the next of four slots with its
length; where all are taken it is not delivered. With VIO present a SYNC edge within 50 microseconds of its place,
or the first after pairing, puts a check twin's time base at half a period; any other changes nothing. The level of
ROLE is taken, VIO low reading as released; a fit check twin takes ROLE when it sees the line released after
HANDOVER, at ROLE_TAKEOVER and when REJOIN_WAIT passes with the line released: it holds the line, becomes PRINCIPAL,
adopts at its next group closure, and leaves probation; any other does not. RELEASE closes the group of a principal;
a PAIRED one sends HANDOVER and stops SYNC, another releases at once. Without an ACK in time ROLE is released: SYNC
stops, the twin with EN becomes CHECK, its delivery aborts with reason 4 and its LEGAL outputs are held. -/
def Obligations.TwinRunningAndTakeover : Prop :=
  ∀ (s : State) (q : Requester) (bs p : List Byte) (seq : Byte) (f : StatusRec) (low : Bool) (k : Nat),
    let u := ({ s with tw.lastSeq := some seq }).hop [31]
    let takes := fun (typ limit : Nat) => s.linkOpen = true ∧ parseFrame typ limit bs = some (seq, p) ∧
      s.tw.lastSeq ≠ some seq
    let drops := fun (typ limit : Nat) => s.linkOpen = false ∨ parseFrame typ limit bs = none ∨
      (parseFrame typ limit bs = some (seq, p) ∧ s.tw.lastSeq = some seq)
    let marked : State :=
      if s.tw.role = .check ∧ f.role = 1#8 then { u with
        tw.statusIn := true, tw.markAge := 0,
        tw.mark := some ⟨f, Vector.replicate 8 RodSt.zero, Vector.replicate 4 0#64, 0#2, false⟩ }
      else if s.tw.role = .principal ∧ f.role = 2#8 then { u with
        tw.statusIn := true, tw.dev := field f.dev 0 24, tw.devValid := f.dev.getLsbD 24,
        tw.devAlarm := f.dev.getLsbD 25, tw.wseq := field f.dev 26 6 }
      else { u with tw.statusIn := true }
    let taken := fun (v t : State) =>
      t.tw = { v.tw with
        holds := true, handover := false, adopt := true, adoptPaired := false, probation := false,
        role := if v.tw.en then .principal else .solo } ∧ { t with tw := v.tw, out.aoHeld := v.out.aoHeld } = v
    let fit := fun (v : State) => v.tw.role = .check ∧ (v.sys.state = .line ∨ v.sys.state = .vigil) ∧
      v.gradeNow.code ≤ 1 ∧ v.pt.unlocked = false ∧ v.st.bp ≠ 3#2 ∧ v.tw.rejoin = true
    let place := s.tw.firstEdge = true ∨ ((s.sv.timeBase : Int) - (200 * s.sv.travPeriod : Nat)).natAbs ≤ 20000
    let slot := s.ringPtr 0
    let room := (slot + 65536 - s.ringPtr 1) % 65536 < 4
    (takes 0x10 184 →
      (parseStatus p = none → Gives (.statusFrame bs) s (fun t => t = u)) ∧
      (parseStatus p = some f → Gives (.statusFrame bs) s (fun t => t = marked ∧
        f.tc = BitVec.ofNat 64 (leNat (p.take 8)) ∧ f.role = p.getD 10 0#8 ∧
        f.dev = BitVec.ofNat 32 (leNat ((p.drop 16).take 4))))) ∧
    (takes 0x11 184 →
      (parseStatus p = none → Gives (.handoverFrame bs) s (fun t => t = u)) ∧
      (parseStatus p = some f → Gives (.handoverFrame bs) s (fun t => t = { marked with tw.handover := true }))) ∧
    (drops 0x10 184 → Gives (.statusFrame bs) s (fun t => t = s)) ∧
    (drops 0x11 184 → Gives (.handoverFrame bs) s (fun t => t = s)) ∧
    ((drops 0x20 1016 ∨ ¬room) → Gives (.serviceFrame bs) s (fun t => t = s)) ∧
    (takes 0x20 1016 → room → Gives (.serviceFrame bs) s (fun t =>
      let at_ := 0x8000 + 0x400 * (slot % 4)
      t.ringPtr 0 = (slot + 1) % 65536 ∧
      (k < 8 → t.prt.win.get 0#8 (at_ + k) = (leBytes 8 p.length).getD k 0#8) ∧
      (k < p.length → t.prt.win.get 0#8 (at_ + 8 + k) = p.getD k 0#8) ∧
      ((k < at_ ∨ at_ + 8 + p.length ≤ k) → (k < 0xA000 ∨ 0xA002 ≤ k) →
        t.prt.win.get 0#8 k = s.prt.win.get 0#8 k) ∧
      { t with prt.win := s.prt.win } = u)) ∧
    (s.tw.role = .check → s.pwr.vioLow = false → place → Gives .syncEdge s (fun t => t = { s with
      sv.timeBase := 200 * s.sv.travPeriod, tw.edgeSeen := true, tw.firstEdge := false, tw.syncFault := false })) ∧
    ((s.tw.role ≠ .check ∨ s.pwr.vioLow = true ∨ ¬place) → Gives .syncEdge s (fun t => t = s)) ∧
    (let seen := { s with tw.lineLow := low && !s.pwr.vioLow }
     let takesIt := seen.tw.lineLow = false ∧ s.tw.handover = true ∧ fit s
     (takesIt → Gives (.roleLineChange low) s (fun t => taken seen t)) ∧
     (¬takesIt → Gives (.roleLineChange low) s (fun t => t = seen))) ∧
    (fit s → s.tw.lineLow = false → Gives .roleTakeover s (fun t => taken s t)) ∧
    ((¬fit s ∨ s.tw.lineLow = true) → Gives .roleTakeover s (fun t => t = s)) ∧
    (let v := { s with tw.rejoin := true }
     (fit v → s.tw.lineLow = false → Gives .rejoinWaitPassed s (fun t => taken v t)) ∧
     ((¬fit v ∨ s.tw.lineLow = true) → Gives .rejoinWaitPassed s (fun t => t = v))) ∧
    Writes (.twinRelease q) s (s.mayWriteReg q 65) 65 (fun u t =>
      let v := u.closeGroup .k01
      (u.tw.role = .principal → u.tw.link = .paired → v.statusPayload.length = 184 ∧ t = { v with
        tw.out := v.tw.out ++ [⟨0x11#8, v.tw.sendSeq, v.statusPayload, 0⟩], tw.sendSeq := v.tw.sendSeq + 1#8,
        tw.syncDrive := false, tw.releasing := true }) ∧
      (u.tw.role = .principal → u.tw.link ≠ .paired → u.tw.holds = true → Released v t) ∧
      (u.tw.role = .principal → u.tw.link ≠ .paired → u.tw.holds = false → t = v) ∧
      (u.tw.role ≠ .principal → t = u)) ∧
    (s.tw.releasing = true → s.tw.holds = true → Gives .handoverAckTimeout s (fun t => Released s t)) ∧
    ((s.tw.releasing = false ∨ s.tw.holds = false) → Gives .handoverAckTimeout s (fun t => t = s))

/-- The key unlocks and locks, timing delays are set, flow settings wait for the boundary or are refused, stalls act at
once. Where a write reaches its register: the host's two key values in turn unlock: counts and shadow rods cleared,
the traverses in progress and the intervals not yet accounted marked TEST, ROLE released, a delivery aborted, LEGAL
outputs held, EVENT_FLAGS bit 17; a wrong second value drops the half key, a wrong first one changes nothing. While
unlocked 0 locks: delays, stalls and the settings that wait are gone, the flow settings in force cease at the next
boundary; any other value changes nothing. No other requester writes the key. While unlocked PERTURB_TIMING takes a
target and with WR its delay; CLEAR, STOP_OFFSET, DROP and SYNTH_DT with a valid unit and value wait for the
boundary, CLEAR of unit 31 ends every stall at once, STALL acts and counts at once, up to 63; an invalid unit or
value sets PT_REFUSED alone. While locked they do nothing. STALL_EXPIRY ends a stall that has a time and does
nothing to any other. -/
def Obligations.PerturbationCommands : Prop :=
  ∀ (s : State) (q : Requester) (key v : W32) (unit : BitVec 5) (value : BitVec 24) (k : Fin 7) (l : Lane) (c : Chord),
    let refused := fun (u t : State) => t = { u with pt.bit1 := true }
    let waits := fun (x : FlowSet) (u t : State) => t = { u with pt.flow := u.pt.flow ++ [x] }
    let goes := fun (i : Instr) (P : State → State → Prop) => Writes i s (s.mayWriteReg q 70) 70 (fun u t =>
      (u.pt.unlocked = false → t = u) ∧ (u.pt.unlocked = true → P u t))
    Writes (.perturbKeyWrite q key) s (q == .host) 68 (fun u t =>
      (u.pt.unlocked = false → u.pt.bit1 = false →
        t = if key = 0x00005EED#32 then { u with pt.bit1 := true } else u) ∧
      (u.pt.unlocked = false → u.pt.bit1 = true → key ≠ 0x0000C0DE#32 → t = { u with pt.bit1 := false }) ∧
      (u.pt.unlocked = false → u.pt.bit1 = true → key = 0x0000C0DE#32 →
        t.pt = { u.pt with
          unlocked := true, bit1 := false, delayed := 0#6, offset := 0#6, drops := 0#6, stalls := 0#6, synths := 0#6,
          travTest := true } ∧
        t.ab = { u.ab with shadow := zeroRods } ∧ t.tw.holds = false ∧ (u.tw.holds = false → t.tw = u.tw) ∧
        (u.dl.state = .running ∨ u.dl.state = .trim ∨ u.dl.state = .closing →
          t.dl.state = .aborted ∧ t.dl.v1 = false ∧ t.dl.v2 = false ∧
          t.dl.reason = if u.tw.holds && u.tw.en && u.tw.role != .check then 4#4 else 11#4) ∧
        (u.dl.state ≠ .running → u.dl.state ≠ .trim → u.dl.state ≠ .closing → t.dl = u.dl) ∧
        (∀ j : Fin 4, (t.out.po[j]) = if u.out.legal.getLsbD j.val then
          { u.out.po[j] with acc := 0#64, pend := 0#32, active := false } else u.out.po[j]) ∧
        (∀ x ∈ t.sv.traverses, x.test = true) ∧ (∀ x ∈ t.fl.waiting, x.dest = .test) ∧ (∀ x ∈ t.fl.incs, x.dest = .test) ∧
        (u.powered 3 = true → t.sys.eventFlags = u.sys.eventFlags ||| 0x20000#24) ∧
        { t with pt := u.pt, ab := u.ab, tw := u.tw, dl := u.dl, out := u.out, sv.traverses := u.sv.traverses,
                 fl.waiting := u.fl.waiting, fl.incs := u.fl.incs, sys.eventFlags := u.sys.eventFlags, log := u.log,
                 freeCtr := u.freeCtr } = u) ∧
      (u.pt.unlocked = true → key ≠ 0#32 → t = u) ∧
      (u.pt.unlocked = true → key = 0#32 →
        t.pt = { u.pt with
          unlocked := false, bit1 := false, delay := Vector.replicate 32 0#8, stalled := Vector.replicate 7 false,
          flow := [], lockPending := true } ∧
        t.ab = u.ab ∧ t.tw = u.tw ∧ t.dl = u.dl ∧ t.sys = u.sys ∧ t.st = u.st ∧ t.lanes = u.lanes)) ∧
    Writes (.perturbTimingWrite q v) s (s.mayWriteReg q 69) 69 (fun u t =>
      (u.pt.unlocked = false → t = u) ∧
      (u.pt.unlocked = true → v.getLsbD 13 = false → t = { u with pt.target := field v 0 5 }) ∧
      (u.pt.unlocked = true → v.getLsbD 13 = true → t.pt.target = field v 0 5 ∧
        (∀ j : Fin 32, t.pt.delay[j] = if j.val = (field v 0 5).toNat then field v 5 8 else u.pt.delay[j]) ∧
        { t with pt.target := u.pt.target, pt.delay := u.pt.delay } = u)) ∧
    goes (.perturbClear q unit value) (fun u t =>
      let ok := value = 0#24 ∧ (unit.toNat ≤ 21 ∨ unit = 31#5)
      (¬ok → refused u t) ∧ (ok → unit ≠ 31#5 → waits (.clear unit) u t) ∧
      (ok → unit = 31#5 → t.pt = { u.pt with
          flow := u.pt.flow ++ [.clear 31#5], stalled := Vector.replicate 7 false, delayed := t.pt.delayed } ∧
        t.ab = u.ab ∧ t.tw = u.tw ∧ t.dl = u.dl ∧ t.sys = u.sys ∧ t.st = u.st ∧ t.lanes = u.lanes)) ∧
    goes (.stopOffset q unit value) (fun u t =>
      ((22 ≤ unit.toNat ∨ value = 0x800000#24) → refused u t) ∧
      (l.val = unit.toNat → value ≠ 0x800000#24 → waits (.stopOffset l value) u t)) ∧
    goes (.drop q unit value) (fun u t =>
      ((20 ≤ unit.toNat ∨ 1024 ≤ value.toNat) → refused u t) ∧
      (c.val = unit.toNat → value.toNat < 1024 → waits (.drop c (field value 0 2) (field value 2 8)) u t)) ∧
    goes (.synthDt q unit value) (fun u t =>
      ((20 ≤ unit.toNat ∨ value = 0x800000#24) → refused u t) ∧
      (c.val = unit.toNat → value ≠ 0x800000#24 → waits (.synth c value) u t)) ∧
    goes (.stall q unit value) (fun u t =>
      ((7 ≤ unit.toNat ∨ 65536 ≤ value.toNat) → refused u t) ∧
      (k.val = unit.toNat → value.toNat < 65536 → t.pt.stalls.toNat = min 63 (u.pt.stalls.toNat + 1) ∧
        t = { u with
          pt.stalled := u.pt.stalled.set k true, pt.stallTimed := u.pt.stallTimed.set k (value != 0#24),
          pt.stalls := t.pt.stalls })) ∧
    (s.pt.stalled[k] = true → s.pt.stallTimed[k] = true → Gives (.stallExpiry k) s (fun t =>
      t.pt = { s.pt with stalled := s.pt.stalled.set k false, delayed := t.pt.delayed } ∧
      t.ab = s.ab ∧ t.tw = s.tw ∧ t.dl = s.dl ∧ t.sys = s.sys ∧ t.st = s.st ∧ t.lanes = s.lanes)) ∧
    ((s.pt.stalled[k] = false ∨ s.pt.stallTimed[k] = false) → Gives (.stallExpiry k) s (fun t => t = s))

/-- The two mailboxes take and give entries as R410 says, with MBI_OVF, MBO_EMPTY and EVENT_FLAGS.MAILBOX. While the
handshake unit serves: a value written to MAILBOX_IN joins K2's queue zero-extended with sender 7 (an engine that
waits in RECV takes it at once), and is dropped with MBI_OVF where that queue is full. SEND to number 7, its earlier
stores acknowledged, appends g[a][31:0] to MAILBOX_OUT where it holds fewer than four entries, with
EVENT_FLAGS.MAILBOX where it was empty, and appends nothing to a full one. A read of MAILBOX_OUT answers and removes
the oldest entry, and zero with MBO_EMPTY from an empty queue. -/
def Obligations.HostMailbox : Prop :=
  ∀ (s : State) (e : Eng) (a d : GReg) (v : W32), s.hubServes = true →
    (s.queueHasRoom .k2 = true → (∀ k, (s.engine .k2).wait ≠ some (.recv k)) →
      Gives (.mailboxInWrite v) s (fun t => ∃ w, w.toNat = v.toNat + 7 * 2 ^ 56 ∧
        (t.engine .k2).inbox = (s.engine .k2).inbox ++ [w])) ∧
    (s.queueHasRoom .k2 = true → (s.engine .k2).wait = some (.recv d) → d ≠ 0#5 →
      Gives (.mailboxInWrite v) s (fun t => (t.reg .k2 d).toNat = v.toNat + 7 * 2 ^ 56 ∧ (t.engine .k2).wait = none)) ∧
    (s.queueHasRoom .k2 = false → Gives (.mailboxInWrite v) s (fun t => t = { s with er.mbiOvf := true })) ∧
    (Clear s e → s.er.mailboxOut.length < 4 →
      Gives (.hskSend e a 7#5) s (fun t => t.er.mailboxOut = s.er.mailboxOut ++ [field (s.reg e a) 0 32] ∧
        (s.er.mailboxOut = [] → t.sys.eventFlags = s.sys.eventFlags ||| (1#24 <<< 18)) ∧
        (s.er.mailboxOut ≠ [] → t.sys.eventFlags = s.sys.eventFlags))) ∧
    (Clear s e → 4 ≤ s.er.mailboxOut.length →
      Gives (.hskSend e a 7#5) s (fun t => t.er.mailboxOut = s.er.mailboxOut)) ∧
    (∀ w rest, s.er.mailboxOut = w :: rest →
      Gives .mailboxOutRead s (fun t => t.readOut = w.setWidth 64 ∧ ∃ more, t.er.mailboxOut = rest ++ more)) ∧
    (s.er.mailboxOut = [] →
      Gives .mailboxOutRead s (fun t => t = { s with er.mboEmpty := true, readOut := 0#64 }))

/-- A step is the command at the front of the queue, on the state with the queue's rest; an empty queue lets 2.5 ns
pass. For every command c and state s, the step of s with c at the front of its queue is exec of c on s with the
queue's rest. On an empty queue the step passes one period of the 400 MHz lane clock, which is the model's own
choice (log 1). -/
def Obligations.StepTakesTheFront : Prop :=
  (∀ (c : Instr) (rest : List Instr) (s : State), step { s with pending := c :: rest } = exec c { s with pending := rest }) ∧
    ∀ s : State, s.pending = [] → step s = .next s.idle

/-- Every command answers a next state in every state, and none of them touches the queue of commands. For every command
c and every state s, also one that no run reaches, exec c s answers a next state (never a fault, never a refusal),
and the commands that wait in it are those that waited in s. -/
def Obligations.EveryCommandCompletes : Prop :=
  ∀ (c : Instr) (s : State), Gives c s (fun t => t.pending = s.pending)

/-- The state after a backup power-on reset has the reset values of the register map, a valid calendar and canonical
memories. State.reset, the device after a backup power-on reset with VIN present (its supplies are the model's
choice, log 8), is in BOOT with CODE = POWER_ON and no event flag, K2 running and the other engines halted,
2000-01-01 00:00:00 with no trim, cleared backup registers and disarmed alarms, and shows the reset values of
chapter 23 for SCRATCH, EVENT_MASK, VOLT, PLL_CFG, LANE, SURVEY, BLANK, the watchdog period, the update time-out and
the stretch enable. Its queue is empty, its calendar shows a date that exists and every memory is in canonical form. -/
def Obligations.ResetLeaves : Prop :=
  let s := State.reset
  s.pending = [] ∧ s.calendarOk ∧ s.memoriesOk ∧ s.sys.state = .boot ∧ s.fault = FaultLatch.powerOn ∧
    s.sys.eventFlags = 0#24 ∧ s.sys.eventMask = 0#23 ∧ s.sys.scratch = 0#32 ∧ (s.engine .k2).halt = false ∧
    (∀ e, e ≠ .k2 → (s.engine e).halt = true) ∧ s.rtc.cal = ⟨0#6, 0#6, 0#5, 1#5, 1#4, 0#8⟩ ∧ s.rtc.trim = 0#11 ∧
    s.rtc.bkp = [] ∧ s.rtc.alarm0.arm = false ∧ s.rtc.alarm1.arm = false ∧ s.pwr.vset = 4#5 ∧ s.clk.kdiv = 80#7 ∧
    s.clk.sdiv = 80#7 ∧ s.lr.rotEn = true ∧ s.lr.rotPeriod = 60#10 ∧ s.lr.hits = 4#4 ∧ s.lr.retry = 3#2 ∧
    s.sv.holdTime = 20#10 ∧ s.sv.dtAbs = 100#8 ∧ s.sv.dtRel = 64#8 ∧ s.sv.reacq = 3#3 ∧ s.aux.blankMaxHold = 500#16 ∧
    s.aux.blankResume = 20#8 ∧ s.er.wdPeriod = 15#4 ∧ s.upd.idleTimeout = 10#8 ∧ s.prt.i2cStretch = true

/-- Every Teique instruction reads back from its word with every operand, and a word that decodes is the word of what it
decodes to. For every command that has a Teique word, some engine (the one it names) reads that very command from
the word, whatever its register numbers, immediates, slots, modifiers and fn values; and where a word decodes to an
instruction on an engine, the word of that instruction is that word, so that no two words are one instruction and no
bit of a word is dropped. -/
def Obligations.TeiqueWordsRoundTrip : Prop :=
  (∀ (i : Instr) (w : W32), teiqueWord i = some w → ∃ e, decodeTeique e w = some i) ∧
    ∀ (e : Eng) (w : W32) (i : Instr), decodeTeique e w = some i → teiqueWord i = some w

/-- From a calendar that shows a date and time that exist, every step leads to one that does. In every state whose
calendar shows second, minute, hour, day, month and year within their ranges, with a day that exists in its month
and year, every step (a command or an empty queue) that answers a next state leaves such a calendar: the count
carries through month ends, leap years and the roll-over of 2199, a commit loads only a staging set that is valid,
and no reset but the backup power-on reset touches it. -/
def Obligations.CalendarStaysValid : Prop :=
  ∀ s t : State, s.calendarOk → step s = .next t → t.calendarOk

/-- From memories in canonical form, every step leads to memories in canonical form. In every state whose program and
data memories, common SRAM, result page, backup registers, store array, code store, update buffer and port windows
list rising addresses and no byte equal to what an unlisted one reads as, every step that answers a next state
leaves them so; equal memories are therefore equal data. -/
def Obligations.MemoriesStayCanonical : Prop :=
  ∀ s t : State, s.memoriesOk → step s = .next t → t.memoriesOk
end

