-- ==== Sys2Proof/Laws/Memory.lean ====
section
/-! SUPPORT. Byte memories and sparse word maps: what a read finds after a write, and that every write keeps the
canonical form. -/
namespace Sys2Proof.Machine

/-! ## Reading after erasing, inserting and writing -/

theorem Mem.get_erase_self (d : Byte) (m : Mem) (a : Nat) : (m.erase a).get d a = d := by
  induction m with
  | nil => rfl
  | cons c m ih =>
    simp only [Mem.erase]
    split
    · exact ih
    · next h => simp [Mem.get, h, ih]

theorem Mem.get_erase_other (d : Byte) (m : Mem) (a k : Nat) (h : k ≠ a) : (m.erase a).get d k = m.get d k := by
  induction m with
  | nil => rfl
  | cons c m ih =>
    simp only [Mem.erase]
    split
    · next e => simp [Mem.get, ih, e, Ne.symm h]
    · simp [Mem.get, ih]

theorem Mem.get_insert_other (d : Byte) (m : Mem) (a k : Nat) (v : Byte) (h : k ≠ a) :
    (m.insert d a v).get d k = m.get d k := by
  induction m with
  | nil =>
    simp only [Mem.insert]
    split <;> simp [Mem.get, Ne.symm h]
  | cons c m ih =>
    simp only [Mem.insert]
    split
    · split <;> simp [Mem.get, Ne.symm h]
    · simp [Mem.get, ih]

theorem Mem.get_insert_self (d : Byte) (m : Mem) (a : Nat) (v : Byte) (h : ∀ c ∈ m, c.1 ≠ a) :
    (m.insert d a v).get d a = v := by
  induction m with
  | nil =>
    simp only [Mem.insert]
    split
    · next e => simp [Mem.get, e]
    · simp [Mem.get]
  | cons c m ih =>
    have hc : c.1 ≠ a := h c (by simp)
    have hm : ∀ x ∈ m, x.1 ≠ a := fun x hx => h x (by simp [hx])
    simp only [Mem.insert]
    split
    · split
      · next e =>
        have hg : ∀ l : Mem, (∀ x ∈ l, x.1 ≠ a) → l.get d a = d := by
          intro l hl
          induction l with
          | nil => rfl
          | cons y l il =>
            have := hl y (by simp)
            simp [Mem.get, this, il fun x hx => hl x (by simp [hx])]
        rw [hg _ h, e]
      · simp [Mem.get]
    · simp [Mem.get, hc, ih hm]

theorem Mem.erase_no_entry (m : Mem) (a : Nat) : ∀ c ∈ m.erase a, c.1 ≠ a := by
  induction m with
  | nil => simp [Mem.erase]
  | cons c m ih =>
    simp only [Mem.erase]
    split
    · exact ih
    · next h =>
      intro x hx
      rcases List.mem_cons.mp hx with rfl | hx
      · exact h
      · exact ih x hx

/-- A read at the address just written finds the byte written. -/
@[simp] theorem Mem.get_set_self (d : Byte) (m : Mem) (a : Nat) (v : Byte) : (m.set d a v).get d a = v :=
  Mem.get_insert_self d _ a v (Mem.erase_no_entry m a)

/-- A write leaves every other address as it was. -/
theorem Mem.get_set_other (d : Byte) (m : Mem) (a k : Nat) (v : Byte) (h : k ≠ a) : (m.set d a v).get d k = m.get d k := by
  rw [Mem.set, Mem.get_insert_other d _ a k v h, Mem.get_erase_other d m a k h]

/-- Bytes written from `a` upwards leave every address outside them as it was. -/
theorem Mem.get_write_outside (d : Byte) (bs : List Byte) (m : Mem) (a k : Nat) (h : k < a ∨ a + bs.length ≤ k) :
    (m.write d a bs).get d k = m.get d k := by
  induction bs generalizing m a with
  | nil => rfl
  | cons b bs ih =>
    simp only [List.length_cons] at h
    rw [Mem.write, ih _ _ (by omega), Mem.get_set_other d m a k b (by omega)]

/-- Reading back what has just been written. -/
theorem Mem.bytes_write (d : Byte) (bs : List Byte) (m : Mem) (a : Nat) :
    (m.write d a bs).bytes d a bs.length = bs := by
  induction bs generalizing m a with
  | nil => rfl
  | cons b bs ih =>
    simp only [List.length_cons, Mem.bytes, Mem.write, ih]
    rw [Mem.get_write_outside d bs _ (a + 1) a (by omega), Mem.get_set_self]

/-! ## The canonical form -/

theorem Mem.wfFrom_mono (d : Byte) (m : Mem) (lo lo' : Nat) (h : lo' ≤ lo) (w : Mem.wfFrom d lo m = true) :
    Mem.wfFrom d lo' m = true := by
  cases m with
  | nil => rfl
  | cons c m =>
    simp only [Mem.wfFrom, Bool.and_eq_true, decide_eq_true_eq] at w ⊢
    exact ⟨⟨by omega, w.1.2⟩, w.2⟩

theorem Mem.wfFrom_erase (d : Byte) (m : Mem) (lo a : Nat) (w : Mem.wfFrom d lo m = true) :
    Mem.wfFrom d lo (m.erase a) = true := by
  induction m generalizing lo with
  | nil => rfl
  | cons c m ih =>
    simp only [Mem.wfFrom, Bool.and_eq_true, decide_eq_true_eq] at w
    simp only [Mem.erase]
    split
    · exact ih _ (Mem.wfFrom_mono d m _ _ (by omega) w.2)
    · simp only [Mem.wfFrom, Bool.and_eq_true, decide_eq_true_eq]
      exact ⟨w.1, ih _ w.2⟩

theorem Mem.wfFrom_insert (d : Byte) (m : Mem) (lo a : Nat) (v : Byte) (hl : lo ≤ a) (h : ∀ c ∈ m, c.1 ≠ a)
    (w : Mem.wfFrom d lo m = true) : Mem.wfFrom d lo (m.insert d a v) = true := by
  induction m generalizing lo with
  | nil =>
    simp only [Mem.insert]
    split
    · rfl
    · next e => simp [Mem.wfFrom, hl, e]
  | cons c m ih =>
    have hc : c.1 ≠ a := h c (by simp)
    simp only [Mem.wfFrom, Bool.and_eq_true, decide_eq_true_eq] at w
    simp only [Mem.insert]
    split
    · split
      · simp only [Mem.wfFrom, Bool.and_eq_true, decide_eq_true_eq]
        exact w
      · next e =>
        simp only [Mem.wfFrom, Bool.and_eq_true, decide_eq_true_eq]
        exact ⟨⟨hl, by simp [e]⟩, ⟨by omega, w.1.2⟩, w.2⟩
    · simp only [Mem.wfFrom, Bool.and_eq_true, decide_eq_true_eq]
      exact ⟨w.1, ih _ (by omega) (fun x hx => h x (by simp [hx])) w.2⟩

/-- A write of one byte keeps the canonical form. -/
theorem Mem.wf_set (d : Byte) (m : Mem) (a : Nat) (v : Byte) (w : m.wf d = true) : (m.set d a v).wf d = true :=
  Mem.wfFrom_insert d _ 0 a v (Nat.zero_le a) (Mem.erase_no_entry m a) (Mem.wfFrom_erase d m 0 a w)

/-- A write of several bytes keeps the canonical form. -/
theorem Mem.wf_write (d : Byte) (bs : List Byte) (m : Mem) (a : Nat) (w : m.wf d = true) : (m.write d a bs).wf d = true := by
  induction bs generalizing m a with
  | nil => exact w
  | cons b bs ih => exact ih _ _ (Mem.wf_set d m a b w)

theorem Mem.wf_setWord64 (d : Byte) (m : Mem) (a : Nat) (v : W64) (w : m.wf d = true) : (m.setWord64 d a v).wf d = true :=
  Mem.wf_write d _ m a w

theorem Mem.wf_setWord32 (d : Byte) (m : Mem) (a : Nat) (v : W32) (w : m.wf d = true) : (m.setWord32 d a v).wf d = true :=
  Mem.wf_write d _ m a w

/-- The empty memory, which every volatile memory is at reset, is in canonical form. -/
theorem Mem.wf_nil (d : Byte) : Mem.wf d [] = true := rfl

/-- The store as it leaves manufacture is in canonical form. -/
theorem Mem.wf_factoryLog : Mem.wf 0#8 factoryLog = true := by decide

/-! ## Little-endian words (R12) -/

theorem length_leBytes (n v : Nat) : (leBytes n v).length = n := by
  induction n generalizing v with
  | zero => rfl
  | succ n ih => simp [leBytes, ih]

theorem leNat_leBytes (n v : Nat) : leNat (leBytes n v) = v % 256 ^ n := by
  induction n generalizing v with
  | zero => simp [leBytes, leNat, Nat.mod_one]
  | succ n ih =>
    simp only [leBytes, leNat, ih, BitVec.toNat_ofNat]
    have hp : 256 ^ (n + 1) = 256 * 256 ^ n := by rw [Nat.pow_succ, Nat.mul_comm]
    rw [hp, Nat.mod_mul]

/-- A 64-bit word just written reads back. -/
theorem Mem.word64_setWord64 (d : Byte) (m : Mem) (a : Nat) (v : W64) : (m.setWord64 d a v).word64 d a = v := by
  have h := Mem.bytes_write d (leBytes 8 v.toNat) m a
  rw [length_leBytes] at h
  rw [Mem.word64, Mem.setWord64, h, leNat_leBytes]
  apply BitVec.eq_of_toNat_eq
  have := v.isLt
  simp only [BitVec.toNat_ofNat]
  omega

/-! ## Sparse word maps -/

theorem WMap.get_erase_self (m : WMap) (a : Nat) : (m.erase a).get a = 0#64 := by
  induction m with
  | nil => rfl
  | cons c m ih =>
    simp only [WMap.erase]
    split
    · exact ih
    · next h => simp [WMap.get, h, ih]

theorem WMap.get_erase_other (m : WMap) (a k : Nat) (h : k ≠ a) : (m.erase a).get k = m.get k := by
  induction m with
  | nil => rfl
  | cons c m ih =>
    simp only [WMap.erase]
    split
    · next e => simp [WMap.get, ih, e, Ne.symm h]
    · simp [WMap.get, ih]

theorem WMap.erase_no_entry (m : WMap) (a : Nat) : ∀ c ∈ m.erase a, c.1 ≠ a := by
  induction m with
  | nil => simp [WMap.erase]
  | cons c m ih =>
    simp only [WMap.erase]
    split
    · exact ih
    · next h =>
      intro x hx
      rcases List.mem_cons.mp hx with rfl | hx
      · exact h
      · exact ih x hx

theorem WMap.get_insert (m : WMap) (a k : Nat) (v : W64) (h : ∀ c ∈ m, c.1 ≠ a) :
    (m.insert a v).get k = if k = a then v else m.get k := by
  induction m with
  | nil => simp [WMap.insert, WMap.get, eq_comm]
  | cons c m ih =>
    have hc : c.1 ≠ a := h c (by simp)
    simp only [WMap.insert]
    split
    · simp [WMap.get, eq_comm]
    · simp only [WMap.get, ih fun x hx => h x (by simp [hx])]
      split
      · next e => simp [← e, hc]
      · rfl

/-- A word just set reads back, and every other offset as before. -/
theorem WMap.get_set (m : WMap) (a k : Nat) (v : W64) : (m.set a v).get k = if k = a then v else m.get k := by
  simp only [WMap.set]
  split
  · next e =>
    split
    · next h => rw [h, WMap.get_erase_self, e]
    · next h => exact WMap.get_erase_other m a k h
  · rw [WMap.hold, WMap.get_insert _ a k v (WMap.erase_no_entry m a)]
    split
    · rfl
    · next h => exact WMap.get_erase_other m a k h

end Sys2Proof.Machine
end

