-- ==== Sys2Proof/Laws/State.lean ====
section
/-! SUPPORT. What each update of one part of the state leaves alone, field by field, and what it reads back. -/
namespace Sys2Proof.Machine

/-! ## modEngine -/

@[simp] theorem State.modEngine_pending (s : State) (e : Eng) (f : Engine → Engine) : (s.modEngine e f).pending = s.pending := rfl
@[simp] theorem State.modEngine_freeCtr (s : State) (e : Eng) (f : Engine → Engine) : (s.modEngine e f).freeCtr = s.freeCtr := rfl
@[simp] theorem State.modEngine_readOut (s : State) (e : Eng) (f : Engine → Engine) : (s.modEngine e f).readOut = s.readOut := rfl
@[simp] theorem State.modEngine_er (s : State) (e : Eng) (f : Engine → Engine) : (s.modEngine e f).er = s.er := rfl
@[simp] theorem State.modEngine_br (s : State) (e : Eng) (f : Engine → Engine) : (s.modEngine e f).br = s.br := rfl
@[simp] theorem State.modEngine_fences (s : State) (e : Eng) (f : Engine → Engine) : (s.modEngine e f).fences = s.fences := rfl
@[simp] theorem State.modEngine_sys (s : State) (e : Eng) (f : Engine → Engine) : (s.modEngine e f).sys = s.sys := rfl
@[simp] theorem State.modEngine_fault (s : State) (e : Eng) (f : Engine → Engine) : (s.modEngine e f).fault = s.fault := rfl
@[simp] theorem State.modEngine_pwr (s : State) (e : Eng) (f : Engine → Engine) : (s.modEngine e f).pwr = s.pwr := rfl
@[simp] theorem State.modEngine_boot (s : State) (e : Eng) (f : Engine → Engine) : (s.modEngine e f).boot = s.boot := rfl
@[simp] theorem State.modEngine_clk (s : State) (e : Eng) (f : Engine → Engine) : (s.modEngine e f).clk = s.clk := rfl
@[simp] theorem State.modEngine_chords (s : State) (e : Eng) (f : Engine → Engine) : (s.modEngine e f).chords = s.chords := rfl
@[simp] theorem State.modEngine_lanes (s : State) (e : Eng) (f : Engine → Engine) : (s.modEngine e f).lanes = s.lanes := rfl
@[simp] theorem State.modEngine_lr (s : State) (e : Eng) (f : Engine → Engine) : (s.modEngine e f).lr = s.lr := rfl
@[simp] theorem State.modEngine_sv (s : State) (e : Eng) (f : Engine → Engine) : (s.modEngine e f).sv = s.sv := rfl
@[simp] theorem State.modEngine_stats (s : State) (e : Eng) (f : Engine → Engine) : (s.modEngine e f).stats = s.stats := rfl
@[simp] theorem State.modEngine_fl (s : State) (e : Eng) (f : Engine → Engine) : (s.modEngine e f).fl = s.fl := rfl
@[simp] theorem State.modEngine_aux (s : State) (e : Eng) (f : Engine → Engine) : (s.modEngine e f).aux = s.aux := rfl
@[simp] theorem State.modEngine_pt (s : State) (e : Eng) (f : Engine → Engine) : (s.modEngine e f).pt = s.pt := rfl
@[simp] theorem State.modEngine_log (s : State) (e : Eng) (f : Engine → Engine) : (s.modEngine e f).log = s.log := rfl
@[simp] theorem State.modEngine_rtc (s : State) (e : Eng) (f : Engine → Engine) : (s.modEngine e f).rtc = s.rtc := rfl
@[simp] theorem State.modEngine_pn (s : State) (e : Eng) (f : Engine → Engine) : (s.modEngine e f).pn = s.pn := rfl
@[simp] theorem State.modEngine_ab (s : State) (e : Eng) (f : Engine → Engine) : (s.modEngine e f).ab = s.ab := rfl
@[simp] theorem State.modEngine_st (s : State) (e : Eng) (f : Engine → Engine) : (s.modEngine e f).st = s.st := rfl
@[simp] theorem State.modEngine_keys (s : State) (e : Eng) (f : Engine → Engine) : (s.modEngine e f).keys = s.keys := rfl
@[simp] theorem State.modEngine_upd (s : State) (e : Eng) (f : Engine → Engine) : (s.modEngine e f).upd = s.upd := rfl
@[simp] theorem State.modEngine_cr (s : State) (e : Eng) (f : Engine → Engine) : (s.modEngine e f).cr = s.cr := rfl
@[simp] theorem State.modEngine_prt (s : State) (e : Eng) (f : Engine → Engine) : (s.modEngine e f).prt = s.prt := rfl
@[simp] theorem State.modEngine_out (s : State) (e : Eng) (f : Engine → Engine) : (s.modEngine e f).out = s.out := rfl
@[simp] theorem State.modEngine_dl (s : State) (e : Eng) (f : Engine → Engine) : (s.modEngine e f).dl = s.dl := rfl
@[simp] theorem State.modEngine_tw (s : State) (e : Eng) (f : Engine → Engine) : (s.modEngine e f).tw = s.tw := rfl
@[simp] theorem State.modEngine_sram (s : State) (e : Eng) (f : Engine → Engine) : (s.modEngine e f).sram = s.sram := rfl
@[simp] theorem State.modEngine_page (s : State) (e : Eng) (f : Engine → Engine) : (s.modEngine e f).page = s.page := rfl
@[simp] theorem State.modEngine_addrSel (s : State) (e : Eng) (f : Engine → Engine) : (s.modEngine e f).addrSel = s.addrSel := rfl

/-! ## setChord -/

@[simp] theorem State.setChord_pending (s : State) (c : Chord) (x : ChordSt) : (s.setChord c x).pending = s.pending := rfl
@[simp] theorem State.setChord_freeCtr (s : State) (c : Chord) (x : ChordSt) : (s.setChord c x).freeCtr = s.freeCtr := rfl
@[simp] theorem State.setChord_readOut (s : State) (c : Chord) (x : ChordSt) : (s.setChord c x).readOut = s.readOut := rfl
@[simp] theorem State.setChord_eng (s : State) (c : Chord) (x : ChordSt) : (s.setChord c x).eng = s.eng := rfl
@[simp] theorem State.setChord_er (s : State) (c : Chord) (x : ChordSt) : (s.setChord c x).er = s.er := rfl
@[simp] theorem State.setChord_br (s : State) (c : Chord) (x : ChordSt) : (s.setChord c x).br = s.br := rfl
@[simp] theorem State.setChord_fences (s : State) (c : Chord) (x : ChordSt) : (s.setChord c x).fences = s.fences := rfl
@[simp] theorem State.setChord_sys (s : State) (c : Chord) (x : ChordSt) : (s.setChord c x).sys = s.sys := rfl
@[simp] theorem State.setChord_fault (s : State) (c : Chord) (x : ChordSt) : (s.setChord c x).fault = s.fault := rfl
@[simp] theorem State.setChord_pwr (s : State) (c : Chord) (x : ChordSt) : (s.setChord c x).pwr = s.pwr := rfl
@[simp] theorem State.setChord_boot (s : State) (c : Chord) (x : ChordSt) : (s.setChord c x).boot = s.boot := rfl
@[simp] theorem State.setChord_clk (s : State) (c : Chord) (x : ChordSt) : (s.setChord c x).clk = s.clk := rfl
@[simp] theorem State.setChord_lanes (s : State) (c : Chord) (x : ChordSt) : (s.setChord c x).lanes = s.lanes := rfl
@[simp] theorem State.setChord_lr (s : State) (c : Chord) (x : ChordSt) : (s.setChord c x).lr = s.lr := rfl
@[simp] theorem State.setChord_sv (s : State) (c : Chord) (x : ChordSt) : (s.setChord c x).sv = s.sv := rfl
@[simp] theorem State.setChord_stats (s : State) (c : Chord) (x : ChordSt) : (s.setChord c x).stats = s.stats := rfl
@[simp] theorem State.setChord_fl (s : State) (c : Chord) (x : ChordSt) : (s.setChord c x).fl = s.fl := rfl
@[simp] theorem State.setChord_aux (s : State) (c : Chord) (x : ChordSt) : (s.setChord c x).aux = s.aux := rfl
@[simp] theorem State.setChord_pt (s : State) (c : Chord) (x : ChordSt) : (s.setChord c x).pt = s.pt := rfl
@[simp] theorem State.setChord_log (s : State) (c : Chord) (x : ChordSt) : (s.setChord c x).log = s.log := rfl
@[simp] theorem State.setChord_rtc (s : State) (c : Chord) (x : ChordSt) : (s.setChord c x).rtc = s.rtc := rfl
@[simp] theorem State.setChord_pn (s : State) (c : Chord) (x : ChordSt) : (s.setChord c x).pn = s.pn := rfl
@[simp] theorem State.setChord_ab (s : State) (c : Chord) (x : ChordSt) : (s.setChord c x).ab = s.ab := rfl
@[simp] theorem State.setChord_st (s : State) (c : Chord) (x : ChordSt) : (s.setChord c x).st = s.st := rfl
@[simp] theorem State.setChord_keys (s : State) (c : Chord) (x : ChordSt) : (s.setChord c x).keys = s.keys := rfl
@[simp] theorem State.setChord_upd (s : State) (c : Chord) (x : ChordSt) : (s.setChord c x).upd = s.upd := rfl
@[simp] theorem State.setChord_cr (s : State) (c : Chord) (x : ChordSt) : (s.setChord c x).cr = s.cr := rfl
@[simp] theorem State.setChord_prt (s : State) (c : Chord) (x : ChordSt) : (s.setChord c x).prt = s.prt := rfl
@[simp] theorem State.setChord_out (s : State) (c : Chord) (x : ChordSt) : (s.setChord c x).out = s.out := rfl
@[simp] theorem State.setChord_dl (s : State) (c : Chord) (x : ChordSt) : (s.setChord c x).dl = s.dl := rfl
@[simp] theorem State.setChord_tw (s : State) (c : Chord) (x : ChordSt) : (s.setChord c x).tw = s.tw := rfl
@[simp] theorem State.setChord_sram (s : State) (c : Chord) (x : ChordSt) : (s.setChord c x).sram = s.sram := rfl
@[simp] theorem State.setChord_page (s : State) (c : Chord) (x : ChordSt) : (s.setChord c x).page = s.page := rfl
@[simp] theorem State.setChord_addrSel (s : State) (c : Chord) (x : ChordSt) : (s.setChord c x).addrSel = s.addrSel := rfl

/-! ## modChord -/

@[simp] theorem State.modChord_pending (s : State) (c : Chord) (f : ChordSt → ChordSt) : (s.modChord c f).pending = s.pending := rfl
@[simp] theorem State.modChord_freeCtr (s : State) (c : Chord) (f : ChordSt → ChordSt) : (s.modChord c f).freeCtr = s.freeCtr := rfl
@[simp] theorem State.modChord_readOut (s : State) (c : Chord) (f : ChordSt → ChordSt) : (s.modChord c f).readOut = s.readOut := rfl
@[simp] theorem State.modChord_eng (s : State) (c : Chord) (f : ChordSt → ChordSt) : (s.modChord c f).eng = s.eng := rfl
@[simp] theorem State.modChord_er (s : State) (c : Chord) (f : ChordSt → ChordSt) : (s.modChord c f).er = s.er := rfl
@[simp] theorem State.modChord_br (s : State) (c : Chord) (f : ChordSt → ChordSt) : (s.modChord c f).br = s.br := rfl
@[simp] theorem State.modChord_fences (s : State) (c : Chord) (f : ChordSt → ChordSt) : (s.modChord c f).fences = s.fences := rfl
@[simp] theorem State.modChord_sys (s : State) (c : Chord) (f : ChordSt → ChordSt) : (s.modChord c f).sys = s.sys := rfl
@[simp] theorem State.modChord_fault (s : State) (c : Chord) (f : ChordSt → ChordSt) : (s.modChord c f).fault = s.fault := rfl
@[simp] theorem State.modChord_pwr (s : State) (c : Chord) (f : ChordSt → ChordSt) : (s.modChord c f).pwr = s.pwr := rfl
@[simp] theorem State.modChord_boot (s : State) (c : Chord) (f : ChordSt → ChordSt) : (s.modChord c f).boot = s.boot := rfl
@[simp] theorem State.modChord_clk (s : State) (c : Chord) (f : ChordSt → ChordSt) : (s.modChord c f).clk = s.clk := rfl
@[simp] theorem State.modChord_lanes (s : State) (c : Chord) (f : ChordSt → ChordSt) : (s.modChord c f).lanes = s.lanes := rfl
@[simp] theorem State.modChord_lr (s : State) (c : Chord) (f : ChordSt → ChordSt) : (s.modChord c f).lr = s.lr := rfl
@[simp] theorem State.modChord_sv (s : State) (c : Chord) (f : ChordSt → ChordSt) : (s.modChord c f).sv = s.sv := rfl
@[simp] theorem State.modChord_stats (s : State) (c : Chord) (f : ChordSt → ChordSt) : (s.modChord c f).stats = s.stats := rfl
@[simp] theorem State.modChord_fl (s : State) (c : Chord) (f : ChordSt → ChordSt) : (s.modChord c f).fl = s.fl := rfl
@[simp] theorem State.modChord_aux (s : State) (c : Chord) (f : ChordSt → ChordSt) : (s.modChord c f).aux = s.aux := rfl
@[simp] theorem State.modChord_pt (s : State) (c : Chord) (f : ChordSt → ChordSt) : (s.modChord c f).pt = s.pt := rfl
@[simp] theorem State.modChord_log (s : State) (c : Chord) (f : ChordSt → ChordSt) : (s.modChord c f).log = s.log := rfl
@[simp] theorem State.modChord_rtc (s : State) (c : Chord) (f : ChordSt → ChordSt) : (s.modChord c f).rtc = s.rtc := rfl
@[simp] theorem State.modChord_pn (s : State) (c : Chord) (f : ChordSt → ChordSt) : (s.modChord c f).pn = s.pn := rfl
@[simp] theorem State.modChord_ab (s : State) (c : Chord) (f : ChordSt → ChordSt) : (s.modChord c f).ab = s.ab := rfl
@[simp] theorem State.modChord_st (s : State) (c : Chord) (f : ChordSt → ChordSt) : (s.modChord c f).st = s.st := rfl
@[simp] theorem State.modChord_keys (s : State) (c : Chord) (f : ChordSt → ChordSt) : (s.modChord c f).keys = s.keys := rfl
@[simp] theorem State.modChord_upd (s : State) (c : Chord) (f : ChordSt → ChordSt) : (s.modChord c f).upd = s.upd := rfl
@[simp] theorem State.modChord_cr (s : State) (c : Chord) (f : ChordSt → ChordSt) : (s.modChord c f).cr = s.cr := rfl
@[simp] theorem State.modChord_prt (s : State) (c : Chord) (f : ChordSt → ChordSt) : (s.modChord c f).prt = s.prt := rfl
@[simp] theorem State.modChord_out (s : State) (c : Chord) (f : ChordSt → ChordSt) : (s.modChord c f).out = s.out := rfl
@[simp] theorem State.modChord_dl (s : State) (c : Chord) (f : ChordSt → ChordSt) : (s.modChord c f).dl = s.dl := rfl
@[simp] theorem State.modChord_tw (s : State) (c : Chord) (f : ChordSt → ChordSt) : (s.modChord c f).tw = s.tw := rfl
@[simp] theorem State.modChord_sram (s : State) (c : Chord) (f : ChordSt → ChordSt) : (s.modChord c f).sram = s.sram := rfl
@[simp] theorem State.modChord_page (s : State) (c : Chord) (f : ChordSt → ChordSt) : (s.modChord c f).page = s.page := rfl
@[simp] theorem State.modChord_addrSel (s : State) (c : Chord) (f : ChordSt → ChordSt) : (s.modChord c f).addrSel = s.addrSel := rfl

/-! ## modLane -/

@[simp] theorem State.modLane_pending (s : State) (l : Lane) (f : LaneSt → LaneSt) : (s.modLane l f).pending = s.pending := rfl
@[simp] theorem State.modLane_freeCtr (s : State) (l : Lane) (f : LaneSt → LaneSt) : (s.modLane l f).freeCtr = s.freeCtr := rfl
@[simp] theorem State.modLane_readOut (s : State) (l : Lane) (f : LaneSt → LaneSt) : (s.modLane l f).readOut = s.readOut := rfl
@[simp] theorem State.modLane_eng (s : State) (l : Lane) (f : LaneSt → LaneSt) : (s.modLane l f).eng = s.eng := rfl
@[simp] theorem State.modLane_er (s : State) (l : Lane) (f : LaneSt → LaneSt) : (s.modLane l f).er = s.er := rfl
@[simp] theorem State.modLane_br (s : State) (l : Lane) (f : LaneSt → LaneSt) : (s.modLane l f).br = s.br := rfl
@[simp] theorem State.modLane_fences (s : State) (l : Lane) (f : LaneSt → LaneSt) : (s.modLane l f).fences = s.fences := rfl
@[simp] theorem State.modLane_sys (s : State) (l : Lane) (f : LaneSt → LaneSt) : (s.modLane l f).sys = s.sys := rfl
@[simp] theorem State.modLane_fault (s : State) (l : Lane) (f : LaneSt → LaneSt) : (s.modLane l f).fault = s.fault := rfl
@[simp] theorem State.modLane_pwr (s : State) (l : Lane) (f : LaneSt → LaneSt) : (s.modLane l f).pwr = s.pwr := rfl
@[simp] theorem State.modLane_boot (s : State) (l : Lane) (f : LaneSt → LaneSt) : (s.modLane l f).boot = s.boot := rfl
@[simp] theorem State.modLane_clk (s : State) (l : Lane) (f : LaneSt → LaneSt) : (s.modLane l f).clk = s.clk := rfl
@[simp] theorem State.modLane_chords (s : State) (l : Lane) (f : LaneSt → LaneSt) : (s.modLane l f).chords = s.chords := rfl
@[simp] theorem State.modLane_lr (s : State) (l : Lane) (f : LaneSt → LaneSt) : (s.modLane l f).lr = s.lr := rfl
@[simp] theorem State.modLane_sv (s : State) (l : Lane) (f : LaneSt → LaneSt) : (s.modLane l f).sv = s.sv := rfl
@[simp] theorem State.modLane_stats (s : State) (l : Lane) (f : LaneSt → LaneSt) : (s.modLane l f).stats = s.stats := rfl
@[simp] theorem State.modLane_fl (s : State) (l : Lane) (f : LaneSt → LaneSt) : (s.modLane l f).fl = s.fl := rfl
@[simp] theorem State.modLane_aux (s : State) (l : Lane) (f : LaneSt → LaneSt) : (s.modLane l f).aux = s.aux := rfl
@[simp] theorem State.modLane_pt (s : State) (l : Lane) (f : LaneSt → LaneSt) : (s.modLane l f).pt = s.pt := rfl
@[simp] theorem State.modLane_log (s : State) (l : Lane) (f : LaneSt → LaneSt) : (s.modLane l f).log = s.log := rfl
@[simp] theorem State.modLane_rtc (s : State) (l : Lane) (f : LaneSt → LaneSt) : (s.modLane l f).rtc = s.rtc := rfl
@[simp] theorem State.modLane_pn (s : State) (l : Lane) (f : LaneSt → LaneSt) : (s.modLane l f).pn = s.pn := rfl
@[simp] theorem State.modLane_ab (s : State) (l : Lane) (f : LaneSt → LaneSt) : (s.modLane l f).ab = s.ab := rfl
@[simp] theorem State.modLane_st (s : State) (l : Lane) (f : LaneSt → LaneSt) : (s.modLane l f).st = s.st := rfl
@[simp] theorem State.modLane_keys (s : State) (l : Lane) (f : LaneSt → LaneSt) : (s.modLane l f).keys = s.keys := rfl
@[simp] theorem State.modLane_upd (s : State) (l : Lane) (f : LaneSt → LaneSt) : (s.modLane l f).upd = s.upd := rfl
@[simp] theorem State.modLane_cr (s : State) (l : Lane) (f : LaneSt → LaneSt) : (s.modLane l f).cr = s.cr := rfl
@[simp] theorem State.modLane_prt (s : State) (l : Lane) (f : LaneSt → LaneSt) : (s.modLane l f).prt = s.prt := rfl
@[simp] theorem State.modLane_out (s : State) (l : Lane) (f : LaneSt → LaneSt) : (s.modLane l f).out = s.out := rfl
@[simp] theorem State.modLane_dl (s : State) (l : Lane) (f : LaneSt → LaneSt) : (s.modLane l f).dl = s.dl := rfl
@[simp] theorem State.modLane_tw (s : State) (l : Lane) (f : LaneSt → LaneSt) : (s.modLane l f).tw = s.tw := rfl
@[simp] theorem State.modLane_sram (s : State) (l : Lane) (f : LaneSt → LaneSt) : (s.modLane l f).sram = s.sram := rfl
@[simp] theorem State.modLane_page (s : State) (l : Lane) (f : LaneSt → LaneSt) : (s.modLane l f).page = s.page := rfl
@[simp] theorem State.modLane_addrSel (s : State) (l : Lane) (f : LaneSt → LaneSt) : (s.modLane l f).addrSel = s.addrSel := rfl

/-! ## modFence -/

@[simp] theorem State.modFence_pending (s : State) (cl : Cluster) (f : Fence → Fence) : (s.modFence cl f).pending = s.pending := rfl
@[simp] theorem State.modFence_freeCtr (s : State) (cl : Cluster) (f : Fence → Fence) : (s.modFence cl f).freeCtr = s.freeCtr := rfl
@[simp] theorem State.modFence_readOut (s : State) (cl : Cluster) (f : Fence → Fence) : (s.modFence cl f).readOut = s.readOut := rfl
@[simp] theorem State.modFence_eng (s : State) (cl : Cluster) (f : Fence → Fence) : (s.modFence cl f).eng = s.eng := rfl
@[simp] theorem State.modFence_er (s : State) (cl : Cluster) (f : Fence → Fence) : (s.modFence cl f).er = s.er := rfl
@[simp] theorem State.modFence_br (s : State) (cl : Cluster) (f : Fence → Fence) : (s.modFence cl f).br = s.br := rfl
@[simp] theorem State.modFence_sys (s : State) (cl : Cluster) (f : Fence → Fence) : (s.modFence cl f).sys = s.sys := rfl
@[simp] theorem State.modFence_fault (s : State) (cl : Cluster) (f : Fence → Fence) : (s.modFence cl f).fault = s.fault := rfl
@[simp] theorem State.modFence_pwr (s : State) (cl : Cluster) (f : Fence → Fence) : (s.modFence cl f).pwr = s.pwr := rfl
@[simp] theorem State.modFence_boot (s : State) (cl : Cluster) (f : Fence → Fence) : (s.modFence cl f).boot = s.boot := rfl
@[simp] theorem State.modFence_clk (s : State) (cl : Cluster) (f : Fence → Fence) : (s.modFence cl f).clk = s.clk := rfl
@[simp] theorem State.modFence_chords (s : State) (cl : Cluster) (f : Fence → Fence) : (s.modFence cl f).chords = s.chords := rfl
@[simp] theorem State.modFence_lanes (s : State) (cl : Cluster) (f : Fence → Fence) : (s.modFence cl f).lanes = s.lanes := rfl
@[simp] theorem State.modFence_lr (s : State) (cl : Cluster) (f : Fence → Fence) : (s.modFence cl f).lr = s.lr := rfl
@[simp] theorem State.modFence_sv (s : State) (cl : Cluster) (f : Fence → Fence) : (s.modFence cl f).sv = s.sv := rfl
@[simp] theorem State.modFence_stats (s : State) (cl : Cluster) (f : Fence → Fence) : (s.modFence cl f).stats = s.stats := rfl
@[simp] theorem State.modFence_fl (s : State) (cl : Cluster) (f : Fence → Fence) : (s.modFence cl f).fl = s.fl := rfl
@[simp] theorem State.modFence_aux (s : State) (cl : Cluster) (f : Fence → Fence) : (s.modFence cl f).aux = s.aux := rfl
@[simp] theorem State.modFence_pt (s : State) (cl : Cluster) (f : Fence → Fence) : (s.modFence cl f).pt = s.pt := rfl
@[simp] theorem State.modFence_log (s : State) (cl : Cluster) (f : Fence → Fence) : (s.modFence cl f).log = s.log := rfl
@[simp] theorem State.modFence_rtc (s : State) (cl : Cluster) (f : Fence → Fence) : (s.modFence cl f).rtc = s.rtc := rfl
@[simp] theorem State.modFence_pn (s : State) (cl : Cluster) (f : Fence → Fence) : (s.modFence cl f).pn = s.pn := rfl
@[simp] theorem State.modFence_ab (s : State) (cl : Cluster) (f : Fence → Fence) : (s.modFence cl f).ab = s.ab := rfl
@[simp] theorem State.modFence_st (s : State) (cl : Cluster) (f : Fence → Fence) : (s.modFence cl f).st = s.st := rfl
@[simp] theorem State.modFence_keys (s : State) (cl : Cluster) (f : Fence → Fence) : (s.modFence cl f).keys = s.keys := rfl
@[simp] theorem State.modFence_upd (s : State) (cl : Cluster) (f : Fence → Fence) : (s.modFence cl f).upd = s.upd := rfl
@[simp] theorem State.modFence_cr (s : State) (cl : Cluster) (f : Fence → Fence) : (s.modFence cl f).cr = s.cr := rfl
@[simp] theorem State.modFence_prt (s : State) (cl : Cluster) (f : Fence → Fence) : (s.modFence cl f).prt = s.prt := rfl
@[simp] theorem State.modFence_out (s : State) (cl : Cluster) (f : Fence → Fence) : (s.modFence cl f).out = s.out := rfl
@[simp] theorem State.modFence_dl (s : State) (cl : Cluster) (f : Fence → Fence) : (s.modFence cl f).dl = s.dl := rfl
@[simp] theorem State.modFence_tw (s : State) (cl : Cluster) (f : Fence → Fence) : (s.modFence cl f).tw = s.tw := rfl
@[simp] theorem State.modFence_sram (s : State) (cl : Cluster) (f : Fence → Fence) : (s.modFence cl f).sram = s.sram := rfl
@[simp] theorem State.modFence_page (s : State) (cl : Cluster) (f : Fence → Fence) : (s.modFence cl f).page = s.page := rfl
@[simp] theorem State.modFence_addrSel (s : State) (cl : Cluster) (f : Fence → Fence) : (s.modFence cl f).addrSel = s.addrSel := rfl

/-! ## usedFree -/

@[simp] theorem State.usedFree_pending (s : State) (n : Nat) : (s.usedFree n).pending = s.pending := rfl
@[simp] theorem State.usedFree_readOut (s : State) (n : Nat) : (s.usedFree n).readOut = s.readOut := rfl
@[simp] theorem State.usedFree_eng (s : State) (n : Nat) : (s.usedFree n).eng = s.eng := rfl
@[simp] theorem State.usedFree_er (s : State) (n : Nat) : (s.usedFree n).er = s.er := rfl
@[simp] theorem State.usedFree_br (s : State) (n : Nat) : (s.usedFree n).br = s.br := rfl
@[simp] theorem State.usedFree_fences (s : State) (n : Nat) : (s.usedFree n).fences = s.fences := rfl
@[simp] theorem State.usedFree_sys (s : State) (n : Nat) : (s.usedFree n).sys = s.sys := rfl
@[simp] theorem State.usedFree_fault (s : State) (n : Nat) : (s.usedFree n).fault = s.fault := rfl
@[simp] theorem State.usedFree_pwr (s : State) (n : Nat) : (s.usedFree n).pwr = s.pwr := rfl
@[simp] theorem State.usedFree_boot (s : State) (n : Nat) : (s.usedFree n).boot = s.boot := rfl
@[simp] theorem State.usedFree_clk (s : State) (n : Nat) : (s.usedFree n).clk = s.clk := rfl
@[simp] theorem State.usedFree_chords (s : State) (n : Nat) : (s.usedFree n).chords = s.chords := rfl
@[simp] theorem State.usedFree_lanes (s : State) (n : Nat) : (s.usedFree n).lanes = s.lanes := rfl
@[simp] theorem State.usedFree_lr (s : State) (n : Nat) : (s.usedFree n).lr = s.lr := rfl
@[simp] theorem State.usedFree_sv (s : State) (n : Nat) : (s.usedFree n).sv = s.sv := rfl
@[simp] theorem State.usedFree_stats (s : State) (n : Nat) : (s.usedFree n).stats = s.stats := rfl
@[simp] theorem State.usedFree_fl (s : State) (n : Nat) : (s.usedFree n).fl = s.fl := rfl
@[simp] theorem State.usedFree_aux (s : State) (n : Nat) : (s.usedFree n).aux = s.aux := rfl
@[simp] theorem State.usedFree_pt (s : State) (n : Nat) : (s.usedFree n).pt = s.pt := rfl
@[simp] theorem State.usedFree_log (s : State) (n : Nat) : (s.usedFree n).log = s.log := rfl
@[simp] theorem State.usedFree_rtc (s : State) (n : Nat) : (s.usedFree n).rtc = s.rtc := rfl
@[simp] theorem State.usedFree_pn (s : State) (n : Nat) : (s.usedFree n).pn = s.pn := rfl
@[simp] theorem State.usedFree_ab (s : State) (n : Nat) : (s.usedFree n).ab = s.ab := rfl
@[simp] theorem State.usedFree_st (s : State) (n : Nat) : (s.usedFree n).st = s.st := rfl
@[simp] theorem State.usedFree_keys (s : State) (n : Nat) : (s.usedFree n).keys = s.keys := rfl
@[simp] theorem State.usedFree_upd (s : State) (n : Nat) : (s.usedFree n).upd = s.upd := rfl
@[simp] theorem State.usedFree_cr (s : State) (n : Nat) : (s.usedFree n).cr = s.cr := rfl
@[simp] theorem State.usedFree_prt (s : State) (n : Nat) : (s.usedFree n).prt = s.prt := rfl
@[simp] theorem State.usedFree_out (s : State) (n : Nat) : (s.usedFree n).out = s.out := rfl
@[simp] theorem State.usedFree_dl (s : State) (n : Nat) : (s.usedFree n).dl = s.dl := rfl
@[simp] theorem State.usedFree_tw (s : State) (n : Nat) : (s.usedFree n).tw = s.tw := rfl
@[simp] theorem State.usedFree_sram (s : State) (n : Nat) : (s.usedFree n).sram = s.sram := rfl
@[simp] theorem State.usedFree_page (s : State) (n : Nat) : (s.usedFree n).page = s.page := rfl
@[simp] theorem State.usedFree_addrSel (s : State) (n : Nat) : (s.usedFree n).addrSel = s.addrSel := rfl

/-! ## What an update reads back -/

@[simp] theorem Engines.get_set (es : Engines) (e : Eng) (x : Engine) : (es.set e x).get e = x := by cases e <;> rfl

theorem Engines.get_set_ne (es : Engines) (e k : Eng) (x : Engine) (h : k ≠ e) : (es.set e x).get k = es.get k := by
  cases e <;> cases k <;> first | rfl | exact absurd rfl h

@[simp] theorem State.engine_modEngine (s : State) (e : Eng) (f : Engine → Engine) :
    (s.modEngine e f).engine e = f (s.engine e) := by
  simp [State.modEngine, State.engine]

theorem State.engine_modEngine_ne (s : State) (e k : Eng) (f : Engine → Engine) (h : k ≠ e) :
    (s.modEngine e f).engine k = s.engine k := by
  simp [State.modEngine, State.engine, Engines.get_set_ne _ _ _ _ h]

@[simp] theorem State.modEngine_but_engines (s : State) (e : Eng) (f : Engine → Engine) :
    { s.modEngine e f with eng := s.eng } = s := rfl

@[simp] theorem State.chord_setChord (s : State) (c : Chord) (x : ChordSt) : (s.setChord c x).chord c = x := by
  simp [State.setChord, State.chord]

theorem State.chord_setChord_ne (s : State) (c k : Chord) (x : ChordSt) (h : k ≠ c) :
    (s.setChord c x).chord k = s.chord k := by
  have h' : c.val ≠ k.val := fun e => h (Fin.ext e.symm)
  simp [State.setChord, State.chord, h']

@[simp] theorem State.lane_modLane (s : State) (l : Lane) (f : LaneSt → LaneSt) :
    (s.modLane l f).lane l = f (s.lane l) := by
  simp [State.modLane, State.lane]

theorem State.lane_modLane_ne (s : State) (l k : Lane) (f : LaneSt → LaneSt) (h : k ≠ l) :
    (s.modLane l f).lane k = s.lane k := by
  have h' : l.val ≠ k.val := fun e => h (Fin.ext e.symm)
  simp [State.modLane, State.lane, h']

@[simp] theorem State.fence_modFence (s : State) (cl : Cluster) (f : Fence → Fence) :
    (s.modFence cl f).fence cl = f (s.fence cl) := by
  simp [State.modFence, State.fence]

/-- An event touches EVENT_FLAGS alone (R620). -/
theorem State.event_eq (s : State) (k : Nat) :
    s.event k = { s with sys.eventFlags := if s.powered 3 then s.sys.eventFlags ||| (1#24 <<< k) else s.sys.eventFlags } := by
  simp only [State.event]; split <;> rfl

/-- Counting delayed transfers touches the count of Table 23-65 alone. -/
theorem State.hop_kept (s : State) (ts : List (Fin 32)) :
    ∃ n, s.hop ts = { s with pt.delayed := n } := by
  simp only [State.hop]
  induction ts generalizing s with
  | nil => exact ⟨_, rfl⟩
  | cons a ts ih =>
    simp only [List.foldl_cons]
    split
    · exact ih s
    · obtain ⟨n, h⟩ := ih { s with pt.delayed := s.pt.delayed + 1#6 }
      exact ⟨n, h⟩

end Sys2Proof.Machine
end

