-- ==== Sys2Proof/Laws/Issue.lean ====
section
/-! SUPPORT. The shared operations of an engine's instructions: when an instruction issues and traps, what completing it
leaves alone, what a result, a posted store, a wait and a trap are; and the flag computations as exact arithmetic. -/
namespace Sys2Proof.Machine

/-! ## Issue -/

/-- On a ready engine an instruction without a trap has its effect. -/
theorem State.teique_ready {s : State} {e : Eng} {cs : List Check} {f : State → State} (h : Ready s e)
    (hc : firstTrap cs = none) : s.teique e cs f = .next (f s) := by
  simp [State.teique, h.1, h.2, hc]

/-- On a ready engine the first cause that holds traps. -/
theorem State.teique_traps {s : State} {e : Eng} {cs : List Check} {f : State → State} {c : TrapCause} {v : W64}
    (h : Ready s e) (hc : firstTrap cs = some (c, v)) : s.teique e cs f = .next (s.trap e c v) := by
  simp [State.teique, h.1, h.2, hc]

/-- A fetch beyond program memory traps with the address (R416). -/
theorem State.teique_no_fetch {s : State} {e : Eng} {cs : List Check} {f : State → State} (hi : s.issues e = true)
    (hf : s.fetches e = false) : s.teique e cs f = .next (s.trap e .access ((s.engine e).pc.setWidth 64)) := by
  simp [State.teique, hi, hf]

/-- Where the engine does not issue, nothing happens. -/
theorem State.teique_stopped {s : State} {e : Eng} {cs : List Check} {f : State → State} (hi : s.issues e = false) :
    s.teique e cs f = .next s := by
  simp [State.teique, hi]

/-- An instruction of an engine always answers a next state: the state itself, a trap, or its effect. -/
theorem State.teique_cases (s : State) (e : Eng) (cs : List Check) (f : State → State) :
    s.teique e cs f = .next s ∨ (∃ c v, s.teique e cs f = .next (s.trap e c v)) ∨ s.teique e cs f = .next (f s) := by
  simp only [State.teique]
  split
  · exact .inl rfl
  · split
    · exact .inr (.inl ⟨_, _, rfl⟩)
    · split
      · exact .inr (.inl ⟨_, _, rfl⟩)
      · exact .inr (.inr rfl)

/-- What `exec` gives where it is an instruction issued on a ready engine. -/
theorem Gives.of_teique {i : Instr} {s : State} {e : Eng} {cs : List Check} {f : State → State} {P : State → Prop}
    (h : Ready s e) (hi : exec i s = s.teique e cs f) (hc : firstTrap cs = none) (hp : P (f s)) : Gives i s P :=
  ⟨_, hi.trans (State.teique_ready h hc), hp⟩

/-! ## Completing an instruction (R388) -/

/-- Following loop ends changes pc and loop state alone. -/
theorem Engine.loopBack_kept (n : Nat) (x : Engine) : ∃ pc lc, Engine.loopBack n x = { x with pc := pc, lc := lc } := by
  induction n generalizing x with
  | zero => exact ⟨_, _, rfl⟩
  | succ n ih =>
    simp only [Engine.loopBack]
    split
    · split
      · exact ⟨_, _, rfl⟩
      · obtain ⟨pc, lc, h⟩ := ih x.endLevel
        exact ⟨pc, lc, by rw [h]; rfl⟩
    · exact ⟨_, _, rfl⟩

/-- Where it leads depends on pc and loop state alone. -/
theorem Engine.loopBack_ext (n : Nat) (x y : Engine) (hpc : x.pc = y.pc) (hlc : x.lc = y.lc) :
    (Engine.loopBack n x).pc = (Engine.loopBack n y).pc ∧ (Engine.loopBack n x).lc = (Engine.loopBack n y).lc := by
  induction n generalizing x y with
  | zero => simp [Engine.loopBack, hpc, hlc]
  | succ n ih =>
    have hi : x.inner = y.inner := by simp [Engine.inner, hlc]
    have ho : x.outer = y.outer := by simp [Engine.outer, hlc]
    simp only [Engine.loopBack, hi, ho, hpc]
    split
    · split
      · simp
      · exact ih _ _ (by simp [Engine.endLevel, hpc]) (by simp [Engine.endLevel, ho])
    · simp [hlc]

/-- An instruction that changes registers, flags and acc of its engine changes nothing else but pc and loop state. -/
theorem State.onEngine_core {s : State} {e : Eng} {f : Engine → Engine} {g : Vector W64 32} {z n c v q : Bool}
    {acc : BitVec 128}
    (hf : f (s.engine e) = { s.engine e with g := g, z := z, n := n, c := c, v := v, q := q, acc := acc }) :
    FlagsAre (s.onEngine e f) e z n c v q ∧ ((s.onEngine e f).engine e).acc = acc ∧ WentOn s (s.onEngine e f) e ∧
      CoreOnly s (s.onEngine e f) e ∧ ((s.onEngine e f).engine e).g = g := by
  have hx : (s.onEngine e f).engine e = (f (s.engine e)).retire := by simp [State.onEngine]
  obtain ⟨pc, lc, hk⟩ := Engine.loopBack_kept 2 (f (s.engine e))
  have hk' : (f (s.engine e)).retire = _ := hk
  have hext := Engine.loopBack_ext 2 (f (s.engine e)) (s.engine e) (by simp [hf]) (by simp [hf])
  have hy : (s.onEngine e f).engine e = { s.engine e with
      g := g, z := z, n := n, c := c, v := v, q := q, acc := acc, pc := pc, lc := lc } := by rw [hx, hk', hf]
  refine ⟨?_, ?_, ⟨?_, ?_⟩, ⟨rfl, ?_, ?_⟩, ?_⟩
  · simp only [FlagsAre, hy, and_self]
  · rw [hy]
  · rw [hx]; exact hext.1
  · rw [hx]; exact hext.2
  · intro k hk2; exact State.engine_modEngine_ne _ _ _ _ hk2
  · rw [hy]
  · rw [hy]

theorem Engine.setReg_eq (x : Engine) (d : GReg) (r : W64) :
    x.setReg d r = { x with g := if d = 0#5 then x.g else x.g.set d.toNat r } := by
  simp only [Engine.setReg]; split <;> simp_all

/-- What a register file with one register replaced says of the general registers, g0 included (R385). -/
theorem Wrote.of_g {s t : State} {e : Eng} {d : GReg} {r : W64}
    (h : (t.engine e).g = if d = 0#5 then (s.engine e).g else (s.engine e).g.set d.toNat r) : Wrote s t e d r := by
  constructor
  · by_cases hd : d = 0#5
    · simp [State.reg, Engine.reg, hd]
    · simp [State.reg, Engine.reg, hd, h]
  · intro k hk
    simp only [State.reg, Engine.reg]
    split
    · rfl
    · rw [h]
      split
      · rfl
      · rw [Vector.getElem_set_ne]
        intro h2
        exact hk (BitVec.eq_of_toNat_eq h2.symm)

/-- An instruction that gives g[d] a result and the flags new values computes just that. -/
theorem Computes.of_onEngine {s : State} {e : Eng} {d : GReg} {r : W64} {z n c v q : Bool} {f : Engine → Engine}
    (hf : f (s.engine e) = { s.engine e with
      g := if d = 0#5 then (s.engine e).g else (s.engine e).g.set d.toNat r, z := z, n := n, c := c, v := v, q := q }) :
    Computes s (s.onEngine e f) e d r z n c v q := by
  obtain ⟨h1, h2, h3, h4, h5⟩ := State.onEngine_core (s := s) (e := e) (f := f) (acc := (s.engine e).acc) hf
  exact ⟨Wrote.of_g h5, h1, h2, h3, h4⟩

/-- A result with Z and N, and the other flags as they were. -/
theorem ComputesZN.of_result (s : State) (e : Eng) (d : GReg) (r : W64) :
    ComputesZN s (s.onEngine e fun x => x.result d r) e d r := by
  apply Computes.of_onEngine
  simp [Engine.result, Engine.setReg_eq]

/-- A value received without flags. -/
theorem Receives.of_setReg (s : State) (e : Eng) (d : GReg) (r : W64) :
    Receives s (s.onEngine e fun x => x.setReg d r) e d r := by
  apply Computes.of_onEngine
  simp [Engine.setReg_eq]

/-! ## Traps (R403, R404) -/

/-- Outside a handler a trap is taken as R403 says. -/
theorem State.trap_eq {s : State} {e : Eng} (c : TrapCause) (v : W64) (h : (s.engine e).inTrap = false) :
    s.trap e c v = s.modEngine e fun x =>
      { x with data := x.frame e c v, inTrap := true, pc := 0x10#32, wait := none } := by
  simp [State.trap, h]

/-- Inside a handler it is a double trap (R404): the engine halts. -/
theorem State.trap_double {s : State} {e : Eng} (c : TrapCause) (v : W64) (h : (s.engine e).inTrap = true) :
    ((s.trap e c v).engine e).dblHalt = true ∧ (s.trap e c v).er.haltCause = .doubleTrap := by
  simp only [State.trap, h, if_true, State.event_eq]
  exact ⟨by simp [State.engine, State.modEngine], trivial⟩

/-- A frame leaves the bytes below it, and those above it, as they were. -/
theorem Engine.frame_outside (x : Engine) (e : Eng) (c : TrapCause) (v : W64) (a : Nat)
    (h : a < frameAddr e ∨ frameAddr e + 32 ≤ a) : (x.frame e c v).get 0#8 a = x.data.get 0#8 a := by
  rw [Engine.frame]
  exact Mem.get_write_outside _ _ _ _ _ (by simpa [length_leBytes] using h)

/-! ## Stores and waits (R414, R397) -/

/-- With room in the buffer an engine that issues posts its store. -/
theorem Posts.of_post {s : State} {e : Eng} (t : StoreTarget) (hi : s.issues e = true)
    (hr : (s.engine e).stores.length < 8) : Posts s (s.post e t) e t := by
  have hp : s.post e t = s.modEngine e fun x => { x with stores := x.stores ++ [t] }.retire := by
    simp [State.post, hi, Nat.not_le.mpr hr]
  obtain ⟨pc, lc, hk⟩ := Engine.loopBack_kept 2 { s.engine e with stores := (s.engine e).stores ++ [t] }
  have hext := Engine.loopBack_ext 2 { s.engine e with stores := (s.engine e).stores ++ [t] } (s.engine e) rfl rfl
  have hx : (s.post e t).engine e = Engine.retire { s.engine e with stores := (s.engine e).stores ++ [t] } := by
    rw [hp, State.engine_modEngine]
  have hx' : (s.post e t).engine e = { s.engine e with
      stores := (s.engine e).stores ++ [t], pc := pc, lc := lc } := by rw [hx]; exact hk
  refine ⟨by rw [hx'], ⟨by rw [hx]; exact hext.1, by rw [hx]; exact hext.2⟩, by rw [hx'], ?_, ?_⟩
  · rw [hp]; rfl
  · intro k hne
    rw [hp, State.engine_modEngine_ne _ _ _ _ hne]

/-- Without posted stores there is nothing to drain. -/
theorem State.drain_nothing {s : State} {e : Eng} (h : (s.engine e).stores = []) : s.drain e = s := by
  simp [State.drain, h, State.drainUpTo]

/-- Behind no stores an instruction of a ready engine acts at once. -/
theorem State.behindStores_clear {s : State} {e : Eng} {f : State → State} (h : Clear s e) : s.behindStores e f = f s := by
  simp [State.behindStores, State.drain_nothing h.2, h.1.1]

/-! ## Flags and limits as exact arithmetic (R386, R417) -/

theorem addOverflow_eq (a b : W64) : addOverflow a b = decide ((a + b).toInt ≠ a.toInt + b.toInt) := by
  simp only [addOverflow, outside, BitVec.toInt_add, ← Bool.decide_or, decide_eq_decide, Int.bmod]
  have := BitVec.toInt_lt (x := a)
  have := BitVec.le_toInt (x := a)
  have := BitVec.toInt_lt (x := b)
  have := BitVec.le_toInt (x := b)
  norm_num at *
  omega

theorem subOverflow_eq (a b : W64) : subOverflow a b = decide ((a - b).toInt ≠ a.toInt - b.toInt) := by
  simp only [subOverflow, outside, BitVec.toInt_sub, ← Bool.decide_or, decide_eq_decide, Int.bmod]
  have := BitVec.toInt_lt (x := a)
  have := BitVec.le_toInt (x := a)
  have := BitVec.toInt_lt (x := b)
  have := BitVec.le_toInt (x := b)
  norm_num at *
  omega

theorem limitTo_eq (x : Int) : limitTo 64 x = limit64 x := by simp [limitTo, limit64]

theorem outside_eq (x : Int) : outside 64 x = limited64 x := by
  simp only [outside, limited64]
  norm_num
  rw [Bool.eq_iff_iff]
  simp
  omega

end Sys2Proof.Machine
end

