-- ==== Sys2Proof/Laws/PerInstr.lean ====
section
/-! SUPPORT. Statements about every command as syntax, one lemma for each constructor: a command that has a Teique word,
which an engine can fetch, is well-formed. -/
namespace Sys2Proof.Laws

/-- A command with a Teique word is well-formed: what an engine reads from its program memory can always be queued. -/
def TeiqueWellFormed.Statement (i : Instr) : Prop := (teiqueWord i).isSome = true → i.wellFormed = true

theorem TeiqueWellFormed.registerWrite (req : Requester) (idx : BitVec 7) (v : BitVec 32) :
    TeiqueWellFormed.Statement (.registerWrite req idx v) := fun h => (Bool.false_ne_true h).elim
theorem TeiqueWellFormed.bridgeTransfer (br : Bridge) (payload : BitVec 64) (tag : BitVec 8) :
    TeiqueWellFormed.Statement (.bridgeTransfer br payload tag) := fun _ => rfl
theorem TeiqueWellFormed.bridgeParityError (br : Bridge) :
    TeiqueWellFormed.Statement (.bridgeParityError br) := fun _ => rfl
theorem TeiqueWellFormed.bridgeLinkDown (br : Bridge) :
    TeiqueWellFormed.Statement (.bridgeLinkDown br) := fun _ => rfl
theorem TeiqueWellFormed.bridgeLinkUp (br : Bridge) :
    TeiqueWellFormed.Statement (.bridgeLinkUp br) := fun _ => rfl
theorem TeiqueWellFormed.parityError (cl : Cluster) (inProgram : Bool) :
    TeiqueWellFormed.Statement (.parityError cl inProgram) := fun _ => rfl
theorem TeiqueWellFormed.lockstepMismatch :
    TeiqueWellFormed.Statement .lockstepMismatch := fun _ => rfl
theorem TeiqueWellFormed.metrologyFenceReset :
    TeiqueWellFormed.Statement .metrologyFenceReset := fun _ => rfl
theorem TeiqueWellFormed.watchdogExpiry (e : Eng) :
    TeiqueWellFormed.Statement (.watchdogExpiry e) := fun _ => rfl
theorem TeiqueWellFormed.fireCommandArrival (c : Chord) (vdrvOk : Bool) :
    TeiqueWellFormed.Statement (.fireCommandArrival c vdrvOk) := fun _ => rfl
theorem TeiqueWellFormed.fireEdge (c : Chord) (tap shadowTap : Byte) (lowCharge : Bool) :
    TeiqueWellFormed.Statement (.fireEdge c tap shadowTap lowCharge) := fun _ => rfl
theorem TeiqueWellFormed.muteEnd (c : Chord) :
    TeiqueWellFormed.Statement (.muteEnd c) := fun _ => rfl
theorem TeiqueWellFormed.burstEnd (c : Chord) :
    TeiqueWellFormed.Statement (.burstEnd c) := fun _ => rfl
theorem TeiqueWellFormed.antiPhaseEnd (c : Chord) :
    TeiqueWellFormed.Statement (.antiPhaseEnd c) := fun _ => rfl
theorem TeiqueWellFormed.clampEnd (c : Chord) :
    TeiqueWellFormed.Statement (.clampEnd c) := fun _ => rfl
theorem TeiqueWellFormed.driveReachFail (c : Chord) :
    TeiqueWellFormed.Statement (.driveReachFail c) := fun _ => rfl
theorem TeiqueWellFormed.stopWindowOpen (c : Chord) (delay : BitVec 24) (tap shadowTap : Byte) :
    TeiqueWellFormed.Statement (.stopWindowOpen c delay tap shadowTap) := fun _ => rfl
theorem TeiqueWellFormed.firstWaveTrip (c : Chord) :
    TeiqueWellFormed.Statement (.firstWaveTrip c) := fun _ => rfl
theorem TeiqueWellFormed.zeroCrossing (c : Chord) (falling : Bool) (tap shadowTap : Byte) :
    TeiqueWellFormed.Statement (.zeroCrossing c falling tap shadowTap) := fun _ => rfl
theorem TeiqueWellFormed.amplifierClip (c : Chord) :
    TeiqueWellFormed.Statement (.amplifierClip c) := fun _ => rfl
theorem TeiqueWellFormed.clampConduct (clamp : Fin 47) :
    TeiqueWellFormed.Statement (.clampConduct clamp) := fun _ => rfl
theorem TeiqueWellFormed.captureEnd (c : Chord) (samples : List (Int × Bool)) :
    TeiqueWellFormed.Statement (.captureEnd c samples) := fun h => (Bool.false_ne_true h).elim
theorem TeiqueWellFormed.correlationComplete (c : Chord) :
    TeiqueWellFormed.Statement (.correlationComplete c) := fun _ => rfl
theorem TeiqueWellFormed.stopWindowClose (c : Chord) (vmax : Nat) :
    TeiqueWellFormed.Statement (.stopWindowClose c vmax) := fun _ => rfl
theorem TeiqueWellFormed.boostQuietLimit :
    TeiqueWellFormed.Statement .boostQuietLimit := fun _ => rfl
theorem TeiqueWellFormed.resultEntryDelivery (south : Bool) :
    TeiqueWellFormed.Statement (.resultEntryDelivery south) := fun _ => rfl
theorem TeiqueWellFormed.dieTemperatureSample (t : Int) :
    TeiqueWellFormed.Statement (.dieTemperatureSample t) := fun _ => rfl
theorem TeiqueWellFormed.panelTemperatureSample (t : Int) :
    TeiqueWellFormed.Statement (.panelTemperatureSample t) := fun _ => rfl
theorem TeiqueWellFormed.driveOvertemp :
    TeiqueWellFormed.Statement .driveOvertemp := fun _ => rfl
theorem TeiqueWellFormed.otClear (req : Requester) (below130 : Bool) :
    TeiqueWellFormed.Statement (.otClear req below130) := fun _ => rfl
theorem TeiqueWellFormed.traverseBoundary (ring : W64) :
    TeiqueWellFormed.Statement (.traverseBoundary ring) := fun h => (Bool.false_ne_true h).elim
theorem TeiqueWellFormed.surveyRunWrite (req : Requester) (run : Bool) :
    TeiqueWellFormed.Statement (.surveyRunWrite req run) := fun _ => rfl
theorem TeiqueWellFormed.traverseWake :
    TeiqueWellFormed.Statement .traverseWake := fun _ => rfl
theorem TeiqueWellFormed.rotationStepDue :
    TeiqueWellFormed.Statement .rotationStepDue := fun _ => rfl
theorem TeiqueWellFormed.calibrationComplete (l : Lane) (hits : List Nat) :
    TeiqueWellFormed.Statement (.calibrationComplete l hits) := fun h => (Bool.false_ne_true h).elim
theorem TeiqueWellFormed.blankAssert :
    TeiqueWellFormed.Statement .blankAssert := fun _ => rfl
theorem TeiqueWellFormed.blankDeassert :
    TeiqueWellFormed.Statement .blankDeassert := fun _ => rfl
theorem TeiqueWellFormed.deferredShotFire (edges : List Edge) :
    TeiqueWellFormed.Statement (.deferredShotFire edges) := fun h => (Bool.false_ne_true h).elim
theorem TeiqueWellFormed.blankMaxHold :
    TeiqueWellFormed.Statement .blankMaxHold := fun _ => rfl
theorem TeiqueWellFormed.blankCountRestart :
    TeiqueWellFormed.Statement .blankCountRestart := fun _ => rfl
theorem TeiqueWellFormed.settleSpanEnd (isl : AuxIsland) :
    TeiqueWellFormed.Statement (.settleSpanEnd isl) := fun _ => rfl
theorem TeiqueWellFormed.auxConversionStart (isl : AuxIsland) :
    TeiqueWellFormed.Statement (.auxConversionStart isl) := fun _ => rfl
theorem TeiqueWellFormed.auxPhaseEnd (start stop : BitVec 40) :
    TeiqueWellFormed.Statement (.auxPhaseEnd start stop) := fun _ => rfl
theorem TeiqueWellFormed.dischargeTimeout :
    TeiqueWellFormed.Statement .dischargeTimeout := fun _ => rfl
theorem TeiqueWellFormed.resistanceConversionComplete (openWire : Bool) :
    TeiqueWellFormed.Statement (.resistanceConversionComplete openWire) := fun _ => rfl
theorem TeiqueWellFormed.bridgeConversionComplete (code : BitVec 24) (exFault : Bool) :
    TeiqueWellFormed.Statement (.bridgeConversionComplete code exFault) := fun _ => rfl
theorem TeiqueWellFormed.selfTestStart (req : Requester) :
    TeiqueWellFormed.Statement (.selfTestStart req) := fun _ => rfl
theorem TeiqueWellFormed.selfTestComplete (fail : BitVec 6) :
    TeiqueWellFormed.Statement (.selfTestComplete fail) := fun _ => rfl
theorem TeiqueWellFormed.supplyMonitorChange (vinOk vbatOk vbkOk vbatLow : Bool) :
    TeiqueWellFormed.Statement (.supplyMonitorChange vinOk vbatOk vbkOk vbatLow) := fun _ => rfl
theorem TeiqueWellFormed.supplyCurrentLimit (vin vbat : Bool) :
    TeiqueWellFormed.Statement (.supplyCurrentLimit vin vbat) := fun _ => rfl
theorem TeiqueWellFormed.vioLow (low : Bool) :
    TeiqueWellFormed.Statement (.vioLow low) := fun _ => rfl
theorem TeiqueWellFormed.backupPowerOnReset :
    TeiqueWellFormed.Statement .backupPowerOnReset := fun _ => rfl
theorem TeiqueWellFormed.brownOut :
    TeiqueWellFormed.Statement .brownOut := fun _ => rfl
theorem TeiqueWellFormed.diePowerOnReset (die : Die) :
    TeiqueWellFormed.Statement (.diePowerOnReset die) := fun _ => rfl
theorem TeiqueWellFormed.pfailAssert :
    TeiqueWellFormed.Statement .pfailAssert := fun _ => rfl
theorem TeiqueWellFormed.pfailDeassert :
    TeiqueWellFormed.Statement .pfailDeassert := fun _ => rfl
theorem TeiqueWellFormed.vinReturn :
    TeiqueWellFormed.Statement .vinReturn := fun _ => rfl
theorem TeiqueWellFormed.islandVoltWrite (req : Requester) (v : BitVec 32) :
    TeiqueWellFormed.Statement (.islandVoltWrite req v) := fun _ => rfl
theorem TeiqueWellFormed.islandVoltSettled :
    TeiqueWellFormed.Statement .islandVoltSettled := fun _ => rfl
theorem TeiqueWellFormed.pwrDomainEnWrite (req : Requester) (v : BitVec 32) :
    TeiqueWellFormed.Statement (.pwrDomainEnWrite req v) := fun _ => rfl
theorem TeiqueWellFormed.domainDrainComplete (pd : Fin 8) :
    TeiqueWellFormed.Statement (.domainDrainComplete pd) := fun _ => rfl
theorem TeiqueWellFormed.domainReady (pd : Fin 8) :
    TeiqueWellFormed.Statement (.domainReady pd) := fun _ => rfl
theorem TeiqueWellFormed.devStateRequest (req : Requester) (code : BitVec 3) :
    TeiqueWellFormed.Statement (.devStateRequest req code) := fun _ => rfl
theorem TeiqueWellFormed.wait (e : Eng) :
    TeiqueWellFormed.Statement (.wait e) := fun _ => rfl
theorem TeiqueWellFormed.sleepEntryComplete :
    TeiqueWellFormed.Statement .sleepEntryComplete := fun _ => rfl
theorem TeiqueWellFormed.sleepExitComplete :
    TeiqueWellFormed.Statement .sleepExitComplete := fun _ => rfl
theorem TeiqueWellFormed.oscillatorStart (src : Osc) :
    TeiqueWellFormed.Statement (.oscillatorStart src) := fun _ => rfl
theorem TeiqueWellFormed.pllLock :
    TeiqueWellFormed.Statement .pllLock := fun _ => rfl
theorem TeiqueWellFormed.clkSrcWrite (req : Requester) (v : BitVec 32) :
    TeiqueWellFormed.Statement (.clkSrcWrite req v) := fun _ => rfl
theorem TeiqueWellFormed.pllCfgWrite (req : Requester) (v : BitVec 32) :
    TeiqueWellFormed.Statement (.pllCfgWrite req v) := fun _ => rfl
theorem TeiqueWellFormed.clockSwitchComplete (mux : Mux) (oldDead : Bool) :
    TeiqueWellFormed.Statement (.clockSwitchComplete mux oldDead) := fun _ => rfl
theorem TeiqueWellFormed.clockSwitchAbandon (mux : Mux) :
    TeiqueWellFormed.Statement (.clockSwitchAbandon mux) := fun _ => rfl
theorem TeiqueWellFormed.ovnrdyChange (high : Bool) :
    TeiqueWellFormed.Statement (.ovnrdyChange high) := fun _ => rfl
theorem TeiqueWellFormed.ovenWarmQualified :
    TeiqueWellFormed.Statement .ovenWarmQualified := fun _ => rfl
theorem TeiqueWellFormed.xhfDevMeasure (count : Nat) :
    TeiqueWellFormed.Statement (.xhfDevMeasure count) := fun _ => rfl
theorem TeiqueWellFormed.xhfDevAgeAdvance :
    TeiqueWellFormed.Statement .xhfDevAgeAdvance := fun _ => rfl
theorem TeiqueWellFormed.missingEdgeTrip (onOutput : Bool) :
    TeiqueWellFormed.Statement (.missingEdgeTrip onOutput) := fun _ => rfl
theorem TeiqueWellFormed.pllLockLoss :
    TeiqueWellFormed.Statement .pllLockLoss := fun _ => rfl
theorem TeiqueWellFormed.clockMonitorWindow (src : MonClock) (edges : Nat) :
    TeiqueWellFormed.Statement (.clockMonitorWindow src edges) := fun _ => rfl
theorem TeiqueWellFormed.relockTimeout :
    TeiqueWellFormed.Statement .relockTimeout := fun _ => rfl
theorem TeiqueWellFormed.returnQualMet :
    TeiqueWellFormed.Statement .returnQualMet := fun _ => rfl
theorem TeiqueWellFormed.holdReleaseWrite (req : Requester) :
    TeiqueWellFormed.Statement (.holdReleaseWrite req) := fun _ => rfl
theorem TeiqueWellFormed.autoFallback :
    TeiqueWellFormed.Statement .autoFallback := fun _ => rfl
theorem TeiqueWellFormed.clkGateWrite (req : Requester) (v : BitVec 32) :
    TeiqueWellFormed.Statement (.clkGateWrite req v) := fun _ => rfl
theorem TeiqueWellFormed.gateForceClose (bit : Fin 14) :
    TeiqueWellFormed.Statement (.gateForceClose bit) := fun _ => rfl
theorem TeiqueWellFormed.faultCauseAck (req : Requester) :
    TeiqueWellFormed.Statement (.faultCauseAck req) := fun _ => rfl
theorem TeiqueWellFormed.resetNAssert :
    TeiqueWellFormed.Statement .resetNAssert := fun _ => rfl
theorem TeiqueWellFormed.resetNRelease (ftest : Bool) :
    TeiqueWellFormed.Statement (.resetNRelease ftest) := fun _ => rfl
theorem TeiqueWellFormed.devReset (req : Requester) :
    TeiqueWellFormed.Statement (.devReset req) := fun _ => rfl
theorem TeiqueWellFormed.settingsRestoreComplete :
    TeiqueWellFormed.Statement .settingsRestoreComplete := fun _ => rfl
theorem TeiqueWellFormed.imageVerifyComplete :
    TeiqueWellFormed.Statement .imageVerifyComplete := fun _ => rfl
theorem TeiqueWellFormed.rodRecordPeriodic :
    TeiqueWellFormed.Statement .rodRecordPeriodic := fun _ => rfl
theorem TeiqueWellFormed.storePageComplete :
    TeiqueWellFormed.Statement .storePageComplete := fun _ => rfl
theorem TeiqueWellFormed.postedStoreAcknowledged (e : Eng) :
    TeiqueWellFormed.Statement (.postedStoreAcknowledged e) := fun _ => rfl
theorem TeiqueWellFormed.aluAdd (e : Eng) (d a b : GReg) :
    TeiqueWellFormed.Statement (.aluAdd e d a b) := fun _ => rfl
theorem TeiqueWellFormed.aluSub (e : Eng) (d a b : GReg) :
    TeiqueWellFormed.Statement (.aluSub e d a b) := fun _ => rfl
theorem TeiqueWellFormed.aluAnd (e : Eng) (d a b : GReg) :
    TeiqueWellFormed.Statement (.aluAnd e d a b) := fun _ => rfl
theorem TeiqueWellFormed.aluOr (e : Eng) (d a b : GReg) :
    TeiqueWellFormed.Statement (.aluOr e d a b) := fun _ => rfl
theorem TeiqueWellFormed.aluXor (e : Eng) (d a b : GReg) :
    TeiqueWellFormed.Statement (.aluXor e d a b) := fun _ => rfl
theorem TeiqueWellFormed.aluShl (e : Eng) (d a b : GReg) :
    TeiqueWellFormed.Statement (.aluShl e d a b) := fun _ => rfl
theorem TeiqueWellFormed.aluShr (e : Eng) (d a b : GReg) :
    TeiqueWellFormed.Statement (.aluShr e d a b) := fun _ => rfl
theorem TeiqueWellFormed.aluSar (e : Eng) (d a b : GReg) :
    TeiqueWellFormed.Statement (.aluSar e d a b) := fun _ => rfl
theorem TeiqueWellFormed.aluMin (e : Eng) (d a b : GReg) :
    TeiqueWellFormed.Statement (.aluMin e d a b) := fun _ => rfl
theorem TeiqueWellFormed.aluMax (e : Eng) (d a b : GReg) :
    TeiqueWellFormed.Statement (.aluMax e d a b) := fun _ => rfl
theorem TeiqueWellFormed.aluSlt (e : Eng) (d a b : GReg) :
    TeiqueWellFormed.Statement (.aluSlt e d a b) := fun _ => rfl
theorem TeiqueWellFormed.aluSltu (e : Eng) (d a b : GReg) :
    TeiqueWellFormed.Statement (.aluSltu e d a b) := fun _ => rfl
theorem TeiqueWellFormed.aluAdds (e : Eng) (d a b : GReg) :
    TeiqueWellFormed.Statement (.aluAdds e d a b) := fun _ => rfl
theorem TeiqueWellFormed.aluSubs (e : Eng) (d a b : GReg) :
    TeiqueWellFormed.Statement (.aluSubs e d a b) := fun _ => rfl
theorem TeiqueWellFormed.addi (e : Eng) (d a : GReg) (imm : BitVec 16) :
    TeiqueWellFormed.Statement (.addi e d a imm) := fun _ => rfl
theorem TeiqueWellFormed.movi (e : Eng) (d : GReg) (imm : BitVec 16) :
    TeiqueWellFormed.Statement (.movi e d imm) := fun _ => rfl
theorem TeiqueWellFormed.shi (e : Eng) (d : GReg) (imm : BitVec 16) :
    TeiqueWellFormed.Statement (.shi e d imm) := fun _ => rfl
theorem TeiqueWellFormed.mulLow (e : Eng) (d a b : GReg) :
    TeiqueWellFormed.Statement (.mulLow e d a b) := fun _ => rfl
theorem TeiqueWellFormed.mulHighSigned (e : Eng) (d a b : GReg) :
    TeiqueWellFormed.Statement (.mulHighSigned e d a b) := fun _ => rfl
theorem TeiqueWellFormed.mulHighUnsigned (e : Eng) (d a b : GReg) :
    TeiqueWellFormed.Statement (.mulHighUnsigned e d a b) := fun _ => rfl
theorem TeiqueWellFormed.div (e : Eng) (d a b : GReg) :
    TeiqueWellFormed.Statement (.div e d a b) := fun _ => rfl
theorem TeiqueWellFormed.divu (e : Eng) (d a b : GReg) :
    TeiqueWellFormed.Statement (.divu e d a b) := fun _ => rfl
theorem TeiqueWellFormed.rem (e : Eng) (d a b : GReg) :
    TeiqueWellFormed.Statement (.rem e d a b) := fun _ => rfl
theorem TeiqueWellFormed.remu (e : Eng) (d a b : GReg) :
    TeiqueWellFormed.Statement (.remu e d a b) := fun _ => rfl
theorem TeiqueWellFormed.qmul (e : Eng) (d a b : GReg) (q : BitVec 11) :
    TeiqueWellFormed.Statement (.qmul e d a b q) := fun _ => rfl
theorem TeiqueWellFormed.qdiv (e : Eng) (d a b : GReg) (q : BitVec 11) :
    TeiqueWellFormed.Statement (.qdiv e d a b q) := fun _ => rfl
theorem TeiqueWellFormed.mac (e : Eng) (a b : GReg) :
    TeiqueWellFormed.Statement (.mac e a b) := fun _ => rfl
theorem TeiqueWellFormed.msu (e : Eng) (a b : GReg) :
    TeiqueWellFormed.Statement (.msu e a b) := fun _ => rfl
theorem TeiqueWellFormed.aclr (e : Eng) :
    TeiqueWellFormed.Statement (.aclr e) := fun _ => rfl
theorem TeiqueWellFormed.aread (e : Eng) (d : GReg) (sel : BitVec 5) :
    TeiqueWellFormed.Statement (.aread e d sel) := fun _ => rfl
theorem TeiqueWellFormed.funcSqrt (e : Eng) (d a : GReg) :
    TeiqueWellFormed.Statement (.funcSqrt e d a) := fun _ => rfl
theorem TeiqueWellFormed.funcLog2 (e : Eng) (d a : GReg) :
    TeiqueWellFormed.Statement (.funcLog2 e d a) := fun _ => rfl
theorem TeiqueWellFormed.funcExp2 (e : Eng) (d a : GReg) :
    TeiqueWellFormed.Statement (.funcExp2 e d a) := fun _ => rfl
theorem TeiqueWellFormed.funcRecip (e : Eng) (d a : GReg) :
    TeiqueWellFormed.Statement (.funcRecip e d a) := fun _ => rfl
theorem TeiqueWellFormed.funcClz (e : Eng) (d a : GReg) :
    TeiqueWellFormed.Statement (.funcClz e d a) := fun _ => rfl
theorem TeiqueWellFormed.ld64 (e : Eng) (d a : GReg) (imm : BitVec 16) :
    TeiqueWellFormed.Statement (.ld64 e d a imm) := fun _ => rfl
theorem TeiqueWellFormed.ld32 (e : Eng) (d a : GReg) (imm : BitVec 16) :
    TeiqueWellFormed.Statement (.ld32 e d a imm) := fun _ => rfl
theorem TeiqueWellFormed.st64 (e : Eng) (d a : GReg) (imm : BitVec 16) :
    TeiqueWellFormed.Statement (.st64 e d a imm) := fun _ => rfl
theorem TeiqueWellFormed.st32 (e : Eng) (d a : GReg) (imm : BitVec 16) :
    TeiqueWellFormed.Statement (.st32 e d a imm) := fun _ => rfl
theorem TeiqueWellFormed.beq (e : Eng) (d a : GReg) (imm : BitVec 16) :
    TeiqueWellFormed.Statement (.beq e d a imm) := fun _ => rfl
theorem TeiqueWellFormed.bne (e : Eng) (d a : GReg) (imm : BitVec 16) :
    TeiqueWellFormed.Statement (.bne e d a imm) := fun _ => rfl
theorem TeiqueWellFormed.blt (e : Eng) (d a : GReg) (imm : BitVec 16) :
    TeiqueWellFormed.Statement (.blt e d a imm) := fun _ => rfl
theorem TeiqueWellFormed.bge (e : Eng) (d a : GReg) (imm : BitVec 16) :
    TeiqueWellFormed.Statement (.bge e d a imm) := fun _ => rfl
theorem TeiqueWellFormed.jmp (e : Eng) (off : BitVec 26) :
    TeiqueWellFormed.Statement (.jmp e off) := fun _ => rfl
theorem TeiqueWellFormed.call (e : Eng) (off : BitVec 26) :
    TeiqueWellFormed.Statement (.call e off) := fun _ => rfl
theorem TeiqueWellFormed.ret (e : Eng) :
    TeiqueWellFormed.Statement (.ret e) := fun _ => rfl
theorem TeiqueWellFormed.retTrap (e : Eng) :
    TeiqueWellFormed.Statement (.retTrap e) := fun _ => rfl
theorem TeiqueWellFormed.loop (e : Eng) (d : GReg) (imm : BitVec 16) :
    TeiqueWellFormed.Statement (.loop e d imm) := fun _ => rfl
theorem TeiqueWellFormed.trap (e : Eng) (fn : BitVec 11) :
    TeiqueWellFormed.Statement (.trap e fn) := fun _ => rfl
theorem TeiqueWellFormed.brk (e : Eng) :
    TeiqueWellFormed.Statement (.brk e) := fun _ => rfl
theorem TeiqueWellFormed.fire (e : Eng) (d a : GReg) (slot mod : BitVec 8) :
    TeiqueWellFormed.Statement (.fire e d a slot mod) := fun _ => rfl
theorem TeiqueWellFormed.arm (e : Eng) (d a : GReg) (slot mod : BitVec 8) :
    TeiqueWellFormed.Statement (.arm e d a slot mod) := fun _ => rfl
theorem TeiqueWellFormed.stamp (e : Eng) (d a : GReg) (slot mod : BitVec 8) :
    TeiqueWellFormed.Statement (.stamp e d a slot mod) := fun _ => rfl
theorem TeiqueWellFormed.corr (e : Eng) (d a : GReg) (slot mod : BitVec 8) :
    TeiqueWellFormed.Statement (.corr e d a slot mod) := fun _ => rfl
theorem TeiqueWellFormed.capt (e : Eng) (d a : GReg) (slot mod : BitVec 8) :
    TeiqueWellFormed.Statement (.capt e d a slot mod) := fun _ => rfl
theorem TeiqueWellFormed.statStart (e : Eng) (d a : GReg) (slot : BitVec 8) :
    TeiqueWellFormed.Statement (.statStart e d a slot) := fun _ => rfl
theorem TeiqueWellFormed.statFeed (e : Eng) (d a : GReg) (slot : BitVec 8) :
    TeiqueWellFormed.Statement (.statFeed e d a slot) := fun _ => rfl
theorem TeiqueWellFormed.statRead (e : Eng) (a : GReg) (slot : BitVec 8) :
    TeiqueWellFormed.Statement (.statRead e a slot) := fun _ => rfl
theorem TeiqueWellFormed.aux (e : Eng) (d : GReg) (slot mod : BitVec 8) :
    TeiqueWellFormed.Statement (.aux e d slot mod) := fun _ => rfl
theorem TeiqueWellFormed.atTime (e : Eng) (d a : GReg) (imm : BitVec 16) :
    TeiqueWellFormed.Statement (.atTime e d a imm) := fun _ => rfl
theorem TeiqueWellFormed.pace (e : Eng) (a : GReg) (imm : BitVec 16) :
    TeiqueWellFormed.Statement (.pace e a imm) := fun _ => rfl
theorem TeiqueWellFormed.laneReadg (e : Eng) (d a : GReg) (slot : BitVec 8) :
    TeiqueWellFormed.Statement (.laneReadg e d a slot) := fun _ => rfl
theorem TeiqueWellFormed.laneSnap (e : Eng) (d : GReg) (slot : BitVec 8) :
    TeiqueWellFormed.Statement (.laneSnap e d slot) := fun _ => rfl
theorem TeiqueWellFormed.laneCalall (e : Eng) (d : GReg) (slot : BitVec 8) :
    TeiqueWellFormed.Statement (.laneCalall e d slot) := fun _ => rfl
theorem TeiqueWellFormed.laneAssign (e : Eng) (d : GReg) (slot : BitVec 8) :
    TeiqueWellFormed.Statement (.laneAssign e d slot) := fun _ => rfl
theorem TeiqueWellFormed.laneFree (e : Eng) (d : GReg) (slot : BitVec 8) :
    TeiqueWellFormed.Statement (.laneFree e d slot) := fun _ => rfl
theorem TeiqueWellFormed.tally (e : Eng) (rod : BitVec 5) (a b : GReg) :
    TeiqueWellFormed.Statement (.tally e rod a b) := fun _ => rfl
theorem TeiqueWellFormed.tallyTest (e : Eng) (rod : BitVec 5) (a b : GReg) :
    TeiqueWellFormed.Statement (.tallyTest e rod a b) := fun _ => rfl
theorem TeiqueWellFormed.rodReadBinary (e : Eng) (d a : GReg) :
    TeiqueWellFormed.Statement (.rodReadBinary e d a) := fun _ => rfl
theorem TeiqueWellFormed.rodReadDecimal (e : Eng) (d a : GReg) :
    TeiqueWellFormed.Statement (.rodReadDecimal e d a) := fun _ => rfl
theorem TeiqueWellFormed.rodSnapshot (e : Eng) :
    TeiqueWellFormed.Statement (.rodSnapshot e) := fun _ => rfl
theorem TeiqueWellFormed.rodCommit (e : Eng) :
    TeiqueWellFormed.Statement (.rodCommit e) := fun _ => rfl
theorem TeiqueWellFormed.psave (e : Eng) (d a b : GReg) :
    TeiqueWellFormed.Statement (.psave e d a b) := fun _ => rfl
theorem TeiqueWellFormed.pload (e : Eng) (d a b : GReg) :
    TeiqueWellFormed.Statement (.pload e d a b) := fun _ => rfl
theorem TeiqueWellFormed.sig (e : Eng) (dst : BitVec 5) (fn : BitVec 11) :
    TeiqueWellFormed.Statement (.sig e dst fn) := fun _ => rfl
theorem TeiqueWellFormed.hskSend (e : Eng) (a : GReg) (dst : BitVec 5) :
    TeiqueWellFormed.Statement (.hskSend e a dst) := fun _ => rfl
theorem TeiqueWellFormed.hskTrysend (e : Eng) (d a : GReg) (dst : BitVec 5) :
    TeiqueWellFormed.Statement (.hskTrysend e d a dst) := fun _ => rfl
theorem TeiqueWellFormed.hskRecv (e : Eng) (d : GReg) :
    TeiqueWellFormed.Statement (.hskRecv e d) := fun _ => rfl
theorem TeiqueWellFormed.hskPeek (e : Eng) (d : GReg) :
    TeiqueWellFormed.Statement (.hskPeek e d) := fun _ => rfl
theorem TeiqueWellFormed.hskFence (e : Eng) :
    TeiqueWellFormed.Statement (.hskFence e) := fun _ => rfl
theorem TeiqueWellFormed.hskKick (e : Eng) :
    TeiqueWellFormed.Statement (.hskKick e) := fun _ => rfl
theorem TeiqueWellFormed.sysRead (e : Eng) (d : GReg) (idx : BitVec 7) :
    TeiqueWellFormed.Statement (.sysRead e d idx) := fun _ => rfl
theorem TeiqueWellFormed.sysWrite (e : Eng) (a : GReg) (idx : BitVec 7) :
    TeiqueWellFormed.Statement (.sysWrite e a idx) := fun _ => rfl
theorem TeiqueWellFormed.sysReset (e : Eng) :
    TeiqueWellFormed.Statement (.sysReset e) := fun _ => rfl
theorem TeiqueWellFormed.sysFenceRaise (e : Eng) (a : GReg) :
    TeiqueWellFormed.Statement (.sysFenceRaise e a) := fun _ => rfl
theorem TeiqueWellFormed.sysFenceLower (e : Eng) (a : GReg) :
    TeiqueWellFormed.Statement (.sysFenceLower e a) := fun _ => rfl
theorem TeiqueWellFormed.hinit (e : Eng) :
    TeiqueWellFormed.Statement (.hinit e) := fun _ => rfl
theorem TeiqueWellFormed.hupd (e : Eng) (a b : GReg) :
    TeiqueWellFormed.Statement (.hupd e a b) := fun _ => rfl
theorem TeiqueWellFormed.hfin (e : Eng) (a : GReg) :
    TeiqueWellFormed.Statement (.hfin e a) := fun _ => rfl
theorem TeiqueWellFormed.cryptVerify (e : Eng) (d a : GReg) :
    TeiqueWellFormed.Statement (.cryptVerify e d a) := fun _ => rfl
theorem TeiqueWellFormed.qsign (e : Eng) (d a : GReg) :
    TeiqueWellFormed.Statement (.qsign e d a) := fun _ => rfl
theorem TeiqueWellFormed.modexp (e : Eng) (d a : GReg) :
    TeiqueWellFormed.Statement (.modexp e d a) := fun _ => rfl
theorem TeiqueWellFormed.cryptComplete :
    TeiqueWellFormed.Statement .cryptComplete := fun _ => rfl
theorem TeiqueWellFormed.progDataWrite (v : BitVec 32) :
    TeiqueWellFormed.Statement (.progDataWrite v) := fun _ => rfl
theorem TeiqueWellFormed.engineHalt (req : Requester) (halt : BitVec 5) :
    TeiqueWellFormed.Statement (.engineHalt req halt) := fun _ => rfl
theorem TeiqueWellFormed.engineStep (e : Eng) :
    TeiqueWellFormed.Statement (.engineStep e) := fun _ => rfl
theorem TeiqueWellFormed.mailboxInWrite (v : BitVec 32) :
    TeiqueWellFormed.Statement (.mailboxInWrite v) := fun _ => rfl
theorem TeiqueWellFormed.mailboxOutRead :
    TeiqueWellFormed.Statement .mailboxOutRead := fun _ => rfl
theorem TeiqueWellFormed.logStageLow (req : Requester) (arg : BitVec 16) :
    TeiqueWellFormed.Statement (.logStageLow req arg) := fun _ => rfl
theorem TeiqueWellFormed.logStageHigh (req : Requester) (arg : BitVec 16) :
    TeiqueWellFormed.Statement (.logStageHigh req arg) := fun _ => rfl
theorem TeiqueWellFormed.logSubmit (req : Requester) (code : BitVec 12) :
    TeiqueWellFormed.Statement (.logSubmit req code) := fun _ => rfl
theorem TeiqueWellFormed.clrLost (req : Requester) :
    TeiqueWellFormed.Statement (.clrLost req) := fun _ => rfl
theorem TeiqueWellFormed.storeProtectWrite (req : Requester) (bp : BitVec 2) :
    TeiqueWellFormed.Statement (.storeProtectWrite req bp) := fun _ => rfl
theorem TeiqueWellFormed.storeDataRead (req : Requester) :
    TeiqueWellFormed.Statement (.storeDataRead req) := fun _ => rfl
theorem TeiqueWellFormed.storeDataWrite (req : Requester) (v : BitVec 32) :
    TeiqueWellFormed.Statement (.storeDataWrite req v) := fun _ => rfl
theorem TeiqueWellFormed.saveSettings (req : Requester) :
    TeiqueWellFormed.Statement (.saveSettings req) := fun _ => rfl
theorem TeiqueWellFormed.hostSnapshot (req : Requester) :
    TeiqueWellFormed.Statement (.hostSnapshot req) := fun _ => rfl
theorem TeiqueWellFormed.updOpen (req : Requester) (kind : BitVec 2) (resume : Bool) (port : BitVec 2) :
    TeiqueWellFormed.Statement (.updOpen req kind resume port) := fun _ => rfl
theorem TeiqueWellFormed.updBlock (req : Requester) (block : BitVec 10) (port : BitVec 2) :
    TeiqueWellFormed.Statement (.updBlock req block port) := fun _ => rfl
theorem TeiqueWellFormed.updBlockComplete (readBackOk : Bool) :
    TeiqueWellFormed.Statement (.updBlockComplete readBackOk) := fun _ => rfl
theorem TeiqueWellFormed.updVerify (req : Requester) (port : BitVec 2) :
    TeiqueWellFormed.Statement (.updVerify req port) := fun _ => rfl
theorem TeiqueWellFormed.updVerifyComplete :
    TeiqueWellFormed.Statement .updVerifyComplete := fun _ => rfl
theorem TeiqueWellFormed.updActivate (req : Requester) (port : BitVec 2) :
    TeiqueWellFormed.Statement (.updActivate req port) := fun _ => rfl
theorem TeiqueWellFormed.updApply (req : Requester) (port : BitVec 2) :
    TeiqueWellFormed.Statement (.updApply req port) := fun _ => rfl
theorem TeiqueWellFormed.updClose (req : Requester) (port : BitVec 2) :
    TeiqueWellFormed.Statement (.updClose req port) := fun _ => rfl
theorem TeiqueWellFormed.updAbort (req : Requester) (port : BitVec 2) :
    TeiqueWellFormed.Statement (.updAbort req port) := fun _ => rfl
theorem TeiqueWellFormed.updConfirm (req : Requester) (port : BitVec 2) :
    TeiqueWellFormed.Statement (.updConfirm req port) := fun _ => rfl
theorem TeiqueWellFormed.updIdleTimeout :
    TeiqueWellFormed.Statement .updIdleTimeout := fun _ => rfl
theorem TeiqueWellFormed.trialDeadline :
    TeiqueWellFormed.Statement .trialDeadline := fun _ => rfl
theorem TeiqueWellFormed.qreq (req : Requester) :
    TeiqueWellFormed.Statement (.qreq req) := fun _ => rfl
theorem TeiqueWellFormed.qready (req : Requester) :
    TeiqueWellFormed.Statement (.qready req) := fun _ => rfl
theorem TeiqueWellFormed.certRead :
    TeiqueWellFormed.Statement .certRead := fun _ => rfl
theorem TeiqueWellFormed.rtcSecond :
    TeiqueWellFormed.Statement .rtcSecond := fun _ => rfl
theorem TeiqueWellFormed.rtcTimeRead (req : Requester) :
    TeiqueWellFormed.Statement (.rtcTimeRead req) := fun _ => rfl
theorem TeiqueWellFormed.rtcCommit (req : Requester) :
    TeiqueWellFormed.Statement (.rtcCommit req) := fun _ => rfl
theorem TeiqueWellFormed.rtcCommitEdge :
    TeiqueWellFormed.Statement .rtcCommitEdge := fun _ => rfl
theorem TeiqueWellFormed.x32StopDetect :
    TeiqueWellFormed.Statement .x32StopDetect := fun _ => rfl
theorem TeiqueWellFormed.bkpWrite (req : Requester) (sel : BitVec 5) (data : BitVec 16) :
    TeiqueWellFormed.Statement (.bkpWrite req sel data) := fun _ => rfl
theorem TeiqueWellFormed.pwronAssert (req : Requester) :
    TeiqueWellFormed.Statement (.pwronAssert req) := fun _ => rfl
theorem TeiqueWellFormed.pwronRelease (req : Requester) (coincide : Bool) :
    TeiqueWellFormed.Statement (.pwronRelease req coincide) := fun _ => rfl
theorem TeiqueWellFormed.panelUpdate (req : Requester) :
    TeiqueWellFormed.Statement (.panelUpdate req) := fun _ => rfl
theorem TeiqueWellFormed.clearRedraw (req : Requester) :
    TeiqueWellFormed.Statement (.clearRedraw req) := fun _ => rfl
theorem TeiqueWellFormed.balance (req : Requester) :
    TeiqueWellFormed.Statement (.balance req) := fun _ => rfl
theorem TeiqueWellFormed.pumpOk :
    TeiqueWellFormed.Statement .pumpOk := fun _ => rfl
theorem TeiqueWellFormed.panelFrameEnd :
    TeiqueWellFormed.Statement .panelFrameEnd := fun _ => rfl
theorem TeiqueWellFormed.panelDischargeEnd :
    TeiqueWellFormed.Statement .panelDischargeEnd := fun _ => rfl
theorem TeiqueWellFormed.shownCrcCheck :
    TeiqueWellFormed.Statement .shownCrcCheck := fun _ => rfl
theorem TeiqueWellFormed.hostWriteFrame (bytes : List Byte) :
    TeiqueWellFormed.Statement (.hostWriteFrame bytes) := fun _ => rfl
theorem TeiqueWellFormed.hostReadFrame (bytes : List Byte) :
    TeiqueWellFormed.Statement (.hostReadFrame bytes) := fun _ => rfl
theorem TeiqueWellFormed.hostReplayFrame :
    TeiqueWellFormed.Statement .hostReplayFrame := fun _ => rfl
theorem TeiqueWellFormed.i2cAddressMatch (addr : BitVec 7) (read : Bool) :
    TeiqueWellFormed.Statement (.i2cAddressMatch addr read) := fun h => (Bool.false_ne_true h).elim
theorem TeiqueWellFormed.i2cStretchRelease :
    TeiqueWellFormed.Statement .i2cStretchRelease := fun _ => rfl
theorem TeiqueWellFormed.i2cStretchTimeout :
    TeiqueWellFormed.Statement .i2cStretchTimeout := fun _ => rfl
theorem TeiqueWellFormed.i2cWriteTransaction (bytes : List Byte) :
    TeiqueWellFormed.Statement (.i2cWriteTransaction bytes) := fun _ => rfl
theorem TeiqueWellFormed.i2cReadWord :
    TeiqueWellFormed.Statement .i2cReadWord := fun _ => rfl
theorem TeiqueWellFormed.opticalCharReceived (ch : Byte) (parity framing : Bool) :
    TeiqueWellFormed.Statement (.opticalCharReceived ch parity framing) := fun _ => rfl
theorem TeiqueWellFormed.opticalCharSent :
    TeiqueWellFormed.Statement .opticalCharSent := fun _ => rfl
theorem TeiqueWellFormed.opticalWakeEdge :
    TeiqueWellFormed.Statement .opticalWakeEdge := fun _ => rfl
theorem TeiqueWellFormed.pulseStart (k : Fin 4) :
    TeiqueWellFormed.Statement (.pulseStart k) := fun _ => rfl
theorem TeiqueWellFormed.pulseEnd (k : Fin 4) :
    TeiqueWellFormed.Statement (.pulseEnd k) := fun _ => rfl
theorem TeiqueWellFormed.deliveryArm (req : Requester) :
    TeiqueWellFormed.Statement (.deliveryArm req) := fun _ => rfl
theorem TeiqueWellFormed.deliveryStart (req : Requester) :
    TeiqueWellFormed.Statement (.deliveryStart req) := fun _ => rfl
theorem TeiqueWellFormed.deliveryStop (req : Requester) :
    TeiqueWellFormed.Statement (.deliveryStop req) := fun _ => rfl
theorem TeiqueWellFormed.deliveryReset (req : Requester) :
    TeiqueWellFormed.Statement (.deliveryReset req) := fun _ => rfl
theorem TeiqueWellFormed.v1SoftStart :
    TeiqueWellFormed.Statement .v1SoftStart := fun _ => rfl
theorem TeiqueWellFormed.runoutTimeout :
    TeiqueWellFormed.Statement .runoutTimeout := fun _ => rfl
theorem TeiqueWellFormed.deliveryMaxTime :
    TeiqueWellFormed.Statement .deliveryMaxTime := fun _ => rfl
theorem TeiqueWellFormed.valveOvercurrent (v1 : Bool) :
    TeiqueWellFormed.Statement (.valveOvercurrent v1) := fun _ => rfl
theorem TeiqueWellFormed.incPop (e : Eng) :
    TeiqueWellFormed.Statement (.incPop e) := fun _ => rfl
theorem TeiqueWellFormed.linkUp :
    TeiqueWellFormed.Statement .linkUp := fun _ => rfl
theorem TeiqueWellFormed.meridianRequest :
    TeiqueWellFormed.Statement .meridianRequest := fun _ => rfl
theorem TeiqueWellFormed.helloFrame (bytes : List Byte) :
    TeiqueWellFormed.Statement (.helloFrame bytes) := fun h => (Bool.false_ne_true h).elim
theorem TeiqueWellFormed.certFrame (bytes : List Byte) :
    TeiqueWellFormed.Statement (.certFrame bytes) := fun h => (Bool.false_ne_true h).elim
theorem TeiqueWellFormed.proofFrame (bytes : List Byte) :
    TeiqueWellFormed.Statement (.proofFrame bytes) := fun h => (Bool.false_ne_true h).elim
theorem TeiqueWellFormed.statusFrame (bytes : List Byte) :
    TeiqueWellFormed.Statement (.statusFrame bytes) := fun h => (Bool.false_ne_true h).elim
theorem TeiqueWellFormed.handoverFrame (bytes : List Byte) :
    TeiqueWellFormed.Statement (.handoverFrame bytes) := fun h => (Bool.false_ne_true h).elim
theorem TeiqueWellFormed.detachFrame (bytes : List Byte) :
    TeiqueWellFormed.Statement (.detachFrame bytes) := fun h => (Bool.false_ne_true h).elim
theorem TeiqueWellFormed.serviceFrame (bytes : List Byte) :
    TeiqueWellFormed.Statement (.serviceFrame bytes) := fun h => (Bool.false_ne_true h).elim
theorem TeiqueWellFormed.ackFrame (bytes : List Byte) :
    TeiqueWellFormed.Statement (.ackFrame bytes) := fun h => (Bool.false_ne_true h).elim
theorem TeiqueWellFormed.meridianRetry :
    TeiqueWellFormed.Statement .meridianRetry := fun _ => rfl
theorem TeiqueWellFormed.linkLost :
    TeiqueWellFormed.Statement .linkLost := fun _ => rfl
theorem TeiqueWellFormed.pairingRetry :
    TeiqueWellFormed.Statement .pairingRetry := fun _ => rfl
theorem TeiqueWellFormed.pairingSignatureComplete :
    TeiqueWellFormed.Statement .pairingSignatureComplete := fun _ => rfl
theorem TeiqueWellFormed.pairingTimeout :
    TeiqueWellFormed.Statement .pairingTimeout := fun _ => rfl
theorem TeiqueWellFormed.twinPair (req : Requester) :
    TeiqueWellFormed.Statement (.twinPair req) := fun _ => rfl
theorem TeiqueWellFormed.twinDetach (req : Requester) :
    TeiqueWellFormed.Statement (.twinDetach req) := fun _ => rfl
theorem TeiqueWellFormed.twinRelease (req : Requester) :
    TeiqueWellFormed.Statement (.twinRelease req) := fun _ => rfl
theorem TeiqueWellFormed.handoverAckTimeout :
    TeiqueWellFormed.Statement .handoverAckTimeout := fun _ => rfl
theorem TeiqueWellFormed.roleLineChange (low : Bool) :
    TeiqueWellFormed.Statement (.roleLineChange low) := fun _ => rfl
theorem TeiqueWellFormed.roleTakeover :
    TeiqueWellFormed.Statement .roleTakeover := fun _ => rfl
theorem TeiqueWellFormed.syncEdge :
    TeiqueWellFormed.Statement .syncEdge := fun _ => rfl
theorem TeiqueWellFormed.perturbKeyWrite (req : Requester) (key : BitVec 32) :
    TeiqueWellFormed.Statement (.perturbKeyWrite req key) := fun _ => rfl
theorem TeiqueWellFormed.perturbTimingWrite (req : Requester) (v : BitVec 32) :
    TeiqueWellFormed.Statement (.perturbTimingWrite req v) := fun _ => rfl
theorem TeiqueWellFormed.perturbClear (req : Requester) (unit : BitVec 5) (value : BitVec 24) :
    TeiqueWellFormed.Statement (.perturbClear req unit value) := fun _ => rfl
theorem TeiqueWellFormed.stopOffset (req : Requester) (unit : BitVec 5) (value : BitVec 24) :
    TeiqueWellFormed.Statement (.stopOffset req unit value) := fun _ => rfl
theorem TeiqueWellFormed.drop (req : Requester) (unit : BitVec 5) (value : BitVec 24) :
    TeiqueWellFormed.Statement (.drop req unit value) := fun _ => rfl
theorem TeiqueWellFormed.stall (req : Requester) (unit : BitVec 5) (value : BitVec 24) :
    TeiqueWellFormed.Statement (.stall req unit value) := fun _ => rfl
theorem TeiqueWellFormed.stallExpiry (q : Fin 7) :
    TeiqueWellFormed.Statement (.stallExpiry q) := fun _ => rfl
theorem TeiqueWellFormed.synthDt (req : Requester) (unit : BitVec 5) (value : BitVec 24) :
    TeiqueWellFormed.Statement (.synthDt req unit value) := fun _ => rfl
theorem TeiqueWellFormed.backupResetRelease :
    TeiqueWellFormed.Statement .backupResetRelease := fun _ => rfl
theorem TeiqueWellFormed.traverseTimeTarget (e : Eng) :
    TeiqueWellFormed.Statement (.traverseTimeTarget e) := fun _ => rfl
theorem TeiqueWellFormed.trimCycle :
    TeiqueWellFormed.Statement .trimCycle := fun _ => rfl
theorem TeiqueWellFormed.rejoinWaitPassed :
    TeiqueWellFormed.Statement .rejoinWaitPassed := fun _ => rfl

end Sys2Proof.Laws
end

