-- ==== Sys2Proof/Laws/Words.lean ====
section
/-! SUPPORT. The fields of the formats of Table 14-4 read back from the words that hold them. -/
namespace Sys2Proof

@[simp] theorem formA_op (op : BitVec 6) (d a b : GReg) (fn : BitVec 11) : field (formA op d a b fn) 26 6 = op := by
  apply BitVec.eq_of_getLsbD_eq
  intro i hi
  simp only [field, formA, BitVec.getLsbD_extractLsb', BitVec.getLsbD_append]
  interval_cases i <;> simp

@[simp] theorem formA_d (op : BitVec 6) (d a b : GReg) (fn : BitVec 11) : field (formA op d a b fn) 21 5 = d := by
  apply BitVec.eq_of_getLsbD_eq
  intro i hi
  simp only [field, formA, BitVec.getLsbD_extractLsb', BitVec.getLsbD_append]
  interval_cases i <;> simp

@[simp] theorem formA_a (op : BitVec 6) (d a b : GReg) (fn : BitVec 11) : field (formA op d a b fn) 16 5 = a := by
  apply BitVec.eq_of_getLsbD_eq
  intro i hi
  simp only [field, formA, BitVec.getLsbD_extractLsb', BitVec.getLsbD_append]
  interval_cases i <;> simp

@[simp] theorem formA_b (op : BitVec 6) (d a b : GReg) (fn : BitVec 11) : field (formA op d a b fn) 11 5 = b := by
  apply BitVec.eq_of_getLsbD_eq
  intro i hi
  simp only [field, formA, BitVec.getLsbD_extractLsb', BitVec.getLsbD_append]
  interval_cases i <;> simp

@[simp] theorem formA_fn (op : BitVec 6) (d a b : GReg) (fn : BitVec 11) : field (formA op d a b fn) 0 11 = fn := by
  apply BitVec.eq_of_getLsbD_eq
  intro i hi
  simp only [field, formA, BitVec.getLsbD_extractLsb', BitVec.getLsbD_append]
  interval_cases i <;> simp

@[simp] theorem formI_op (op : BitVec 6) (d a : GReg) (imm : BitVec 16) : field (formI op d a imm) 26 6 = op := by
  apply BitVec.eq_of_getLsbD_eq
  intro i hi
  simp only [field, formI, BitVec.getLsbD_extractLsb', BitVec.getLsbD_append]
  interval_cases i <;> simp

@[simp] theorem formI_d (op : BitVec 6) (d a : GReg) (imm : BitVec 16) : field (formI op d a imm) 21 5 = d := by
  apply BitVec.eq_of_getLsbD_eq
  intro i hi
  simp only [field, formI, BitVec.getLsbD_extractLsb', BitVec.getLsbD_append]
  interval_cases i <;> simp

@[simp] theorem formI_a (op : BitVec 6) (d a : GReg) (imm : BitVec 16) : field (formI op d a imm) 16 5 = a := by
  apply BitVec.eq_of_getLsbD_eq
  intro i hi
  simp only [field, formI, BitVec.getLsbD_extractLsb', BitVec.getLsbD_append]
  interval_cases i <;> simp

@[simp] theorem formI_imm (op : BitVec 6) (d a : GReg) (imm : BitVec 16) : field (formI op d a imm) 0 16 = imm := by
  apply BitVec.eq_of_getLsbD_eq
  intro i hi
  simp only [field, formI, BitVec.getLsbD_extractLsb', BitVec.getLsbD_append]
  interval_cases i <;> simp

@[simp] theorem formM_op (op : BitVec 6) (d a : GReg) (slot mod : BitVec 8) : field (formM op d a slot mod) 26 6 = op := by
  apply BitVec.eq_of_getLsbD_eq
  intro i hi
  simp only [field, formM, BitVec.getLsbD_extractLsb', BitVec.getLsbD_append]
  interval_cases i <;> simp

@[simp] theorem formM_d (op : BitVec 6) (d a : GReg) (slot mod : BitVec 8) : field (formM op d a slot mod) 21 5 = d := by
  apply BitVec.eq_of_getLsbD_eq
  intro i hi
  simp only [field, formM, BitVec.getLsbD_extractLsb', BitVec.getLsbD_append]
  interval_cases i <;> simp

@[simp] theorem formM_a (op : BitVec 6) (d a : GReg) (slot mod : BitVec 8) : field (formM op d a slot mod) 16 5 = a := by
  apply BitVec.eq_of_getLsbD_eq
  intro i hi
  simp only [field, formM, BitVec.getLsbD_extractLsb', BitVec.getLsbD_append]
  interval_cases i <;> simp

@[simp] theorem formM_slot (op : BitVec 6) (d a : GReg) (slot mod : BitVec 8) : field (formM op d a slot mod) 8 8 = slot := by
  apply BitVec.eq_of_getLsbD_eq
  intro i hi
  simp only [field, formM, BitVec.getLsbD_extractLsb', BitVec.getLsbD_append]
  interval_cases i <;> simp

@[simp] theorem formM_mod (op : BitVec 6) (d a : GReg) (slot mod : BitVec 8) : field (formM op d a slot mod) 0 8 = mod := by
  apply BitVec.eq_of_getLsbD_eq
  intro i hi
  simp only [field, formM, BitVec.getLsbD_extractLsb', BitVec.getLsbD_append]
  interval_cases i <;> simp

@[simp] theorem formJ_op (op : BitVec 6) (off : BitVec 26) : field (op ++ off : W32) 26 6 = op := by
  apply BitVec.eq_of_getLsbD_eq
  intro i hi
  simp only [field, BitVec.getLsbD_extractLsb', BitVec.getLsbD_append]
  interval_cases i <;> simp

@[simp] theorem formJ_off (op : BitVec 6) (off : BitVec 26) : field (op ++ off : W32) 0 26 = off := by
  apply BitVec.eq_of_getLsbD_eq
  intro i hi
  simp only [field, BitVec.getLsbD_extractLsb', BitVec.getLsbD_append]
  interval_cases i <;> simp

@[simp] theorem sysFn_idx (k : BitVec 4) (idx : BitVec 7) : field (k ++ idx : BitVec 11) 0 7 = idx := by
  apply BitVec.eq_of_getLsbD_eq
  intro i hi
  simp only [field, BitVec.getLsbD_extractLsb', BitVec.getLsbD_append]
  interval_cases i <;> simp

@[simp] theorem sysFn_k (k : BitVec 4) (idx : BitVec 7) : field (k ++ idx : BitVec 11) 7 4 = k := by
  apply BitVec.eq_of_getLsbD_eq
  intro i hi
  simp only [field, BitVec.getLsbD_extractLsb', BitVec.getLsbD_append]
  interval_cases i <;> simp

end Sys2Proof
end

