-- ==== Sys2Proof/Tests/Slice0.lean ====
section
/-! SUPPORT. The model's own tests: ill-formed commands, words written out from the encodings, and a concrete state that
meets the hypotheses of each statement. -/
namespace Sys2Proof.Tests
open Sys2Proof.Machine

/-! ## Small states -/

/-- A bridge that is up. -/
def linkUp : BridgeSt := { BridgeSt.down with up := true }

/-- Every domain powered and ready on the main rail, no reset held, no fence and every bridge up, in RUN on a locked PLL, every engine running. -/
def awake : State :=
  { State.reset with
    fences := Vector.replicate 38 Fence.clear
    br := ⟨linkUp, linkUp, linkUp, linkUp⟩
    pwr := { Power.reset with en := 0x7F#8, on := 0x7F#8, ready := 0xFF#8, settled := true }
    boot := { Boot.reset with keepReset := false, senseReset := false, driveReset := false, coreReset := false,
                              restored := true, rodsLoaded := true, romMapped := false }
    sys := { SysRegs.reset with state := .vigil }
    clk := { Clock.reset with xrefEn := true, xrefRun := true, x32Run := true, pllEn := true, pllLock := true,
                              refSel := .xref, refUse := .xref, engPll := true, engUse := true }
    eng := ⟨Engine.reset false 0#32, Engine.reset false 0#32, Engine.reset false 0#32, Engine.reset false 0#32,
      Engine.reset false 0#32⟩ }

theorem ready_awake : ∀ e, Ready awake e ∧ Clear awake e := by
  intro e
  cases e <;> exact ⟨⟨rfl, rfl⟩, ⟨rfl, rfl⟩, rfl⟩

/-! ## Hypotheses of the statements about an engine's own instructions -/

/-- S0 with values in its registers. -/
def s0With (a b : W64) : State := (awake.setReg .s0 1#5 a).setReg .s0 2#5 b

theorem witness_AluSumsAndDifferences : Ready (s0With 5#64 7#64) .s0 ∧ (s0With 5#64 7#64).reg .s0 1#5 = 5#64 := by
  simp only [Ready]; and_intros <;> rfl

theorem witness_AluLogicAndShifts : Ready (s0With 5#64 64#64) .s0 := by simp only [Ready]; and_intros <;> rfl

theorem witness_AluComparisonsAndImmediates : Ready (s0With 0#64 (BitVec.allOnes 64)) .k3 := by
  simp only [Ready]; and_intros <;> rfl

theorem witness_MultiplyAndDivide :
    Ready (s0With 9#64 1#64) .s0 ∧ (s0With 9#64 1#64).reg .s0 2#5 ≠ 0#64 ∧ Ready (s0With 9#64 0#64) .s0 ∧
      (s0With 9#64 0#64).reg .s0 2#5 = 0#64 ∧ ((s0With 9#64 0#64).engine .s0).inTrap = false := by
  simp only [Ready]; and_intros <;> first | rfl | decide

theorem witness_FixedPointFunctions :
    Ready (s0With 9#64 1#64) .s0 ∧ (127#11 : BitVec 11).toNat ≤ 127 ∧ (64#11 : BitVec 11).toNat ≤ 64 ∧
      (s0With 9#64 1#64).reg .s0 2#5 ≠ 0#64 ∧ (s0With 9#64 1#64).reg .s0 1#5 ≠ 0#64 ∧
      ((s0With (1#64 <<< 63) 0#64).reg .s0 1#5).toNat = 2 ^ ((s0With (1#64 <<< 63) 0#64).reg .s0 1#5).toNat.log2 ∧
      (s0With 0#64 0#64).reg .s0 1#5 = 0#64 ∧
      32 * 2 ^ 32 ≤ ((s0With (BitVec.ofInt 64 (32 * 2 ^ 32)) 0#64).reg .s0 1#5).toInt ∧
      ((s0With (BitVec.ofInt 64 (-(32 * 2 ^ 32) - 1)) 0#64).reg .s0 1#5).toInt < -(32 * 2 ^ 32) ∧
      ((s0With (BitVec.ofInt 64 (31 * 2 ^ 32)) 0#64).reg .s0 1#5).toInt = (((63 : Fin 64).val : Int) - 32) * 2 ^ 32 := by
  simp only [Ready]; and_intros <;> first | rfl | decide

theorem witness_AccumulatorSaturates : Ready (s0With 3#64 4#64) .k01 := by simp only [Ready]; and_intros <;> rfl

theorem witness_AccumulatorClearedAndRead :
    Ready awake .s1 ∧ 3 ≤ (3#5 : BitVec 5).toNat ∧ (awake.engine .s1).inTrap = false := by
  simp only [Ready]; and_intros <;> decide

theorem witness_BranchesAndJumps : Ready (s0With 3#64 3#64) .s0 := by simp only [Ready]; and_intros <;> rfl

/-- S0 in its trap handler. -/
def inHandler : State := awake.modEngine .s0 fun x => { x with inTrap := true }

/-- DEBUG_EN is set. -/
def debugging : State := { awake with er.debugEn := true }

theorem witness_LoopsTrapsAndReturns :
    Ready (s0With 0xFFFFFFFF#64 0#64) .s0 ∧ (s0With 0xFFFFFFFF#64 0#64).reg .s0 1#5 ≠ 0#64 ∧
      ((s0With 0xFFFFFFFF#64 0#64).reg .s0 1#5).toNat < 2 ^ 32 ∧ (1#16 : BitVec 16) ≠ 0#16 ∧
      lvLen ((s0With 0xFFFFFFFF#64 0#64).engine .s0).inner = 0 ∧ (awake.engine .s0).inTrap = false ∧
      Ready debugging .s0 ∧ debugging.er.debugEn = true ∧ debugging.keys.owner = none ∧ awake.er.debugEn = false ∧
      Ready inHandler .s0 ∧ (inHandler.engine .s0).inTrap = true := by
  simp only [Ready]; and_intros <;> first | rfl | decide

/-! ## Hypotheses of the statements about memory, SYS and the handshake unit -/

/-- An address of the data memory, of the top of the address space, and of the output window for K0-K1. -/
theorem witness_LoadsFromEveryTarget :
    Clear (s0With 0x1FF8#64 0#64) .s0 ∧ (((s0With 0x1FF8#64 0#64).engine .s0).address 1#5 0#16).toNat < dataSize .s0 ∧
      (((s0With 0x1FF8#64 0#64).engine .s0).address 1#5 0#16).toNat % 8 = 0 ∧
      placeOf .s0 0x1FF8 = some (.data 0x1FF8) ∧ mayLoad 8 (.data 0x1FF8) = true ∧ mayLoad 4 (.data 0x1FF8) = true ∧
      Clear (s0With 6#64 0#64) .s0 ∧ (((s0With 6#64 0#64).engine .s0).address 1#5 0#16).toNat % 8 ≠ 0 ∧
      (((s0With 6#64 0#64).engine .s0).address 1#5 0#16).toNat % 4 ≠ 0 ∧
      reaches .s0 (((s0With 0x2000#64 0#64).engine .s0).address 1#5 0#16) (mayLoad 8) = false ∧
      reaches .s0 (((s0With 0x2000#64 0#64).engine .s0).address 1#5 0#16) (mayLoad 4) = false ∧
      ((s0With 0x2000#64 0#64).engine .s0).inTrap = false := by
  simp only [Ready, Clear]; and_intros <;> first | rfl | decide

theorem witness_StoresArePosted :
    Ready ((s0With 0x1FF8#64 7#64).beforeStore .s0 0x1FF8) .s0 ∧ inOutWindow .s0 0x1FF8 = false ∧
      ((s0With 0x1FF8#64 7#64).engine .s0).stores.length < 8 ∧
      reaches .s0 0x1FF8#64 (((s0With 0x1FF8#64 7#64).beforeStore .s0 0x1FF8).mayStore .s0 8) = true ∧
      reaches .s0 0x1FFC#64 (((s0With 0x1FFC#64 7#64).beforeStore .s0 0x1FFC).mayStore .s0 4) = true ∧
      (((s0With 0x1FF8#64 7#64).engine .s0).address 1#5 0#16).toNat % 8 = 0 ∧
      ((s0With 0x1FF8#64 7#64).beforeStore .s0 0x1FF8).issues .s0 = true ∧
      (((s0With 0x1FF9#64 7#64).engine .s0).address 1#5 0#16).toNat % 8 ≠ 0 ∧
      (((s0With 0x1FF9#64 7#64).engine .s0).address 1#5 0#16).toNat % 4 ≠ 0 ∧
      reaches .s0 0x2000#64 (((s0With 0x2000#64 7#64).beforeStore .s0 0x2000).mayStore .s0 8) = false ∧
      reaches .s0 0x2000#64 (((s0With 0x2000#64 7#64).beforeStore .s0 0x2000).mayStore .s0 4) = false := by
  simp only [Ready]; and_intros <;> first | rfl | decide

/-- K0-K1 with one posted store. -/
def posted (t : StoreTarget) : State := awake.modEngine .k01 fun x => { x with stores := [t] }

/-- The same, standing in FENCE. -/
def fencing : State := awake.modEngine .k01 fun x => { x with stores := [.word64 0xFFF8 1#64], wait := some .fence }

theorem witness_StoreReachesItsTarget :
    ((posted (.word64 0xFFF8 1#64)).engine .k01).wait = none ∧ 0xFFF8 < dataSize .k01 ∧
      ((posted (.word64 0xFFF8 1#64)).engine .k01).stores = [.word64 0xFFF8 1#64] ∧
      ((posted (.word32 0xFFFC 1#32)).engine .k01).stores = [.word32 0xFFFC 1#32] ∧
      ((posted (.reg 7#7 5#32)).engine .k01).stores = [.reg 7#7 5#32] ∧
      ((((posted (.reg 7#7 5#32)).modEngine .k01 fun x => { x with stores := [] }).writeReg (.eng .k01) 7 5#32).engine
        .k01).wait = none ∧
      (fencing.engine .k01).wait = some .fence ∧ fencing.hubServes = true ∧
      (awake.engine .k01).wait = none ∧ (awake.engine .k01).stores = [] ∧ awake.clk.gateOpen = awake.clk.gateReg := by
  and_intros <;> first | rfl | decide

/-- SEALED: an owner's key is present. -/
def sealedPart : State := { awake with keys.owner := some 0 }

theorem witness_SystemRegisterAccess :
    Clear awake .k2 ∧ (71#7 : BitVec 7).toNat ≤ 71 ∧ hostOnly 71 = false ∧ awake.sealed = false ∧
      awake.blockVoltage .k2 45#7 ((awake.reg .k2 1#5).setWidth 32) = false ∧ awake.powered 3 = true ∧
      awake.fenced .port = false ∧ (awake.engine .k3).inTrap = false ∧ Clear awake .k3 ∧
      71 < (72#7 : BitVec 7).toNat ∧ hostOnly 36 = true ∧ Clear sealedPart .k2 ∧ sealedPart.sealed = true ∧
      sealedWrite 3 = true := by
  simp only [Ready, Clear]; and_intros <;> first | rfl | decide

theorem witness_FencesBySystem :
    Ready (s0With 21#64 0#64) .s0 ∧ sysCluster ((s0With 21#64 0#64).reg .s0 1#5).toNat = some .aux ∧
      (s0With 21#64 0#64).fenced .aux = false ∧ 22 ≤ ((s0With 22#64 0#64).reg .s0 1#5).toNat ∧
      ((s0With 22#64 0#64).engine .s0).inTrap = false ∧ Ready (s0With 22#64 0#64) .s0 ∧
      ((awake.modFence .aux fun f => { f with parity := true }).fenced .aux) = true := by
  simp only [Ready]; and_intros <;> decide

/-- K2's queue is full, and so is MAILBOX_OUT. -/
def fullQueues : State :=
  { awake.modEngine .k2 fun x => { x with inbox := List.replicate 8 0#64 } with er.mailboxOut := List.replicate 4 0#32 }

theorem nobody_sends (s : State) (h : allEngines.all fun e => (s.engine e).wait == none) :
    ∀ k p q, (s.engine k).wait ≠ some (.sendFull p q) := by
  intro k p q hk
  simp only [allEngines, List.all_cons, List.all_nil, Bool.and_true, Bool.and_eq_true, beq_iff_eq] at h
  cases k <;> simp [h] at hk

theorem witness_HandshakeInstructions :
    Clear awake .s0 ∧ awake.hubServes = true ∧ engOfNum (3#5 : BitVec 5).toNat = some .k2 ∧
      awake.queueHasRoom .k2 = true ∧ (awake.engine .k2).wait = none ∧ Clear fullQueues .s0 ∧
      fullQueues.hubServes = true ∧ fullQueues.queueHasRoom .k2 = false ∧ awake.er.mailboxOut.length < 4 ∧
      4 ≤ fullQueues.er.mailboxOut.length ∧ (awake.engine .s0).sysEvent = false ∧ (awake.engine .s0).inbox = [] ∧
      (fullQueues.engine .k2).inbox = 0#64 :: List.replicate 7 0#64 ∧ Clear fullQueues .k2 ∧
      Clear (awake.modEngine .s0 fun x => { x with sysEvent := true }) .s0 := by
  simp only [Ready, Clear]; and_intros <;> first | rfl | decide

theorem witness_HandshakeInstructions_senders :
    (∀ k p q, (awake.engine k).wait ≠ some (.sendFull p q)) ∧
      ∀ k p q, (fullQueues.engine k).wait ≠ some (.sendFull p q) :=
  ⟨nobody_sends _ rfl, nobody_sends _ rfl⟩

/-- K2 stands in DOZE. -/
def dozing : State := awake.modEngine .k2 fun x => { x with wait := some .doze }

theorem witness_SignalsBetweenEngines :
    Clear awake .s0 ∧ awake.hubServes = true ∧ engOfNum (3#5 : BitVec 5).toNat = some .k2 ∧
      (awake.engine .k2).wait ≠ some .doze ∧ Clear dozing .s0 ∧ (dozing.engine .k2).wait = some .doze ∧
      dozing.hubServes = true ∧ engOfNum (0#5 : BitVec 5).toNat = some .s0 ∧ (3#11 : BitVec 11).toNat < 4 ∧
      (awake.engine .s0).inTrap = false ∧ 4 < (5#5 : BitVec 5).toNat ∧ (5#5 : BitVec 5) ≠ 7#5 ∧ 4 ≤ (4#11 : BitVec 11).toNat := by
  simp only [Ready, Clear]; and_intros <;> first | rfl | decide

/-! ## Hypotheses of the statements about the host, the survey instructions and the lanes -/

/-- All chords are ACTIVE with a valid lane, and a traverse is not running. -/
def surveying : State :=
  { awake with
    chords := Vector.replicate 20 { ChordSt.reset with state := .active }
    lanes := Vector.replicate 22 { LaneSt.reset with valid := true, out := false }
    sv := { Survey.reset with chordEn := BitVec.allOnes 20, chordEnReg := BitVec.allOnes 20 } }

theorem ready_surveying : ∀ e, Clear surveying e := by intro e; cases e <;> exact ⟨⟨rfl, rfl⟩, rfl⟩

theorem witness_HostMailboxAndIncrements :
    awake.hubServes = true ∧ awake.queueHasRoom .k2 = true ∧ (awake.engine .k2).wait = none ∧
      fullQueues.hubServes = true ∧ fullQueues.queueHasRoom .k2 = false ∧ awake.er.mailboxOut = [] ∧
      fullQueues.er.mailboxOut = 0#32 :: List.replicate 3 0#32 ∧ awake.powered 3 = true ∧
      awake.fenced .customer = false ∧ awake.dl.incs = [] ∧ ({ awake with dl.incs := [5#64] } : State).dl.incs = [5#64] := by
  and_intros <;> rfl

theorem witness_HostMailbox :
    ((awake.modEngine .k2 fun x => { x with wait := some (.recv 1#5) }).engine .k2).wait = some (.recv 1#5) ∧
      (1#5 : BitVec 5) ≠ 0#5 ∧ (∀ k, (awake.engine .k2).wait ≠ some (.recv k)) ∧ Clear awake .s0 ∧
      ({ awake with er.mailboxOut := [1#32, 2#32, 3#32] } : State).er.mailboxOut.length < 4 := by
  refine ⟨rfl, by decide, ?_, ⟨⟨rfl, rfl⟩, rfl⟩, by decide⟩
  intro k h
  cases h

/-- S0 is halted by the host and named by PROG_ADDR at the last word of its program memory. -/
def loading : State :=
  { awake.modEngine .s0 fun x => { x with halt := true } with er.progEng := 0#3, er.progAddr := 0x3FFC#17 }

/-- PD2 is off while PD0 is on. -/
def blindCore : State := { awake with pwr.ready := 0x7B#8, pwr.on := 0x7B#8 }

theorem witness_RegisterWritesAndLoader :
    awake.er.stepReq = 0#5 ∧ Reaches awake (awake.mayWriteReg .host 7) 7 awake ∧
      Reaches awake (awake.mayWriteReg .sysPort 3) 3 awake ∧ Reaches awake (awake.mayWriteReg (.eng .k01) 28) 28 awake ∧
      awake.mayWriteReg .sysPort 4 = false ∧ awake.mayWriteReg (.eng .k3) 7 = false ∧
      State.reset.regAnswers 7 = false ∧ (22#7 ≠ 22#7 ∨ awake.powered 2 = true ∨ awake.powered 0 = false) ∧
      71 < (72#7 : BitVec 7).toNat ∧ (71#7 : BitVec 7).toNat ≤ 71 ∧ blindCore.er.stepReq = 0#5 ∧
      blindCore.mayWriteReg .host 22 = true ∧ blindCore.powered 0 = true ∧ blindCore.powered 2 = false ∧
      loading.hubServes = true ∧ engOfNum loading.er.progEng.toNat = some .s0 ∧ loading.sealed = false ∧
      (loading.engine .s0).halt = true ∧ loading.er.progAddr.toNat < progEnd .s0 ∧
      loading.powered (clusterDomain (engCluster .s0)) = true ∧ sealedPart.hubServes = true ∧ sealedPart.sealed = true ∧
      State.reset.hubServes = false ∧ Reaches awake (awake.mayWriteReg .host 34) 34 awake ∧
      awake.haltRefused 1#5 0#5 = false ∧ sealedPart.haltRefused 1#5 0#5 = true ∧ sealedPart.haltRefused 8#5 0#5 = false := by
  simp only [Reaches]; and_intros <;> first | rfl | decide

/-- A register behind a bridge that is down: the transfer is refused. -/
theorem witness_RegisterWritesAndLoader_down :
    let s : State := { awake with br.senseN.up := false }
    s.mayWriteReg .host 33 = true ∧ s.regAnswers 33 = true ∧ s.regCross 33 = (s.bridgeRefuse .senseN, false) :=
  ⟨rfl, rfl, rfl⟩

/-- S0, halted by the host with DEBUG_EN set, at MOVI g1, 5. -/
def stepping : State :=
  { awake.modEngine .s0 fun x => { x with halt := true, prog := x.prog.setWord32 0#8 0 (formI 3#6 1#5 0#5 5#16) }
    with er.debugEn := true }

/-- The same engine at a word that spells no instruction, and one that waits for the boundary. -/
def steppingIllegal : State :=
  { awake.modEngine .s0 fun x => { x with halt := true } with er.debugEn := true }

def steppingWait : State := stepping.modEngine .s0 fun x => { x with wait := some (.atBoundary 1#5) }

theorem witness_StepRunsTheInstruction :
    stepping.mayStep .s0 = true ∧ (stepping.engine .s0).pc.toNat < progEnd .s0 ∧
      (stepping.modEngine .s0 Engine.unhalted).issues .s0 = true ∧
      (stepping.modEngine .s0 Engine.unhalted).fetches .s0 = true ∧
      decodeTeique .s0 (BitVec.ofNat 32 (leNat ((stepping.engine .s0).prog.bytes 0#8 0 4))) = some (.movi .s0 1#5 5#16) ∧
      (∃ u, exec (.movi .s0 1#5 5#16) { stepping.modEngine .s0 Engine.unhalted with freeCtr := 1 } = .next u ∧
        u.boot.coreReset = false ∧ (u.engine .s0).brkHalt = false ∧ (u.engine .s0).dblHalt = false) ∧
      steppingIllegal.mayStep .s0 = true ∧ (steppingIllegal.modEngine .s0 Engine.unhalted).issues .s0 = true ∧
      (steppingIllegal.modEngine .s0 Engine.unhalted).fetches .s0 = true ∧
      decodeTeique .s0 (BitVec.ofNat 32 (leNat ((steppingIllegal.engine .s0).prog.bytes 0#8 0 4))) = none ∧
      steppingWait.mayStep .s0 = true ∧ (steppingWait.modEngine .s0 Engine.unhalted).issues .s0 = false ∧
      awake.mayStep .s0 = false := by
  refine ⟨rfl, by decide, rfl, rfl, by decide, ⟨_, rfl, rfl, rfl, rfl⟩, rfl, rfl, rfl, by decide, rfl, rfl, rfl⟩

/-- PD6 and PD5 are off: the chords of the south half answer nothing. -/
def northOnly : State := { surveying with pwr.ready := 0x5F#8, pwr.on := 0x5F#8 }

theorem witness_ShotCommandsLeave :
    Clear surveying .s0 ∧ surveying.sv.grid = false ∧ inBoot surveying = false ∧ surveying.isAuthority .s0 = true ∧
      surveying.clk.pllLock = true ∧ fireIllegal 0#5 19#8 0#8 = false ∧ fireIllegal 1#5 0xFF#8 2#8 = false ∧
      surveying.fireChords .s0 0#5 19#8 = [19] ∧ surveying.powered (chordDomain 19) = true ∧
      (surveying.br.get (chordBridge 19)).up = true ∧ slotChord 19#8 = some 19 ∧ field (1#8 : BitVec 8) 1 7 = 0#7 ∧
      (northOnly.fireCommands .s0 0#5 1#5 19#8 0#8).length = 1 ∧ northOnly.powered (chordDomain 19) = false ∧
      (northOnly.armCommand .s0 1#5 19#8 0#8).length = 1 ∧ northOnly.armRefusedBy .s0 19#8 = false ∧
      surveying.armRefusedBy .s0 19#8 = false ∧ awake.armRefusedBy .s0 19#8 = true ∧ isSurveyor .s0 = true ∧
      (surveying.engine .s0).inTrap = false ∧ surveying.isAuthority .s1 = false ∧
      ({ surveying with clk.pllLock := false } : State).clk.pllLock = false ∧
      ({ surveying with sv.grid := true, pwr.regHP := false } : State).pwr.regHP = false := by
  simp only [Ready, Clear]; and_intros <;> first | rfl | decide

/-- Grid timing with a capture permitted: HP, 0.95 V and more, the correlator gates open. -/
theorem witness_ShotCommandsLeave_grid :
    let s : State := { surveying with sv.grid := true, pwr.regHP := true, pwr.vset := 2#5, clk.gateOpen := BitVec.allOnes 14 }
    s.pwr.regHP = true ∧ 2 ≤ s.pwr.vset.toNat ∧
      ∀ c : Chord, s.clk.gateOpen.getLsbD (if 10 ≤ c.val then 13 else 12) = true := by
  refine ⟨rfl, by decide, fun c => ?_⟩
  split <;> rfl

/-- S0 with a target in g1, the time base at 100. -/
def timed (target : W64) : State := { surveying.setReg .s0 1#5 target with sv.timeBase := 100 }

/-- The pressure channel 5 is on with a valid word and `n` requests waiting. -/
def asking (on : Bool) (n : Nat) : State :=
  { timed 0#64 with
    aux := { surveying.aux with
      pbEn := if on then 3#2 else 0#2
      cfg := surveying.aux.cfg.set 5 0x4000#64
      pres := { surveying.aux.pres with
        queue := List.replicate n { ch := 5, forced := false, notify := false, fromS1 := false, deferred := false } } } }

theorem witness_TimesAndConversionsAsked :
    Clear (timed 0#64) .s0 ∧ ((timed 0#64).engine .s0).address 1#5 0#16 = 0#64 ∧ (timed 101#64).sv.timeBase < 101 ∧
      ((timed 101#64).engine .s0).address 1#5 0#16 = 101#64 ∧ Clear (timed 101#64) .s0 ∧
      ((timed 100#64).engine .s0).address 1#5 0#16 ≠ 0#64 ∧
      (((timed 100#64).engine .s0).address 1#5 0#16).toNat ≤ (timed 100#64).sv.timeBase ∧ isSurveyor .s0 = true ∧
      (timed 0#64).clk.pllLock = true ∧ ((timed 0#64).engine .s0).sysEvent = false ∧ (timed 0#64).isAuthority .s0 = true ∧
      (timed 0#64).sv.run = false ∧ ({ timed 0#64 with sv.run := true } : State).isAuthority .s0 = true ∧
      (timed 0#64).isAuthority .s1 = false ∧ slotAux 5#8 = some 5 ∧ field (3#8 : BitVec 8) 2 6 = 0#6 ∧
      isSurveyor .k2 = false ∧ ((timed 0#64).engine .k2).inTrap = false := by
  simp only [Ready, Clear]; and_intros <;> first | rfl | decide

theorem witness_TimesAndConversionsAsked_aux :
    Clear (asking true 3) .s0 ∧ (asking true 3).auxAnswers 5 = true ∧ (asking true 3).br.senseN.up = true ∧
      ((asking true 3).aux.enabled 5 && auxWordOk 5 (asking true 3).aux.cfg[5]) = true ∧
      ((asking true 3).aux.isl (islandOf 5)).queue.length < 4 ∧ 4 ≤ ((asking true 4).aux.isl (islandOf 5)).queue.length ∧
      ((asking false 0).aux.enabled 5 && auxWordOk 5 (asking false 0).aux.cfg[5]) = false ∧
      ({ asking true 0 with pwr.ready := 0x6F#8 } : State).auxReached = false ∧
      ({ asking true 0 with clk.gateOpen := 0#14 } : State).auxAnswers 5 = false := by
  simp only [Ready, Clear]; and_intros <;> first | rfl | decide

/-- An entry of chord 3 waits for S0. -/
def withEntry (grid : Bool) : State :=
  { surveying with
    sv := { surveying.sv with
      resS0 := [{ chord := 3, grid := grid, toS1 := false, tc := 0#64, w0 := 0#64, w1 := 0#64, w2 := 0#64, w3 := 0#64 }] } }

/-- The same of an ARM, which listens alone. -/
def listened : State :=
  { surveying with
    sv := { surveying.sv with
      resS0 := [{ chord := 3, grid := false, toS1 := false, tc := 0#64, w0 := 1#64 <<< 47, w1 := 0#64, w2 := 0#64, w3 := 0#64 }] } }

theorem witness_ResultsCollected :
    Clear (withEntry false) .s0 ∧ isSurveyor .s0 = true ∧ (withEntry false).clk.pllLock = true ∧
      (takeEntry (entryMatches false 3#8) ((withEntry false).entriesOf .s0)).isSome = true ∧
      (takeEntry (entryMatches true 0xFF#8) ((withEntry true).entriesOf .s0)).isSome = true ∧
      ((withEntry false).entriesOf .s0).all (fun en => !en.listens) = true ∧
      (withEntry false).sv.traverses = [] ∧ Clear listened .s0 ∧
      (takeEntry (entryMatches false 3#8) (listened.entriesOf .s0)).isSome = true ∧
      (listened.entriesOf .s0).all Entry.listens = true ∧
      takeEntry (entryMatches true 3#8) ((withEntry false).entriesOf .s0) = none ∧
      takeEntry (entryMatches false 3#8) ((withEntry true).entriesOf .s0) = none ∧
      ((withEntry false).engine .s0).sysEvent = false ∧ field (1#8 : BitVec 8) 1 7 = 0#7 ∧ (19#8 : BitVec 8).toNat < 20 ∧
      ((withEntry false).reg .s0 1#5).toNat % 8 = 0 ∧
      (withEntry false).entryBarred .s0 ((withEntry false).reg .s0 1#5) = false ∧ slotChord 19#8 = some 19 ∧
      mayWriteSpan .k01 0 8208 = true ∧ mayWriteSpan .s0 0 4104 = true ∧ surveying.chordAnswers 19 = true ∧
      (surveying.br.get (chordBridge 19)).up = true ∧
      (surveying.modFence (.chord 19) (setSys true)).chordAnswers 19 = false := by
  simp only [Ready, Clear]; and_intros <;> first | rfl | decide

/-- A statistics set of chord 2 with `n` pairs asked for and one fed. -/
def withStat (n : Nat) (done : Bool) : State :=
  (surveying.setReg .s0 1#5 8#64).setStat 2
    (some { n := n, count := 1, starterS1 := false, addr := 64, dn := ⟨5, 25, 5, 5⟩, up := ⟨4, 16, 4, 4⟩, dt := ⟨1, 1, 1, 1⟩,
            firstLane := 2#5, switched := false, grade := 0#2, done := done })

theorem witness_StatisticsKept :
    Clear (withStat 3 false) .s0 ∧ slotChord 2#8 = some 2 ∧ (withStat 3 false).clk.pllLock = true ∧
      ((withStat 3 false).reg .s0 1#5).toNat % 8 = 0 ∧ ((withStat 3 false).reg .s0 1#5).toNat + 96 ≤ dataSize .s0 ∧
      ((withStat 3 false).reg .s0 0#5).toNat % 2 ^ 16 = 0 ∧ ((withStat 3 false).reg .s0 1#5).toNat % 2 ^ 16 ≠ 0 ∧
      (withStat 3 false).stats[2].isSome = true ∧ (withStat 3 false).isAuthority .s0 = true ∧
      (withStat 3 false).stats[2].all (fun st => !st.done && decide (st.count + 1 < st.n)) = true ∧
      (withStat 2 false).stats[2].all (fun st => !st.done && decide (st.n ≤ st.count + 1)) = true ∧
      surveying.stats[2] = none ∧ (withStat 3 false).isAuthority .s1 = false ∧
      (withStat 2 true).stats[2].all (fun st => st.done) = true ∧ Clear (withStat 2 true) .s0 ∧ Clear (withStat 2 false) .s0 := by
  simp only [Ready, Clear]; and_intros <;> first | rfl | decide

theorem witness_LaneOperations :
    Clear surveying .s0 ∧ slotLane 21#8 = some 21 ∧ slotLane 9#8 = some 9 ∧ mayWriteSpan .s0 0 520 = true ∧
      surveying.lanePowered 9 = true ∧ surveying.laneAnswers 9 = true ∧ State.reset.laneAnswers 9 = false ∧ (surveying.br.get (laneBridge 9)).up = true ∧ State.reset.lanePowered 9 = false ∧
      ({ surveying with pwr.ready := 0x4F#8 } : State).lanePowered 9 = false ∧
      Clear ({ surveying with pwr.ready := 0x4F#8 } : State) .k2 ∧ awake.snapRefused 9 = true ∧
      (surveying.lane 9).valid = true ∧ StoreIdle surveying ∧ isSurveyor .s0 = true ∧
      (surveying.engine .s0).sysEvent = false ∧ surveying.calAllRefused .s1 = true ∧
      surveying.calAllRefused .s0 = false ∧ surveying.lanePowered 0 = true ∧ slotChord 19#8 = some 19 ∧
      surveying.assignRefused .s1 19 = true ∧ surveying.assignRefused .s0 19 = false ∧
      surveying.freeRefused .s1 = true ∧ surveying.freeRefused .s0 = false := by
  simp only [Ready, Clear, StoreIdle]; and_intros <;> rfl

/-! ## Hypotheses of the statements about rods, records and the crypto engine -/

/-- K0-K1 with an increment in g1 and a scale in g2. -/
def tallying (i sc : W64) : State := (awake.setReg .k01 1#5 i).setReg .k01 2#5 sc

/-- A delivery runs and follows rod 0, with `n` increments in its queue. -/
def following (n : Nat) : State := { awake with dl.state := .running, dl.incs := List.replicate n 0#64 }

theorem witness_TallyAddsExactly :
    Ready (tallying 5#64 1#64) .k01 ∧ tallies .k01 = true ∧ (11#5 : BitVec 5).toNat < 16 ∧
      (tallying 5#64 1#64).abacusAnswers = true ∧ (tallying 5#64 1#64).pt.unlocked = false ∧
      (tallying 5#64 1#64).st.bp ≠ 3#2 ∧
      tallyRefusal .k01 0 (tallying 5#64 1#64).ab.opened[0] ((tallying 5#64 1#64).reg .k01 1#5)
        ((tallying 5#64 1#64).reg .k01 2#5) = 0 ∧
      tallyRefusal .k01 11 (tallying (BitVec.allOnes 64) 1#64).ab.opened[11] (BitVec.allOnes 64) 1#64 = 0 ∧
      tallyRefusal .k01 0 (tallying 5#64 1#64).ab.shadow[0] 5#64 1#64 = 0 ∧
      ({ tallying 5#64 1#64 with pt.unlocked := true } : State).pt.unlocked = true ∧
      tallyRefusal .k01 0 ((tallying (BitVec.allOnes 64) 1#64).tallyTarget false 0) (BitVec.allOnes 64) 1#64 ≠ 0 ∧
      tallyRefusal .k01 10 ((tallying 5#64 1#64).tallyTarget true 10) 5#64 1#64 ≠ 0 ∧
      ((tallying 5#64 1#64).engine .k01).inTrap = false ∧
      Ready ({ awake with pwr.ready := 0xFB#8 } : State) .k3 ∧
      ({ awake with pwr.ready := 0xFB#8 } : State).abacusAnswers = false ∧ tallies .k3 = true ∧
      ({ awake with sys.state := .boot } : State).abacusAnswers = true ∧ ({ awake with st.bp := 3#2 } : State).st.bp = 3#2 ∧
      Ready ({ awake with st.bp := 3#2 } : State) .k3 ∧ awake.sys.state ≠ .boot ∧
      Ready (following 16) .k01 ∧ (following 16).dl.follows = true ∧ rodOf 0#5 = (following 16).dl.rod ∧
      16 ≤ (following 16).dl.incs.length ∧ (following 15).dl.incs.length < 16 ∧
      tallyRefusal .k01 0 (following 15).ab.opened[0] 0#64 0#64 = 0 := by
  simp only [Ready]; and_intros <;> first | rfl | decide

/-- K3 with a touched rod of its group. -/
def touchedRods : State := { awake with ab.touched := 0x0400#16 }

theorem witness_RodsReadAndCommitted :
    Clear touchedRods .k3 ∧ touchedRods.abacusAnswers = true ∧
      (awake.setReg .k3 1#5 15#64).reg .k3 1#5 = BitVec.ofNat 64 (15 : Rod).val ∧
      (awake.setReg .k3 1#5 0x2F#64).reg .k3 1#5 = BitVec.ofNat 64 (0x20 + (15 : Rod).val) ∧
      Ready (awake.setReg .k3 1#5 15#64) .k3 ∧ touchedRods.ab.frozen = false ∧ touchedRods.ab.touched &&& 0xF400#16 ≠ 0#16 ∧
      StoreIdle touchedRods ∧ awake.ab.touched &&& 0xF400#16 = 0#16 ∧ (awake.engine .s0).inTrap = false ∧
      tallies .s0 = false ∧ Ready awake .s0 ∧ awake.abacusAnswers = true ∧
      (awake.setReg .k3 1#5 0x3F#64).reg .k3 1#5 = BitVec.ofNat 64 (0x30 + (15 : Rod).val) ∧
      (touchedRods.setReg .k3 1#5 0x8A#64).reg .k3 1#5 = BitVec.ofNat 64 (0x80 + (10 : Rod).val) ∧
      (touchedRods.ab.touched &&& groupMask .k3).getLsbD 10 = true ∧
      (awake.setReg .k3 1#5 0x100#64).reg .k3 1#5 = BitVec.ofNat 64 (0x100 + (0 : Rod).val) ∧
      touchedRods.st.bp ≠ 3#2 ∧ ({ touchedRods with st.bp := 3#2 } : State).st.bp = 3#2 ∧
      touchedRods.groupBinds .k3 = false ∧ touchedRods.powered 1 = true := by
  simp only [Ready, Clear, StoreIdle]; and_intros <;> first | rfl | decide

/-- K0-K1 naming a record and a length in g2, its payload at address 8 in g1. -/
def saving (id len : BitVec 16) : State :=
  (awake.setReg .k01 1#5 8#64).setReg .k01 2#5 (((0#32 : BitVec 32) ++ len ++ id))

theorem witness_RecordsSavedAndLoaded :
    Clear (saving 0x10#16 240#16) .k01 ∧ field ((saving 0x10#16 240#16).reg .k01 2#5) 0 16 = 0x10#16 ∧
      (field ((saving 0x10#16 240#16).reg .k01 2#5) 16 16).toNat = 240 ∧
      (saving 0x10#16 240#16).psaveStatus .k01 1#5 0x10 240 = none ∧
      (saving 0x10#16 241#16).psaveStatus .k01 1#5 0x10 241 = some 3 ∧ StoreIdle (saving 0x10#16 240#16) ∧
      mayReadSpan .k01 ((saving 0x10#16 240#16).reg .k01 1#5).toNat 240 = true ∧
      (saving 0x400#16 44#16).psaveStatus .k01 1#5 0x400 44 = none ∧
      (saving 1#16 0#16).psaveStatus .k01 0#5 1 0 = none ∧ ((saving 0x10#16 0#16).reg .k01 1#5).toNat % 8 = 0 ∧
      ((saving 0x10#16 0#16).ploadData 0x10).1.log = (saving 0x10#16 0#16).log ∧
      mayWriteSpan .k01 8 ((saving 0x10#16 0#16).ploadData 0x10).2.2.length = true ∧
      ((saving 0x10#16 0#16).engine .k01).inTrap = false := by
  simp only [Ready, Clear, StoreIdle]; and_intros <;> decide

/-- Slot A of the record 0x10 holds a valid copy of 8 bytes. -/
def recorded : State :=
  { saving 0x10#16 0#16 with st.array := Mem.write 0#8 [] 0x11000 (frameBytes 0x10 1#32 (List.replicate 8 7#8)) }

set_option maxRecDepth 100000 in
theorem witness_RecordsSavedAndLoaded_loaded :
    StoreIdle recorded ∧ (recorded.ploadData 0x10).2.2.length = 8 ∧ (recorded.ploadData 0x10).2.1 = 0#64 ∧
      mayWriteSpan .k01 0xFFF8 8 = true ∧ mayWriteSpan .k01 0xFFFC 8 = false ∧ ((recorded.ploadData 0x10).1.log = recorded.log) := by
  simp only [StoreIdle]; and_intros <;> decide +kernel

/-- An operation of the crypto engine for K2 has ended its work. -/
def crypting (op : CryptOp) : State :=
  { awake with cr.job := some { op := op, eng := .k2, desc := 0xFFF8, dest := 0, status := 1#64, result := [], raised := none } }

theorem witness_HashAndCryptOperations :
    Clear awake .k2 ∧ awake.pwr.regHP = true ∧ 2 ≤ awake.pwr.vset.toNat ∧ awake.clk.gateOpen.getLsbD 0 = true ∧
      mayReadSpan .k2 0 0x10000 = true ∧ mayFillSpan .k2 0xFFC0 64 = true ∧ awake.cryptFree = true ∧ awake.sealed = false ∧
      (crypting .verify).cryptFree = false ∧ Clear (crypting .verify) .k2 ∧ (crypting .verify).cr.job.isSome = true ∧
      (crypting .verify).cr.job.all (fun j => j.op == .verify && j.raised.isNone && j.desc % 8 == 0) = true ∧
      0xFFF8 + 8 ≤ dataSize .k2 ∧ ((crypting .verify).engine .k2).wait ≠ some .doze ∧ awake.cr.job = none ∧
      (crypting .verify).pwr.regHP = true ∧ (crypting .verify).sealed = false ∧ (crypting .verify).tw.pairing = none ∧
      (crypting .verify).clk.gateOpen.getLsbD 0 = true ∧ Clear sealedPart .k2 ∧ sealedPart.sealed = true ∧
      (sealedPart.engine .k2).inTrap = false ∧ sealedPart.clk.gateOpen.getLsbD 0 = true := by
  simp only [Ready, Clear]; and_intros <;> first | rfl | decide

/-! ## Hypotheses of the statements about sleep, supplies, domains and device states -/

/-- SLEEP_LEVEL is set, a wake source enabled, and every engine but S0 stands in WAIT. -/
def falling (level : BitVec 2) : State :=
  { awake with
    eng := ⟨awake.eng.s0, { awake.eng.s1 with wait := some .doze }, { awake.eng.k01 with wait := some .doze },
      { awake.eng.k2 with wait := some .doze }, { awake.eng.k3 with wait := some .doze }⟩
    pwr := { awake.pwr with sleepLevel := level, wakeEn := 0x40#7 } }

/-- The device in a phase of sleep. -/
def sleeping (p : SleepPhase) : State := { falling 1#2 with pwr.sleep := p }

theorem witness_WaitAndSleepLevels :
    Ready (awake.modEngine .s0 fun x => { x with sigEvent := true }) .s0 ∧ Ready awake .s0 ∧
      (awake.engine .s0).sigEvent = false ∧ awake.pwr.sleepLevel = 0#2 ∧ (falling 3#2).pwr.sleepLevel = 3#2 ∧
      Ready (falling 3#2) .s0 ∧ Ready (falling 1#2) .s0 ∧ (falling 1#2).pwr.sleepLevel = 1#2 ∧
      ((falling 1#2).modEngine .s0 fun x => { x with wait := some .doze }).allWait = true ∧
      (falling 1#2).pwr.wakeEn ≠ 0#7 ∧ (falling 1#2).dozeOnly = false ∧
      ((({ awake with pwr.sleepLevel := 2#2 } : State)).modEngine .s0 fun x => { x with wait := some .doze }).allWait = false ∧
      Ready ({ awake with pwr.sleepLevel := 2#2 } : State) .s0 ∧ (sleeping (.entering false)).pwr.sleep = .entering false ∧
      (sleeping (.entering true)).pwr.sleep = .entering true ∧ (sleeping (.exiting false)).pwr.sleep = .exiting false ∧
      (sleeping (.exiting false)).clk.holdOnExit = false ∧ awake.powered 0 = true ∧
      ({ sleeping (.asleep false) with sv.run := true } : State).pwr.wakeEn.getLsbD 6 = true ∧
      ({ sleeping (.asleep false) with sv.run := true } : State).pwr.sleep = .asleep false ∧ awake.sv.run = false := by
  simp only [Ready]; and_intros <;> first | rfl | decide

/-- SLUMBER: no source of it, or nothing that bars it; DOZE during a delivery; a clock failure met on the way out. -/
theorem witness_WaitAndSleepLevels_slumber :
    Ready (falling 2#2) .s0 ∧ (falling 2#2).pwr.sleepLevel = 2#2 ∧
      ((falling 2#2).modEngine .s0 fun x => { x with wait := some .doze }).allWait = true ∧
      (falling 2#2).dozeOnly = false ∧ (falling 2#2).pwr.wakeEn &&& 0x57#7 ≠ 0#7 ∧ (falling 2#2).storeOpen = false ∧
      (falling 2#2).st.bp ≠ 3#2 ∧ (allEngines.all fun k => !((falling 2#2).engine k).loaded) = true ∧
      ({ falling 2#2 with pwr.wakeEn := 0x08#7 } : State).pwr.wakeEn &&& 0x57#7 = 0#7 ∧
      ({ falling 2#2 with dl.state := .running } : State).dozeOnly = true ∧
      ({ falling 2#2 with pwr.wakeEn := 0#7 } : State).pwr.wakeEn = 0#7 ∧
      ({ sleeping (.exiting true) with clk.holdOnExit := true } : State).clk.holdOnExit = true ∧
      (sleeping (.exiting true)).pwr.sleep = .exiting true ∧ (sleeping (.exiting true)).clk.holdOnExit = false ∧
      (sleeping .awake).pwr.sleep = .awake := by
  simp only [Ready]; and_intros <;> first | rfl | decide

theorem witness_SupplyEvents :
    awake.boot.backupReset = false ∧ awake.pwr.source ≠ .none ∧ selectSource awake.pwr.pathBat false true ≠ .none ∧
      selectSource awake.pwr.pathBat false false = .none ∧ ({ awake with boot.backupReset := true } : State).boot.backupReset = true ∧
      ({ awake with pwr.source := .none } : State).pwr.source = .none ∧
      ({ awake with pwr.source := .none } : State).boot.pinLow = false ∧ awake.boot.ftest = false ∧
      ({ awake with pwr.source := .none, boot.pinLow := true } : State).boot.pinLow = true ∧
      awake.st.pfw = false ∧ awake.powered 0 = true ∧ awake.pwr.pfail = false ∧ awake.powered 1 = true ∧ StoreIdle awake ∧
      ({ awake with pwr.pfail := true } : State).pwr.pfail = true ∧ awake.powered 3 = true ∧
      ({ awake with dl.state := .running, sv.run := true } : State).dl.state = .running ∧
      ({ awake with st.pfw := true } : State).st.pfw = true ∧
      State.reset.powered 1 = false ∧ awake.pwr.vinOk = true ∧ awake.pwr.vinFell = false ∧
      ({ awake with pwr.vinFell := true, pwr.wakeEn := 0x10#7 } : State).pwr.wakeEn.getLsbD 4 = true := by
  simp only [StoreIdle]; and_intros <;> first | rfl | decide

/-- A change of PD7 is in progress. -/
def changing (up : Bool) : State := { awake with pwr.change := some ⟨7, up⟩ }

/-- A QSIGN holds the regulator raised. -/
def raisedRail : State :=
  { awake with
    cr.job := some { op := .qsign, eng := .k2, desc := 0, dest := 0, status := 0#64, result := [], raised := some (false, 4#5) } }

theorem witness_RegulatorAndDomains :
    Reaches awake (awake.mayWriteReg .host 11) 11 awake ∧ Reaches awake (awake.mayWriteReg .host 9) 9 awake ∧
      awake.regulatorHeld = false ∧ raisedRail.regulatorHeld = true ∧ field (0x32#32 : W32) 0 5 ≠ awake.pwr.vset ∧
      (0x32#32 : W32).getLsbD 5 = awake.pwr.regHP ∧ awake.voltageOk (field (0x32#32 : W32) 0 5) = true ∧
      (0x33#32 : W32).getLsbD 5 = awake.pwr.regHP ∧ awake.voltageOk (field (0x33#32 : W32) 0 5) = false ∧
      field (4#32 : W32) 0 5 = awake.pwr.vset ∧ (4#32 : W32).getLsbD 5 ≠ awake.pwr.regHP ∧
      (changing false).pwr.change.isSome = true ∧ awake.pwr.change = none ∧ awake.pwr.changes = [] ∧
      (changing false).pwr.change = some ⟨7, false⟩ ∧ (changing false).pwr.changes = [] ∧
      (changing true).pwr.change = some ⟨7, true⟩ ∧ (changing true).boot.coreReset = false ∧
      awake.pwr.change ≠ some ⟨7, false⟩ ∧ awake.pwr.change ≠ some ⟨7, true⟩ := by
  simp only [Reaches]; and_intros <;> first | rfl | decide

theorem witness_DeviceStatesRequested :
    Reaches awake (awake.mayWriteReg .host 2) 2 awake ∧ Reaches awake (awake.mayWriteReg .host 5) 5 awake ∧ awake.stateRefused .line = false ∧ ({ awake with clk.pllLock := false } : State).stateRefused .line = true ∧
      ({ awake with sys.state := .hold } : State).stateRefused .vigil = false ∧
      ({ awake with sys.state := .hold } : State).sys.state = .hold ∧ awake.sys.state ≠ .hold ∧
      State.reset.powered 3 = false := by
  simp only [Reaches]; and_intros <;> first | rfl | decide

/-! ## Hypotheses of the statements about clocks, bridges, fences and resets -/

/-- XREF and XHF both run, XHF is selected and in use. -/
def onCrystal : State :=
  { awake with clk := { awake.clk with xhfEn := true, xhfRun := true, refSel := .xhf, refUse := .xhf, xrefEn := false,
                                       ovenFitted := true } }

/-- A store of S0 into bank 2 of common SRAM waits while the gate of that bank is asked to close. -/
def gateAsked : State :=
  { awake.modEngine .s0 fun x => { x with stores := [.word64 0x120000 0#64] } with clk.gateReg := 0#14 }

/-- The boot ROM waits for XHF. -/
def romWaits : State :=
  { onCrystal with boot := { onCrystal.boot with romMapped := true, attempt := some .slotA, romXhf := false } }

theorem witness_ClocksSelectedAndGated :
    awake.powered 0 = true ∧ awake.powered 4 = true ∧ awake.clk.xrefEn = true ∧ onCrystal.clk.xhfEn = true ∧
      onCrystal.boot.romMapped = false ∧ romWaits.clk.xhfEn = true ∧ romWaits.boot.attempt.isSome = true ∧
      romWaits.boot.romXhf = false ∧ romWaits.boot.coreReset = false ∧
      Reaches onCrystal (onCrystal.mayWriteReg .host 16) 16 onCrystal ∧
      Reaches onCrystal (onCrystal.mayWriteReg .host 18) 18 onCrystal ∧
      Reaches onCrystal (onCrystal.mayWriteReg .host 19) 19 onCrystal ∧ onCrystal.clk.ovenFitted = true ∧
      awake.clk.ovenFitted = false ∧ onCrystal.clk.refBusy = false ∧ onCrystal.clk.engBusy = false ∧
      field (0x2A#32 : W32) 3 2 = 1#2 ∧ (0x2A#32 : W32).getLsbD 0 = false ∧
      (0x2A#32 : W32).getLsbD 5 = onCrystal.clk.engPll ∧ (0x0A#32 : W32).getLsbD 5 ≠ onCrystal.clk.engPll ∧
      clocksOk false onCrystal.clk.kdiv onCrystal.clk.sdiv onCrystal.pwr.vset = true ∧ clocksOk true 8#7 10#7 0#5 = false ∧
      State.reset.clk.engPll = false ∧ awake.pllActive = true ∧ awake.clk.refBusy = false ∧
      awake.clk.running awake.clk.refUse = true ∧
      ({ awake with clk.refBusy := true, clk.engBusy := true } : State).clk.refBusy = true ∧
      ({ awake with clk.refBusy := true, clk.engBusy := true } : State).clk.engBusy = true ∧ awake.clk.engUse = true ∧
      awake.vcoRuns = true ∧ ({ awake with clk.pllStopped := true } : State).vcoRuns = false ∧
      State.reset.clk.engUse = false := by
  simp only [Reaches]; and_intros <;> first | rfl | decide

theorem witness_ClocksSelectedAndGated_forced :
    ∃ k : Fin 14, gateAsked.powered 3 = true ∧ gateAsked.clk.gateReg.getLsbD k.val = false ∧
      gateAsked.clk.gateOpen.getLsbD k.val = true ∧ gateAsked.gatePending k.val = true := by
  refine ⟨9, ?_⟩
  and_intros <;> decide

/-- HOLD on a locked PLL with its qualification met. -/
def holding : State :=
  { awake with sys := { awake.sys with state := .hold, left := .vigil }, clk := { awake.clk with qualMet := true } }

/-- The oven source is fitted and warm, and XHF runs. -/
def warmOven : State :=
  { awake with clk := { awake.clk with ovenFitted := true, ovnrdy := true, ovenWarm := true, xhfEn := true, xhfRun := true } }

theorem witness_OvenDeviationAndHold :
    warmOven.clk.ovnrdy = true ∧ warmOven.clk.ovenFitted = true ∧ warmOven.clk.xrefRun = true ∧
      warmOven.clk.xrefFail = false ∧ warmOven.gradeNow = .ovenWarm ∧ awake.gradeNow ≠ .ovenWarm ∧ awake.powered 4 = true ∧
      warmOven.clk.xhfRun = true ∧ holding.sys.state = .hold ∧ holding.clk.pllLock = true ∧ holding.clk.refUse = .xref ∧
      holding.clk.running .xref = true ∧ holding.clk.autoRelease = false ∧ holding.clk.qualMet = true ∧
      ({ holding with clk.autoRelease := true } : State).clk.autoRelease = true ∧
      Reaches holding (holding.mayWriteReg .host 21) 21 holding ∧ awake.clk.qualMet = false ∧ awake.sys.state ≠ .hold ∧
      ({ holding with clk.refUse := .ring, clk.ringFail := true } : State).clk.ringFail = true ∧
      ({ holding with clk.pllLock := false } : State).clk.autoFallback = true ∧
      ({ holding with clk.pllLock := false } : State).clk.pllLock = false ∧
      holding.clk.fellBack = false ∧ holding.clk.refBusy = false := by
  simp only [Reaches]; and_intros <;> first | rfl | decide

/-- Counts of XHF in a window: one in range, and one on each side of it. -/
theorem witness_OvenDeviationAndHold_counts :
    (-32768 * 2 ^ 30 ≤ ((50 * 21474837 : Int) - 2 ^ 30) * 10000000 ∧
        ((50 * 21474837 : Int) - 2 ^ 30) * 10000000 ≤ 32767 * 2 ^ 30) ∧
      ((50 * 0 : Int) - 2 ^ 30) * 10000000 < -32768 * 2 ^ 30 ∧
      32767 * 2 ^ 30 < ((50 * 22000000 : Int) - 2 ^ 30) * 10000000 := by
  decide

theorem witness_ClockFailuresLeadToHold :
    awake.powered 4 = true ∧ awake.clocksRun = true ∧ awake.clk.pllEn = true ∧ awake.clk.pllLock = true ∧
      awake.pllActive = true ∧ ({ awake with clk.relocking := true } : State).clk.relocking = true ∧
      awake.clk.ringFail = false ∧ onCrystal.clk.refUse = .xhf ∧ onCrystal.clk.xhfEn = true ∧ onCrystal.clk.pllEn = true ∧
      onCrystal.clocksRun = true ∧ (111 < 112 ∨ 144 < 111) ∧ (145 < 112 ∨ 144 < 145) ∧ awake.clk.refUse = .xref ∧
      awake.clk.xrefEn = true ∧ (139 < 140 ∨ 180 < 139) ∧ (181 < 140 ∨ 180 < 181) ∧
      ({ awake with clk.xhfEn := true } : State).clk.refUse ≠ .xhf ∧ onCrystal.clk.refUse ≠ .xref ∧
      awake.clk.xhfFail = false ∧ awake.powered 3 = true ∧ awake.clk.x32Fail = false ∧ (375 < 376 ∨ 483 < 375) ∧
      (484 < 376 ∨ 483 < 484) ∧ (70312 < 70313 ∨ 85938 < 70312) ∧ awake.clk.refUse ≠ .ring ∧
      ({ awake with clk.refUse := .ring } : State).clk.pllEn = true ∧
      ({ awake with clk.x32Fail := true } : State).clk.x32Fail = true ∧ State.reset.pllActive = false := by
  and_intros <;> first | rfl | decide

/-- The Keep bridge is up; `rep` says whether its transfer has been repeated. -/
def linked (rep : Bool) : State := { awake with br := awake.br.set .keep { BridgeSt.down with up := true, repeated := rep } }

/-- The link of the Keep bridge is down. -/
def unlinked : State := { awake with br := awake.br.set .keep BridgeSt.down }

theorem witness_BridgeTransfers :
    (linked false).powered (bridgeDomain .keep) = true ∧ ((linked false).br.get .keep).up = true ∧
      (linked false).powered 3 = true ∧ (linked false).clocksRun = true ∧ ((linked false).br.get .keep).repeated = false ∧
      ((linked true).br.get .keep).up = true ∧ ((linked true).br.get .keep).repeated = true ∧
      ({ linked false with pwr.sleep := .asleep false } : State).clocksRun = false ∧
      (linked false).sv.inTransit = [] ∧ (linked false).fenced .bridge = false ∧ (unlinked.br.get .keep).up = false ∧
      unlinked.fenced .bridge = false ∧ unlinked.powered 3 = true ∧ unlinked.powered (bridgeDomain .keep) = true ∧
      (unlinked.modFence .bridge (setSys true)).fenced .bridge = true ∧ State.reset.powered (bridgeDomain .keep) = false ∧
      unlinked.boot.coreReset = false ∧ unlinked.dieReset (bridgeDie .keep) = false := by
  and_intros <;> rfl

/-- K0-K1 and S0 run under their watchdogs. -/
def guarded : State :=
  { awake with eng := { awake.eng with s0 := { awake.eng.s0 with wdEn := true }, k01 := { awake.eng.k01 with wdEn := true } } }

theorem witness_FencesByFaults :
    awake.powered 2 = true ∧ awake.fenced .metrology = false ∧ (guarded.engine .k01).wdEn = true ∧
      (guarded.engine .k01).halt = false ∧ (guarded.engine .k01).brkHalt = false ∧ (guarded.engine .k01).wait ≠ some .doze ∧
      ({ awake with boot.fenceReset := true } : State).boot.fenceReset = true ∧ awake.boot.fenceReset = false ∧
      guarded.powered (clusterDomain (engCluster .s0)) = true ∧ (guarded.engine .s0).wdEn = true ∧
      (guarded.engine .s0).halt = false ∧ (guarded.engine .s0).brkHalt = false ∧ (guarded.engine .s0).wait ≠ some .doze ∧
      (awake.engine .s0).wdEn = false ∧ awake.powered (clusterDomain (.chord 19)) = true ∧
      clusterEngines (.chord 19) = [] ∧ Cluster.chord 19 ≠ .bridge ∧ awake.powered 3 = true ∧
      awake.powered (clusterDomain .service) = true ∧ clusterEngines .service ≠ [] ∧ Cluster.service ≠ .metrology := by
  and_intros <;> first | rfl | decide

theorem witness_ResetsOfTheDevice :
    awake.powered 2 = true ∧ awake.boot.rodsLoaded = true ∧ awake.ab.frozen = false ∧ awake.st.bp ≠ 3#2 ∧
      awake.st.bpWait = false ∧ isPort .host = true ∧ isPort .sysPort = true ∧ isPort (.eng .k2) = false ∧
      Clear awake .k2 ∧ Ready awake .k3 ∧ (awake.engine .k3).inTrap = false ∧ awake.boot.pinLow = false ∧
      ({ awake with boot.pinLow := true } : State).boot.pinLow = true ∧ awake.boot.backupReset = false ∧
      awake.pwr.source ≠ .none ∧ ({ awake with boot.pinLow := true, pwr.source := .none } : State).pwr.source = .none ∧
      awake.pwr.on &&& 0xFE#8 ≠ 0#8 ∧ State.reset.pwr.on &&& 0xFE#8 = 0#8 ∧
      ({ awake with boot.backupReset := true } : State).boot.backupReset = true ∧
      Reaches awake (awake.mayWriteReg .host 6) 6 awake := by
  simp only [Ready, Clear, Reaches]; and_intros <;> first | rfl | decide

/-! ## Hypotheses of the statements about shots -/

/-- A drive profile of 8 cycles with 2 anti-phase cycles and a clamp, a receive entry, a gain word and a window. -/
def chordWords : WMap :=
  [(0x00, 500#64 + 8#64 <<< 20 + 2#64 <<< 26 + 10#64 <<< 30 + 1#64 <<< 38),
   (0x40, 100#64 + 2#64 <<< 8 + 1#64 <<< 39), (0x48, 100#64 + 2#64 <<< 8 + 1#64 <<< 39), (0x50, 1#64 <<< 22),
   (0x60, 4000#64 <<< 16), (0x68, 8000#64 <<< 16), (0x70, 4000#64 <<< 16), (0x78, 8000#64 <<< 16)]

/-- The survey with chord 3 configured. -/
def configured : State := surveying.modChord 3 fun ch => { ch with live := chordWords }

/-- A FIRE of chord 3 for a target. -/
def fireAt (target : Nat) : ShotCmd :=
  { chord := 3, up := false, listen := false, group := none, target := target, fromS1 := false, marks := 0#38, tc := 0#64 }

/-- That command on its way to the island. -/
def sent (target : Nat) : State := { configured with sv.inTransit := [fireAt target] }

/-- A shot of chord 3 that its island has accepted. -/
def shot : Shot := configured.latchShot (fireAt 80)

theorem witness_ShotsAcceptedAndFired_arrival :
    (sent 80).clocksRun = true ∧ configured.sv.inTransit = [] ∧
      ({ sent 80 with pwr.sleep := .asleep false } : State).clocksRun = false ∧
      (sent 80).sv.inTransit = [] ++ fireAt 80 :: [] ∧ (fireAt 80).chord = 3 ∧ (fireAt 80).marks = 0#38 ∧
      ({ awake with sv.inTransit := [fireAt 80] } : State).chord 3 = ChordSt.reset ∧ ((sent 80).chord 3).state ≠ .off ∧
      (sent 80).shotBlocked 3 = false ∧ (fireAt 79).target < (sent 79).sv.timeBase + 80 ∧
      (sent 80).isLate ((sent 80).latchShot (fireAt 80)) = false ∧
      (sent 80).refusalMarks ((sent 80).latchShot (fireAt 80)) = 0#38 ∧
      ({ surveying with sv.inTransit := [fireAt 80] } : State).isLate (surveying.latchShot (fireAt 80)) = false ∧
      ({ surveying with sv.inTransit := [fireAt 80] } : State).refusalMarks (surveying.latchShot (fireAt 80)) ≠ 0#38 := by
  and_intros <;> first | rfl | decide

/-- Chord 3 with a waiting shot, and with a shot in progress in a port state. -/
def primed : State := configured.modChord 3 fun ch => { ch with waiting := [shot] }
def firing (p : PortState) (sh : Shot) : State :=
  configured.modChord 3 fun ch => { ch with portA := p, portB := .listen, cur := some sh }

/-- A shot whose window is open, with a stop stamped `n` lane periods ago, or none. -/
def open' (tp : Option (BitVec 40)) : Shot := { shot with fired := true, winOpen := true, tripAt := some 0#24, counted := [0#24, 0#24], tp := tp, tpRaw := tp }

theorem witness_ShotsAcceptedAndFired_edge :
    (primed.chord 3).waiting = [shot] ∧ shot.cmd.chord = 3 ∧
      ({ primed with clk.damp := true } : State).shotBlocked 3 = true ∧ primed.shotBlocked 3 = false ∧
      (primed.chord 3).state ≠ .off ∧ shot.cmd.listen = false ∧ (primed.chord 3).shorted = false ∧
      ((primed.modChord 3 fun ch => { ch with shorted := true }).chord 3).shorted = true ∧
      (primed.chord 3).cur = none ∧ primed.aux.deferred = [] ∧ primed.hasDeferred 3 = false ∧
      ((primed.modChord 3 fun ch => { ch with cur := some shot }).chord 3).cur = some shot ∧
      ({ primed with aux.blankEn := true, aux.blankActive := true } : State).aux.blankActive = true ∧
      primed.aux.blankActive = false ∧ (configured.chord 3).waiting = [] := by
  and_intros <;> first | rfl | decide

theorem witness_ShotsAcceptedAndFired_ports :
    ((firing .drive shot).chord 3).cur = some shot ∧ ((firing .drive shot).chord 3).firingPort false = .drive ∧
      dpAnti shot.drive ≠ 0 ∧ dpClamp shot.drive ≠ 0 ∧ dpAnti (0#64) = 0 ∧ dpClamp (0#64) = 0 ∧
      ((firing .anti shot).chord 3).firingPort false = .anti ∧ ((firing .clamp shot).chord 3).firingPort false = .clamp ∧
      shot.winOpen = false ∧ (open' none).winOpen = true ∧ ((firing .clamp (open' none)).chord 3).cur = some (open' none) ∧
      (configured.chord 3).cur = none := by
  and_intros <;> first | rfl | decide

/-- A shot of chord 3 past its mute, its listening port in LISTEN, at a count of its lane. -/
def heard (sh : Shot) (count : BitVec 24) : State :=
  (firing .released { sh with muted := false }).modLane sh.lane fun l => { l with coarse := count }

theorem witness_ShotsTimedAndEntered_window :
    ((heard shot 0#24).chord 3).cur = some { shot with muted := false } ∧ shot.cmd.chord = 3 ∧ shot.winOpen = false ∧
      shot.grid = false ∧ (open' none).winOpen = true ∧ (open' none).tripAt ≠ none ∧ (open' none).cdiv = false ∧
      (heard (open' none) 0#24).blankedNow 3 { open' none with muted := false } = false ∧
      (heard { open' none with tripAt := none } 0#24).blankedNow 3 { open' none with tripAt := none, muted := false } = false ∧
      (firing .released shot).blankedNow 3 { shot with muted := true } = true ∧ rxThresh shot.rx < 250 ∧
      (open' none).tp = none ∧ ({ open' none with counted := [0#24] } : Shot).counted.length < rxZc shot.rx ∧
      rxZc shot.rx ≤ (open' none).counted.length ∧ rxFalling shot.rx = false ∧ (configured.chord 3).cur = none ∧
      (configured.chord 3).correlating = [] := by
  and_intros <;> first | rfl | decide

/-- The first divider edge lies inside the window in grid timing, at its first tick, or before it. -/
theorem witness_ShotsTimedAndEntered_grid :
    let l := (heard { shot with grid := true } 4000#24).lane shot.lane
    let g := l.stamp 0#24 0#8 + (heard shot 4000#24).stopOffset shot.lane - shot.ts
    shot.wOpen ≤ g ∧ g < shot.wClose ∧ ({ shot with wOpen := g + 1#40 } : Shot).wOpen = g + 1#40 ∧ g < g + 1#40 := by
  decide +kernel

/-- A stop one lane period before its span, at its first tick, at its last, and after it. -/
theorem witness_ShotsTimedAndEntered_bounds :
    let d := fun (n : BitVec 24) => (((heard (open' none) n).lane shot.lane).stamp 0#24 0#8 - shot.ts).toNat
    d 3999#24 < (open' none).wOpen.toNat ∧ (open' none).wOpen.toNat ≤ d 4000#24 ∧ d 4000#24 < (open' none).wClose.toNat ∧
      d 7999#24 < (open' none).wClose.toNat ∧ (open' none).wClose.toNat ≤ d 8000#24 ∧
      ({ open' none with cdiv := true, pred := 1#64 <<< 40 + 1#64 <<< 39 } : Shot).wOpen.toNat <
        predTicks (1#64 <<< 40 + 1#64 <<< 39) - 2 * dpHalf shot.drive * 65536 := by
  decide +kernel

/-- In grid timing the capture of an open window has ended, and chord 3 correlates it. -/
def gridShot (cap : CapPhase) (tp : Option (BitVec 40)) (res : Option (W64 × W64)) : Shot :=
  { open' tp with grid := true, cap := cap, res := res }
def correlating (sh : Shot) : State := configured.modChord 3 fun ch => { ch with correlating := [sh] }

theorem witness_ShotsTimedAndEntered_entries :
    ({ firing .released (open' none) with aux.clampHold := true, aux.clamp := 1#27 <<< 10 } : State).clampsArmed = true ∧
      (10 : Fin 27).val = 7 + (3 : Chord).val ∧ (firing .released (open' none)).powered 4 = true ∧
      (firing .released (open' none)).powered 5 = true ∧ (firing .released (open' none)).lr.step = none ∧
      ({ firing .released (open' none) with sv.boostStopped := true } : State).sv.boostStopped = true ∧
      configured.sv.boostStopped = false ∧ (open' none).cap ≠ .open ∧ (open' (some 5#40)).tp = some 5#40 ∧
      ((firing .released (gridShot .none none none)).chord 3).cur = some (gridShot .none none none) ∧
      ((firing .released (gridShot .open (some 5#40) none)).chord 3).cur = some (gridShot .open (some 5#40) none) ∧
      ((firing .released (gridShot .done (some 5#40) (some (0#64, 0#64)))).chord 3).correlating = [] ∧
      (gridShot .done (some 5#40) none).cap = .done ∧
      ((correlating (gridShot .done (some 5#40) none)).chord 3).correlating = [gridShot .done (some 5#40) none] ∧
      ((correlating (gridShot .open (some 5#40) none)).chord 3).correlating = [gridShot .open (some 5#40) none] ∧
      (correlating (gridShot .open (some 5#40) none)).lr.step = none := by
  and_intros <;> first | rfl | decide

/-! ## Hypotheses of the statements about the survey's boundaries and the lanes -/

/-- The survey runs, chord 19 in a state, enabled before and after the boundary or not. -/
def running (before after : Bool) (st : ChordState) : State :=
  { surveying.modChord 19 fun ch => { ch with state := st, probCount := 7#4, seedAt := some 0#48, lastAccept := some 0#48 }
    with sv := { surveying.sv with run := true, chordEn := bit 20 before <<< 19, chordEnReg := bit 20 after <<< 19 } }

/-- A traverse of that survey, with nothing owed. -/
def openTrav : Traverse := { (running true true .active).newTraverse with fired := true }

/-- The survey with that traverse still open. -/
def withTraverse : State := { running true true .active with sv.traverses := [openTrav] }

theorem witness_SurveyBoundaries :
    (running true true .active).sv.run = true ∧ (running true true .active).powered 2 = true ∧
      (running true false .active).sv.chordEnReg.getLsbD (19 : Chord).val = false ∧
      (running true false .active).sv.chordEn.getLsbD (19 : Chord).val = true ∧
      (running false true .off).sv.chordEnReg.getLsbD (19 : Chord).val = true ∧
      (running false true .off).sv.chordEn.getLsbD (19 : Chord).val = false ∧
      (running true true .active).pt.lockPending = false ∧
      ({ running true true .active with pt.lockPending := true } : State).pt.lockPending = true ∧
      (running true true .active).sv.chordEnReg ≠ 0#20 ∧ (running true true .active).sv.traverses = [] ∧
      withTraverse.sv.traverses = [openTrav] ∧ openTrav.owed = 0 ∧ withTraverse.sys.state ≠ .hold ∧ withTraverse.clk.pllLock = true ∧
      ({ withTraverse with sys.state := .hold } : State).sys.state = .hold ∧
      ((running false false .off).chord 19).state = .off ∧ ((running true true .held).chord 19).state = .held ∧
      ((running true true .failed).chord 19).state = .failed ∧ ((running true true .probation).chord 19).state = .probation ∧
      (openTrav.cfg[(0 : Chord)]).enabled = false ∧ ({ openTrav with late := true } : Traverse).late = true ∧
      (openTrav.pairs[(19 : Chord)]).complete false false = none ∧
      ({ running true true .active with pwr.ready := 0xFB#8 } : State).powered 2 = false ∧ awake.sv.run = false ∧
      awake.powered 0 = true ∧ awake.fenced .survey = false ∧ awake.mayWriteReg .host 22 = true ∧
      awake.mayWriteReg .sysPort 22 = false ∧ State.reset.powered 2 = false ∧
      ((awake.modEngine .s0 fun x => { x with wait := some (.atTarget 1#5 5) }).engine .s0).wait =
        some (.atTarget 1#5 5) ∧ (awake.engine .s0).wait = none := by
  and_intros <;> first | rfl | decide

/-- Lane 0 is being calibrated, as a rotation step or alone. -/
def calibrating (step : Option RotStep) : State :=
  { surveying.modLane 0 fun x => { x with calibrating := true, logH := 1 } with lr.step := step }

/-- Two hits in the first bins, or in the last. -/
def fewHits (last : Bool) : List Nat := (if last then 0 else 2) :: List.replicate 254 0 ++ [if last then 2 else 0]

/-- The rotation has just visited a lane, and L20 is free or covers a chord. -/
def visitedLane (l : Lane) (spare : BitVec 5) : State :=
  { surveying with lr := { surveying.lr with lastVisited := some l, spareFor := spare }, aux.rtdEn := 1#4 }

theorem witness_LanesRotatedAndResultsDelivered :
    surveying.lr.rotEn = true ∧ surveying.powered 4 = true ∧ (calibrating (some ⟨0, .due, [], false⟩)).lr.step.isSome = true ∧
      surveying.lr.step = none ∧ surveying.nextStepLane = some 0 ∧ surveying.lr.spareFor = 31#5 ∧
      (surveying.lane L20).usable = true ∧ ({ surveying with lr.rotEn := false } : State).lr.rotEn = false ∧
      (visitedLane 0 5#5).nextStepLane = some 1 ∧ (visitedLane 0 5#5).spareBusy 1 = true ∧
      (visitedLane 0 5#5).calibrationExceedsHold = false ∧
      ({ visitedLane 0 5#5 with lr.holdCal := true } : State).lr.holdCal = true ∧ (visitedLane 0 5#5).lr.holdCal = false ∧
      (visitedLane 19 31#5).nextStepLane = some L20 ∧ (visitedLane L20 31#5).nextStepLane = some L21 ∧
      (visitedLane L20 31#5).aux.res.cur = none ∧ surveying.nextStepLane ≠ none ∧ ({ surveying with lanes := Vector.replicate 22 { LaneSt.reset with dead := true } } : State).nextStepLane = none := by
  and_intros <;> first | rfl | decide

theorem witness_LanesRotatedAndResultsDelivered_calibrations :
    ((calibrating none).lane 0).calibrating = true ∧ (calibrating none).lanePowered 0 = true ∧
      (calibrating (some ⟨0, .calibrating, [], false⟩)).lr.step = some ⟨0, .calibrating, [], false⟩ ∧ (0 : Lane) ≠ L21 ∧
      (calibrating (some ⟨0, .calibrating, [], false⟩)).lr.stepWaiting = false ∧
      ((calibrating (some ⟨1, .due, [], false⟩)).lr.step.any fun st => st.lane == 0) = false ∧
      ((surveying.modLane L21 fun x => { x with calibrating := true, logH := 1 }).lane L21).calibrating = true ∧
      surveying.lanePowered L21 = true ∧
      (surveying.lane 0).calibrating = false ∧ State.reset.lanePowered 0 = false := by
  and_intros <;> first | rfl | decide

set_option maxRecDepth 8000 in
theorem witness_LanesRotatedAndResultsDelivered_histograms :
    histogramOk ((calibrating none).lane 0).logH (fewHits false) = true ∧
      sanityFails ((calibrating none).lane 0).logH (fewHits false) = false ∧
      histogramOk ((calibrating none).lane 0).logH (fewHits true) = true ∧
      sanityFails ((calibrating none).lane 0).logH (fewHits true) = true := by
  and_intros <;> decide

/-- An entry waits in the Sense North queue. -/
def entryWaits : State :=
  { surveying with
    sv := { surveying.sv with
      queueN := [{ chord := 3, grid := false, toS1 := false, tc := 0#64, w0 := 0#64, w1 := 0#64, w2 := 0#64, w3 := 0#64 }] } }

theorem witness_LanesRotatedAndResultsDelivered_entries :
    (∃ en, entryWaits.sv.queueN = [en] ∧ en.toS1 = false) ∧ (entryWaits.engine .s0).wait = none ∧
      (∀ c : Chord, decide (10 ≤ c.val) = false → (entryWaits.chord c).unsent = []) ∧ entryWaits.powered 4 = true ∧
      entryWaits.powered 2 = true ∧ entryWaits.clocksRun = true ∧ entryWaits.fenced (senseCtl false) = false ∧
      entryWaits.fenced .survey = false ∧ entryWaits.pt.stalled[(0 : Fin 7)] = false ∧
      (entryWaits.br.get .senseN).up = true ∧ surveying.sv.queueN = [] ∧ State.reset.powered 4 = false ∧
      entryWaits.powered 6 = true ∧ entryWaits.pwr.driveOt = false ∧
      ({ entryWaits with dl.state := .running } : State).dl.state = .running ∧
      ({ entryWaits with pwr.driveOt := true } : State).pwr.driveOt = true ∧ State.reset.powered 6 = false ∧
      Reaches entryWaits (entryWaits.mayWriteReg .host 8) 8 entryWaits := by
  refine ⟨⟨_, rfl, rfl⟩, rfl, ?_, ?_⟩
  · decide
  · simp only [Reaches]; and_intros <;> first | rfl | decide

/-! ## Hypotheses of the statements about BLANK and the auxiliary front end -/

/-- BLANK is enabled; `level` and `active` say how it stands, `n` how many episodes have begun. -/
def blanking (level active : Bool) (n : Nat) : State :=
  { configured with aux := { configured.aux with blankEn := true, blankLevel := level, blankActive := active, blankCount := n } }

/-- A deferred shot of chord 3 whose release has come, at a time base. -/
def deferredAt (t : Nat) : State :=
  { configured.modChord 3 fun ch => { ch with waiting := [shot] } with
    aux := { configured.aux with deferred := [{ target := 80, members := [3] }] }
    sv := { configured.sv with timeBase := t } }

theorem witness_BlankEpisodes :
    (blanking false false 0).aux.blankEn = true ∧ (blanking false false 0).powered 4 = true ∧
      (blanking false false 0).aux.blankLevel = false ∧ (blanking false false 0).aux.blankIgnored = false ∧
      ({ blanking false false 0 with aux.blankIgnored := true } : State).aux.blankIgnored = true ∧
      (blanking false false 63).aux.blankCount < 64 ∧ 64 ≤ (blanking false false 64).aux.blankCount ∧
      (blanking false false 64).aux.chattered = false ∧ (blanking false false 0).aux.blankAux = true ∧
      awake.aux.blankEn = false ∧ (blanking true true 1).aux.blankLevel = true ∧ (blanking true true 1).aux.blankActive = true ∧
      awake.sv.run = false ∧ (running true true .active).sv.run = true ∧
      (deferredAt 0).aux.deferred = [{ target := 80, members := [3] }] ∧ (deferredAt 0).aux.blankActive = false ∧
      ([3] : List Chord).Nodup ∧ ([3] : List Chord)[0]? = some 3 ∧ ((deferredAt 0).chord 3).waiting = [shot] ∧
      shot.cmd.chord = 3 ∧ (deferredAt 0).shotBlocked 3 = false ∧
      (deferredAt 0).sv.timeBase + ceilPeriods shot.wClose ≤ (deferredAt 0).slotPeriods ∧ (deferredAt 0).dropped shot = false ∧
      (deferredAt 8000000).slotPeriods < (deferredAt 8000000).sv.timeBase + ceilPeriods shot.wClose ∧ shot.fired = false ∧
      awake.powered 4 = true ∧ ({ awake with sys.state := .service } : State).sys.state = .service ∧
      awake.sys.state ≠ .service ∧ ({ awake with aux.selfTest := true } : State).aux.selfTest = true ∧
      (blanking false false 0).pwr.vioLow = false ∧
      ({ blanking false false 64 with aux.chattered := true } : State).aux.chattered = true ∧
      (deferredAt 0).sys.state ≠ .hold ∧ ((deferredAt 0).chord 3).state ≠ .off ∧
      ({ deferredAt 0 with clk.damp := true } : State).shotBlocked 3 = true ∧
      Reaches awake (awake.mayWriteReg .host 30) 30 awake := by
  simp only [Reaches]; and_intros <;> first | rfl | decide

theorem witness_BlankEpisodes_members :
    ∀ m ∈ ([3] : List Chord), ∀ x xs, ((deferredAt 0).chord m).waiting = x :: xs → x.cmd.chord = m ∧
      (deferredAt 0).sv.timeBase + ceilPeriods x.wClose ≤ (deferredAt 0).slotPeriods := by
  intro m hm x xs h
  have hm : m = 3 := by simpa using hm
  subst hm
  have hw : ((deferredAt 0).chord 3).waiting = [shot] := rfl
  rw [hw] at h
  cases h
  exact ⟨rfl, by decide⟩

/-- A request, and a conversion of a channel with phases to run. -/
def auxReq (ch : Fin 6) (forced : Bool) : AuxReq :=
  { ch := ch, forced := forced, notify := true, fromS1 := false, deferred := false }
def auxConv (ch : Fin 6) (ps : List AuxPhase) : AuxConv :=
  { req := auxReq ch false, phases := ps, zeroT := 1, refT := 9, elemT := 5, leadT := 0, marks := 0#10 }

/-- The islands with a queue or a conversion each. -/
def islands (res pres : AuxIsl) : State := { surveying with aux := { surveying.aux with res := res, pres := pres } }

/-- A partner of the other polarity with the same word, ten seconds old, and a conversion of channel 3 that ends. -/
def partner : AuxPartner := ⟨1, 9, 5, 0, true, 0#64, 0#48, 0#10⟩
def paired (age : BitVec 48) : State :=
  { islands ⟨[], some (auxConv 3 []), none, none⟩ AuxIsl.reset with
    aux.partner := surveying.aux.partner.set 3 (some partner), rtc := { surveying.rtc with elapsed := age } }

theorem witness_AuxiliaryConversions_partner :
    (paired 327680#48).aux.res.cur = some (auxConv 3 []) ∧ (paired 327680#48).islandRuns .res = true ∧
      (paired 327680#48).aux.partner[(3 : Fin 4)] = some partner ∧ partner.pol ≠ (paired 327680#48).aux.pol[(3 : Fin 4)] ∧
      partner.cfg = (paired 327680#48).aux.cfg[(3 : Fin 6)] ∧
      ((paired 327680#48).rtc.elapsed - partner.tDone).toNat ≤ 327680 ∧
      ¬((paired 327681#48).rtc.elapsed - partner.tDone).toNat ≤ 327680 ∧
      partner.marks &&& (amUnsettled ||| amClampHit ||| amOverRange ||| amOpenWire) = 0#10 ∧
      (auxConv 3 []).req.ch.val = (3 : Fin 4).val ∧ (surveying.modLane L21 fun x => { x with calibrating := true }).islandRuns .res
        = true ∧ (awake.lane L21).out = true ∧ awake.islandRuns .res = true ∧
      ({ surveying with aux.clampHold := true } : State).clampsArmed = true ∧ surveying.powered 4 = true ∧
      (6 : Fin 27).val < 7 ∧ State.reset.powered 4 = false ∧
      ({ paired 0#48 with pwr.ready := 0x6F#8 } : State).islandRuns .res = false := by
  and_intros <;> first | rfl | decide

theorem witness_AuxiliaryConversions :
    ((islands ⟨[auxReq 3 true], none, none, none⟩ AuxIsl.reset).aux.isl .res).queue = [auxReq 3 true] ∧
      ((islands AuxIsl.reset ⟨[auxReq 5 false], none, none, none⟩).aux.isl .pres).queue = [auxReq 5 false] ∧
      surveying.islandRuns .res = true ∧ surveying.islandRuns .pres = true ∧ surveying.aux.blankActive = false ∧
      ({ surveying with aux.blankActive := true } : State).aux.blankAux = true ∧ (surveying.lane L21).out = false ∧
      (surveying.lane L21).valid = true ∧ (surveying.lane L21).calibrating = false ∧ (awake.lane L21).out = true ∧
      (awake.lane L21).calibrating = false ∧
      (islands ⟨[], some (auxConv 0 [.lead]), none, none⟩ AuxIsl.reset).aux.res.cur = some (auxConv 0 [.lead]) ∧
      (islands ⟨[], some (auxConv 0 [.lead]), none, none⟩ AuxIsl.reset).aux.res.settling = none ∧
      (islands ⟨[], some (auxConv 0 [.lead]), some 0, none⟩ AuxIsl.reset).aux.res.settling ≠ none ∧
      (auxConv 0 [.lead]).req.forced = false ∧ (auxConv 3 []).phases = [] ∧
      (auxConv 3 []).req.ch.val = (3 : Fin 4).val ∧ surveying.aux.cfgHeld[(3 : Fin 6)] = none ∧
      surveying.aux.partner[(3 : Fin 4)] = none ∧
      partnerOk ⟨1, 9, 5, 0, true, 0#64, 0#48, 0#10⟩ false 0#64 327680#48 = true ∧
      partnerOk ⟨1, 9, 5, 0, true, 0#64, 0#48, 0#10⟩ false 0#64 327681#48 = false ∧ 9 + 9 = 16 + (1 + 1) * 2 ^ rcRep 0#64 ∧
      (islands AuxIsl.reset ⟨[], some (auxConv 5 []), none, none⟩).aux.pres.cur = some (auxConv 5 []) ∧
      (islands AuxIsl.reset ⟨[], some (auxConv 5 []), none, none⟩).aux.pres.settling = none := by
  and_intros <;> first | rfl | decide

/-! ## Hypotheses of the statements about the store, boot and update sessions -/

/-- A request in flight with its one page left. -/
def writingPage (k : StoreKind) (bytes : List Byte) : State :=
  { awake with st := { awake.st with flight := some { kind := k, payload := [], pages := some [(0xC00, bytes)], early := false } } }

/-- The event log's staging queue is full. -/
def logFull : State :=
  { awake with
    log := { awake.log with
      staged := List.replicate 16 { data := 0#32, secs := 0#34, subsec := 0#15, code := 0x200#12, source := 2#3 } } }

/-- The same with a second page at an address to follow. -/
def writingTwo (a : Nat) : State :=
  { awake with
    st := { awake.st with
      flight := some { kind := .raw, payload := [], pages := some [(0xC00, [1#8]), (a, [2#8])], early := false } } }

/-- Engines that wait for a page of theirs. -/
def saved (k : StoreKind) : State := (writingPage k [1#8]).modEngine .k01 fun x => { x with wait := some (.psave 1#5) }
def snapped : State := (writingPage (.snapshot .s0 3) [1#8]).modEngine .s0 fun x => { x with wait := some (.snapWrite 1#5) }
def journalled : State := writingPage (.journal { jseq := 1, byK3 := false, changes := [], fig := none }) [1#8]

theorem witness_StoreAndEventLog_pages :
    awake.powered 1 = true ∧ StoreIdle awake ∧ State.reset.powered 1 = false ∧ (writingPage .raw [1#8]).st.flight.isSome = true ∧
      (writingPage .raw [1#8]).st.flight.all (fun r => r.kind == .raw && r.pages == some [(0xC00, [1#8])]) = true ∧
      (writingTwo 0xC01).st.flight.all (fun r => r.pages == some [(0xC00, [1#8]), (0xC01, [2#8])]) = true ∧
      (writingTwo 0xC01).st.pfw = false ∧ pageProtected (writingTwo 0xC01).st.bp 0xC01 = false ∧
      (writingPage (.record 1#16 .host) [1#8]).st.flight.all (fun r => r.kind == .record 1#16 .host) = true ∧
      (saved (.record 0x10#16 (.engine .k01))).st.flight.all (fun r => r.kind == .record 0x10#16 (.engine .k01)) = true ∧
      ((saved (.interval .k01)).engine .k01).wait = some (.psave 1#5) ∧ (0x10#16 : BitVec 16) ≠ 0x20#16 ∧
      (snapped.engine .s0).wait = some (.snapWrite 1#5) ∧
      snapped.st.flight.all (fun r => r.kind == .snapshot .s0 3) = true ∧
      (writingPage (.rodRecord false) []).st.flight.all (fun r => r.kind == .rodRecord false && r.pages == some [(0xC00, [])]) =
        true ∧
      journalled.st.flight.isSome = true ∧ journalled.ab.sinceRecord < 63 ∧
      (writingPage .raw [1#8]).st.waiting = [] ∧ (writingPage .raw [1#8]).log.staged = [] ∧
      (writingPage .raw [1#8]).st.bpWait = false := by
  simp only [StoreIdle]; and_intros <;> first | rfl | decide

theorem witness_StoreAndEventLog_reached :
    ∀ idx ∈ [6, 40, 42, 44], Reaches awake (awake.mayWriteReg .host idx) idx awake := by
  simp only [Reaches, List.forall_mem_cons, List.not_mem_nil, false_implies, implies_true, and_true]
  and_intros <;> rfl

theorem witness_StoreAndEventLog_reading :
    awake.regAnswers 44 = true ∧ State.reset.regAnswers 44 = false ∧ (({ awake with readOut := 0#64 }).regCross 44).2 = true ∧
      (({ unlinked with readOut := 0#64 }).regCross 44).2 = false ∧ unlinked.regAnswers 44 = true ∧
      ({ awake with st.codeSpace := true } : State).st.codeSpace = true ∧ awake.st.codeSpace = false ∧
      storeAbacus 0xFFFFF = false ∧ (writingPage .raw [1#8]).keepCut = false ∧ isPort .host = true ∧
      Reaches awake (awake.mayWriteReg (.eng .k01) 40) 40 awake := by
  simp only [Reaches]; and_intros <;> first | rfl | decide

theorem witness_StoreAndEventLog_commands :
    awake.powered 2 = true ∧ awake.boot.rodsLoaded = true ∧ awake.ab.frozen = false ∧ awake.powered 3 = true ∧
      State.reset.boot.rodsLoaded = false ∧ sealedPart.sealed = true ∧ awake.sys.state = .vigil ∧ awake.sealed = false ∧
      (2#2 : BitVec 2) ≠ 3#2 ∧ ({ awake with sys.state := .service } : State).bp11Refused = false ∧
      StoreIdle ({ awake with sys.state := .service } : State) ∧ awake.st.rawBusy = false ∧ awake.st.hostSave = false ∧
      awake.st.codeSpace = false ∧ 0xFFFFC + 4 ≤ 0x100000 ∧
      (∀ k, k < 4 → storeAbacus (({ awake with st.addr := 0xFFFFC#23 } : State).st.addr.toNat + k) = false) ∧
      ({ awake with st.addr := 0xC00#23 } : State).rawWritable 0xC00 = true ∧ awake.rawWritable 0xBFC = false ∧
      storeReserved 0x33000 = true ∧ storeAbacus 0x7FF = true ∧ ({ awake with st.rawBusy := true } : State).st.rawBusy = true := by
  simp only [StoreIdle]; and_intros <;> first | rfl | decide

theorem witness_StoreAndEventLog_entries :
    codeAllowed .k01 0x7FF = true ∧ codeAllowed .k3 0x800 = true ∧ awake.log.staged.length < 16 ∧
      ((0x7FF#12 : BitVec 12).toNat ≠ 0x10A ∧ (0x7FF#12 : BitVec 12).toNat ≠ 0x10B) ∧ logFull.powered 1 = true ∧
      16 ≤ logFull.log.staged.length ∧ (0x10B#12 : BitVec 12).toNat = 0x10B ∧ awake.powered 3 = true ∧
      codeAllowed .k3 0x7FF = false ∧ codeAllowed .k01 0x800 = false := by
  and_intros <;> first | rfl | decide

/-- A session of the host, its kind, state and job. -/
def session (kind : BitVec 2) (st : UpdState) (job : Option UpdJob) : State :=
  { awake with upd := { awake.upd with owner := 1#2, kind := kind, state := st, job := job, noCell := true } }

/-- The boot pointer names a trial. -/
def onTrial : State :=
  { awake with st := awake.st.putRecord 4 { BootPtr.absent with trial := true }.payload, boot.running := some .slotB }

theorem witness_BootAndUpdateSessions_boot :
    ({ awake with pwr.ready := 0x8F#8, boot.restored := false, sys.state := .boot } : State).powered 1 = true ∧
      ({ awake with pwr.ready := 0x8F#8, boot.restored := false, sys.state := .boot } : State).powered 6 = false ∧
      awake.boot.restored = true ∧ ({ awake with boot.attempt := some .recovery } : State).boot.attempt = some .recovery ∧
      ({ awake with boot.attempt := some .slotA } : State).boot.attempt = some .slotA ∧
      .recovery ∉ awake.boot.failed ∧ awake.imageVerdict (slotOf .slotA) ≠ 0#5 ∧ awake.imageVerdict (slotOf .recovery) ≠ 0#5 ∧
      awake.st.bootPtr.confA = false ∧ awake.st.bootPtr.confB = false ∧ awake.boot.attempt = none := by
  and_intros <;> first | rfl | decide

/-- An image of 256 bytes whose one segment is empty. -/
def image : List Byte :=
  leBytes 4 0x4D495855 ++ leBytes 2 1 ++ leBytes 2 1 ++ leBytes 4 256 ++ leBytes 4 0x2040 ++ List.replicate 12 0#8 ++
    leBytes 4 1 ++ List.replicate 32 0#8 ++ leBytes 4 0 ++ leBytes 4 256 ++ List.replicate 184 0#8

/-- Its encoding by R481, with a salt of zeros. -/
def imageCode : Nat :=
  0x6b314f2b193b2df91f79f5ae6eb47cf1999d0e02f7e8c56934021d93aa1ef2b150c5d19aaca5bb0f5aeafca687171435e126a51a4aabd3882ac03a6a1634effbb9afd96b8e2efe037f809d8ebf7f898adce43e6620b8529ace630e0a503fa8edb8566629aee41a5de6329352eafd5b0172a182513bc327ca978c10c5e40eb4a8b7f8badec94ac4f49ea93ffbd74a5dbff48c0cfc4e57423e4443757b7818dc9a5d4b06435917d5f0d9fd4021c87b500f7d920c333aa6c7c20d868625e9a4a8f222f511774c7b08d13a95eb57095a3472aea76008094a1c5eec9af98dc7fb67856136c79b1d8949b822e537ad1de3b11ba198bb4a7a42a3569c15bc5a7d9146cf0ab6d6bb76d4fbecd780edf3194ef5bdf802bea13447b6c96410a6110516b8d87ed6bb52618c5fe22855a6648e0c65fe56085ca8ec972aa247fc036e9df8eaf95982c6f4cf5e7274859ea614ddb26fdca7b089796727cb4ea698a765803155f8e7df67791f6d790cc59690d746291c0753a0965895a13ded66fb0d6d9e2c717d16cb6530cd5ed31b7225beff4da7e964e1c5e16a48f5f659923346228e876f9e4f37255b18c9bc4304fabf512eee336ca1d433b0ba61182d6cd6895886769a91297cf4af2ac1ca0df7176a1229194a247dd15ea1f583499127ccbe15d5f290bbd88787b2a0f0ea9f17c1e4bf721dfc1d8bcac30d20b6a77367e6b7acbf45b3bc

/-- The code store with the image and its signature in slot A. -/
def imageFlash : Mem := Mem.write 0xFF#8 [] 0 (image ++ beBytes 512 imageCode)

/-- Slot A holds the image, signed under the modulus one above its encoding, and BOOT verifies it. -/
def booting : State :=
  { awake with
    st := { awake.st with code := imageFlash }
    keys := { awake.keys with v0 := { state := .valid, key := .loaded (imageCode + 1) } }
    boot := { awake.boot with attempt := some .slotA } }

theorem bytes_add (d : Byte) (m : Mem) (n k : Nat) :
    ∀ a, m.bytes d a (n + k) = m.bytes d a n ++ m.bytes d (a + n) k := by
  induction n with
  | zero => intro a; simp [Mem.bytes]
  | succ n ih => intro a; rw [Nat.succ_add_eq_add_succ, Nat.add_succ]; simp only [Mem.bytes, List.cons_append, ih, Nat.add_succ, Nat.succ_add]

theorem bytes_length (d : Byte) (m : Mem) (n : Nat) : ∀ a, (m.bytes d a n).length = n := by
  induction n with
  | zero => intro a; rfl
  | succ n ih => intro a; simp [Mem.bytes, ih]

theorem image_length : image.length = 256 := by decide +kernel

theorem imageCode_length : (beBytes 512 imageCode).length = 512 := by decide +kernel

theorem image_stored : booting.st.imageBytes 0 0 256 = image ∧ booting.st.imageBytes 0 256 512 = beBytes 512 imageCode := by
  have e : (image ++ beBytes 512 imageCode).length = 256 + 512 := by rw [List.length_append, image_length, imageCode_length]
  have h : Mem.bytes 0xFF#8 booting.st.code 0 (image ++ beBytes 512 imageCode).length = image ++ beBytes 512 imageCode := by
    rw [show booting.st.code = imageFlash from by dsimp only [booting], imageFlash]
    exact Mem.bytes_write ..
  rw [e, bytes_add] at h
  have l : (Mem.bytes 0xFF#8 booting.st.code 0 256).length = image.length := by rw [bytes_length, image_length]
  have r := List.append_inj h l
  exact ⟨by rw [Store.imageBytes]; exact r.1, by rw [Store.imageBytes]; exact r.2⟩

theorem image_header : headerOk image 0 = true ∧ leAt image 8 4 = 256 ∧ leAt image 0x10 4 = 0 ∧ leAt image 0x18 1 = 0 := by
  decide +kernel

/-- The signature verifies: the image of R485, in kernel arithmetic alone. -/
theorem image_signed : pssVerify (imageCode + 1) (sha512 image) (beBytes 512 imageCode) = true := by decide +kernel

theorem witness_BootAndUpdateSessions_image :
    booting.boot.attempt = some .slotA ∧ booting.imageVerdict (slotOf .slotA) = 0#5 := by
  refine ⟨rfl, ?_⟩
  have h := image_stored
  have g := image_header
  have v : booting.keys.vendor 0 = some (imageCode + 1) := rfl
  have z : booting.st.bootPtr.minVersion.toNat = 0 := by decide +kernel
  simp only [State.imageVerdict, slotOf, z, h.1, h.2, g.1, g.2.1, g.2.2.1, g.2.2.2, v, image_signed, Nat.not_lt_zero, Bool.not_true,
    Bool.false_eq_true, if_false, if_true]

theorem witness_BootAndUpdateSessions_reached :
    Reaches awake (awake.mayWriteReg .host 45) 45 awake ∧ Reaches awake (awake.mayWriteReg (.eng .k2) 45) 45 awake ∧
      Reaches awake (awake.mayWriteReg .host 49) 49 awake ∧ Reaches awake (awake.mayWriteReg (.eng .k2) 49) 49 awake ∧
      updOwner (.eng .s0) 1#2 = none ∧ (session 0#2 .downloading (some .block)).upd.job.isSome = true ∧
      (session 0#2 .opened none).upd.owner = 1#2 := by
  simp only [Reaches]; and_intros <;> first | rfl | decide

theorem witness_BootAndUpdateSessions_sessions :
    awake.powered 1 = true ∧ awake.upd.job = none ∧ updOwner .host 0#2 = some 1#2 ∧ updOwner (.eng .k2) 2#2 = some 3#2 ∧
      awake.upd.owner = 0#2 ∧ awake.upd.state = .idle ∧ awake.sealed = false ∧
      ({ awake with sv.run := true } : State).flowMoves = true ∧ awake.flowMoves = false ∧ awake.supplyLow = true ∧
      ({ awake with upd.noCell := true } : State).supplyLow = false ∧ awake.keys.updLock = false ∧
      (session 0#2 .opened none).upd.owner ≠ 0#2 ∧ (session 0#2 .opened none).upd.owner ≠ 2#2 ∧
      (1#10 : BitVec 10).toNat ≠ (session 0#2 .opened none).upd.nextBlock ∧
      (session 0#2 .downloaded none).upd.state = .downloaded ∧ (session 0#2 .downloaded none).railOk 2 = true ∧
      ({ session 0#2 .downloaded none with pwr.vset := 1#5 } : State).railOk 2 = false ∧
      (session 0#2 .verified none).updRefusal 0#2 = none ∧ (session 2#2 .verified none).updRefusal 2#2 = none ∧
      (session 0#2 .verified none).st.bp ≠ 3#2 ∧ (session 2#2 .opened none).upd.kind = 2#2 := by
  and_intros <;> first | rfl | decide

/-- The CRC of an empty block, as the transfer announces it. -/
def announced : W32 := crc32 (Mem.bytes 0#8 [] 0 4096)

/-- A session in which an empty block `n` of some kind has been transferred. -/
def transferred (kind : BitVec 2) (n : Nat) : State :=
  { session kind .opened none with
    upd := { (session kind .opened none).upd with check := announced, nextBlock := n, slot := 1#2 }, pwr.vset := 6#5 }

theorem blockRefusal_none (s : State) (n : Nat) (h : s.upd.check = crc32 (s.upd.buffer.bytes 0#8 0 4096))
    (hn : n = s.upd.nextBlock) (hl : s.upd.len = none)
    (hk : s.upd.kind = 2#2 ∨ n ≠ 0 ∧ s.railOk 6 = true ∧ s.flashRefused = false) : s.blockRefusal n = none := by
  rcases hk with hk | ⟨h1, h2, h3⟩
  · simp [State.blockRefusal, ← h, hn, hl, hk]
  · subst hn
    simp [State.blockRefusal, ← h, hl, h1, h2, h3]

theorem witness_BootAndUpdateSessions_blocks :
    (transferred 2#2 0).blockRefusal 0 = none ∧ (transferred 0#2 1).blockRefusal 1 = none ∧
      (transferred 0#2 1).upd.kind ≠ 2#2 ∧ (transferred 2#2 0).upd.kind = 2#2 ∧ (transferred 2#2 0).upd.state = .opened :=
  ⟨blockRefusal_none _ _ rfl rfl rfl (.inl rfl), blockRefusal_none _ _ rfl rfl rfl (.inr ⟨by decide, rfl, by decide +kernel⟩), by decide,
    rfl, rfl⟩

theorem witness_BootAndUpdateSessions_apply :
    (session 2#2 .verified none).applyRefusal (readSet ((session 2#2 .verified none).upd.buffer.bytes 0#8 0 4096)) = none := by
  decide +kernel

theorem witness_BootAndUpdateSessions_jobs :
    (session 0#2 .downloading (some .block)).upd.job = some .block ∧ (session 0#2 .downloading (some .block)).st.bp ≠ 3#2 ∧
      (session 0#2 .downloading none).upd.job ≠ some .block ∧ (session 2#2 .verifying (some .verify)).upd.job = some .verify ∧
      (session 2#2 .verifying (some .verify)).cr.job = none ∧ (session 0#2 .verifying (some .verify)).upd.kind ≠ 2#2 ∧
      awake.upd.owner = 0#2 ∧ onTrial.powered 1 = true ∧ onTrial.boot.running = some .slotB ∧ awake.powered 3 = true ∧
      isPort .sysPort = true ∧ awake.upd.qBusy = false ∧ ({ awake with upd.qBusy := true } : State).upd.qBusy = true ∧
      (awake.engine .k2).wait = none := by
  and_intros <;> first | rfl | decide

set_option maxRecDepth 100000 in
theorem witness_BootAndUpdateSessions_trial : onTrial.st.bootPtr.trial = true ∧ awake.st.bootPtr.trial = false := by
  constructor <;> decide +kernel

/-! ## Hypotheses of the statements about the calendar, the backup registers and the panel -/

/-- The last second of the calendar, and one before a month's end, with an alarm that matches every second. -/
def atSecond (t : CalTime) : State :=
  { awake with rtc := { awake.rtc with cal := t, alarm0 := { Alarm.reset with arm := true, mask := 0x3F#6 } } }

/-- A staging set, and COMMIT. -/
def committing (t : CalTime) : State :=
  { awake with rtc := { awake.rtc with staged := t, commit := true, alarm1 := { Alarm.reset with arm := true, mask := 0x3F#6 } } }

theorem witness_CalendarAlarmsAndBackup :
    (atSecond ⟨59#6, 59#6, 23#5, 31#5, 12#4, 199#8⟩).calendarOk ∧ (atSecond ⟨59#6, 59#6, 23#5, 28#5, 2#4, 100#8⟩).calendarOk ∧
      ((atSecond ⟨59#6, 59#6, 23#5, 31#5, 12#4, 199#8⟩).rtc.alarm false).arm = true ∧
      ((atSecond ⟨59#6, 59#6, 23#5, 31#5, 12#4, 199#8⟩).rtc.alarm false).matches CalTime.reset = true ∧
      (committing ⟨0#6, 0#6, 0#5, 29#5, 2#4, 0#8⟩).rtc.commit = true ∧
      calOk (committing ⟨0#6, 0#6, 0#5, 29#5, 2#4, 0#8⟩).rtc.staged = true ∧
      calOk (committing ⟨0#6, 0#6, 0#5, 29#5, 2#4, 100#8⟩).rtc.staged = false ∧ awake.rtc.commit = false ∧
      awake.rtc.alarm0.arm = false ∧ awake.rtc.alarm1.arm = false ∧ awake.rtc.trimNow.toInt ≤ 0 ∧
      ({ awake with rtc.x32Seen := true } : State).rtc.x32Seen = true ∧ awake.rtc.x32Seen = false ∧ awake.powered 3 = true ∧
      (27#5 : BitVec 5).toNat < 28 ∧ 28 ≤ (28#5 : BitVec 5).toNat := by
  simp only [State.calendarOk]; and_intros <;> first | rfl | decide

/-- A commit of the next day jumps past an alarm at noon, which matches neither end. -/
theorem witness_CalendarAlarmsAndBackup_jump :
    let s := { committing ⟨0#6, 0#6, 0#5, 2#5, 1#4, 0#8⟩ with
      rtc.alarm1 := { Alarm.reset with arm := true, mask := 0x38#6, hour := 12#5 } }
    s.rtc.commit = true ∧ calOk s.rtc.staged = true ∧ (s.rtc.alarm true).arm = true ∧
      (s.rtc.alarm true).matches s.rtc.staged = false ∧ secondsOf s.rtc.cal < secondsOf s.rtc.staged ∧
      (s.rtc.alarm true).jumped (secondsOf s.rtc.cal) (secondsOf s.rtc.staged) = true := by
  and_intros <;> decide +kernel

theorem witness_CalendarAlarmsAndBackup_reached :
    awake.regAnswers 50 = true ∧ (({ awake with readOut := 0#64 }).regCross 50).2 = true ∧ unlinked.regAnswers 50 = true ∧
      (({ unlinked with readOut := 0#64 }).regCross 50).2 = false ∧ State.reset.regAnswers 50 = false ∧
      (∀ idx ∈ [53, 57], Reaches awake (awake.mayWriteReg .host idx) idx awake) ∧
      Reaches awake (awake.mayWriteReg (.eng .k01) 53) 53 awake := by
  simp only [Reaches, List.forall_mem_cons, List.not_mem_nil, false_implies, implies_true, and_true]
  and_intros <;> first | rfl | decide

/-- The calendar of a step may be the last valid one, and an empty queue is such a step too. -/
theorem witness_CalendarStaysValid :
    (atSecond ⟨59#6, 59#6, 23#5, 31#5, 12#4, 199#8⟩).calendarOk ∧
      ∃ t, step { atSecond ⟨59#6, 59#6, 23#5, 31#5, 12#4, 199#8⟩ with pending := [.rtcSecond] } = .next t ∧
        t.rtc.cal = CalTime.reset :=
  ⟨by simp only [State.calendarOk]; decide, _, rfl, by decide⟩

theorem witness_MemoriesStayCanonical :
    awake.memoriesOk ∧ ∃ t, step { awake with pending := [.bkpWrite .host 27#5 0xFFFF#16] } = .next t := by
  refine ⟨?_, _, rfl⟩
  refine ⟨fun e => by cases e <;> exact ⟨rfl, rfl⟩, rfl, rfl, rfl, by decide, rfl, rfl, rfl⟩

/-- The panel block with band 0 of one frame, an image that its CRC matches, and a command in some phase. -/
def panel (run : Option PanelRun) (crc : BitVec 16) : State :=
  { awake with
    pn := { Panel.reset with wave := [(0x020, 1#64), (0x400, 0#64)], shownValid := true, run := run, crc := crc,
                             shownCrc := imageCrc 0#96 } }

/-- A command of the panel under way. -/
def panelRun (c : PanelCmd) (p : PanelPhase) : PanelRun :=
  { cmd := c, image := 0#96, wave := [1#16, 2#16], phase := p, pass := 1, frame := 0, frames := 8, cut := false }

theorem witness_PanelCommandsAndFrames_commands :
    Reaches awake true 58 awake ∧ Reaches (panel none 0#16) true 58 (panel none 0#16) ∧
      (panel (some (panelRun .update .pumping)) 0#16).pn.run ≠ none ∧
      ({ panel none 0#16 with pwr.ready := 0x7F#8 } : State).powered 7 = false ∧ (panel none 0#16).powered 7 = true ∧
      ({ panel none 0#16 with tw.role := .check } : State).tw.role = .check ∧ (panel none 0#16).tw.role ≠ .check ∧
      imageCrc ((panel none (imageCrc 0#96 + 1#16)).pn.next.setWidth 96) ≠ (panel none (imageCrc 0#96 + 1#16)).pn.crc ∧
      imageCrc ((panel none (imageCrc 0#96)).pn.next.setWidth 96) = (panel none (imageCrc 0#96)).pn.crc ∧
      ({ panel none 0#16 with pn.shownValid := false } : State).pn.shownValid = false ∧
      (panel none 0#16).pn.shownValid = true ∧ (panel none 0#16).pn.interrupted = false ∧
      ({ panel none 0#16 with pn.interrupted := true } : State).pn.interrupted = true ∧
      (panel none 0#16).pn.bandOk (panel none 0#16).pn.bandInForce.toNat = true ∧
      awake.pn.bandOk awake.pn.bandInForce.toNat = false ∧ Requester.host ≠ .eng .k01 := by
  simp only [Reaches]; and_intros <;> first | decide +kernel | rfl

theorem witness_PanelCommandsAndFrames_frames :
    (panel (some (panelRun .update .pumping)) 0#16).fenced .panel = false ∧
      (panel (some (panelRun .update .pumping)) 0#16).pn.run = some (panelRun .update .pumping) ∧
      (panelRun .update .pumping).phase = .pumping ∧ (panelRun .balance .driving).phase = .driving ∧
      (panelRun .update .driving).frame + 1 < (panelRun .update .driving).wave.length ∧
      ¬ { panelRun .update .driving with frame := 1 }.frame + 1 < (panelRun .update .driving).wave.length ∧
      { panelRun .update .driving with pass := 3 }.passAfter 0#96 3 = 4 ∧
      (panelRun .balance .driving).frame + 1 < (panelRun .balance .driving).frames ∧
      (panelRun .update .discharging).phase = .discharging ∧
      (panel (some (panelRun .update .discharging)) 0#16).pn.checkDue = false ∧ (panelRun .update .discharging).cut = false ∧
      { panelRun .update .discharging with cut := true }.cut = true ∧ (panelRun .balance .discharging).cmd = .balance ∧
      (panel none 0#16).pn.run = none := by
  and_intros <;> first | rfl | decide

theorem witness_PanelCommandsAndFrames_checks :
    awake.powered 6 = true ∧ ({ awake with pwr.ready := 0xBF#8 } : State).powered 6 = false ∧
      imageCrc (panel none 0#16).pn.shown = (panel none 0#16).pn.shownCrc ∧ imageCrc awake.pn.shown ≠ awake.pn.shownCrc ∧
      ({ panel (some (panelRun .balance .discharging)) 0#16 with pn.checkDue := true } : State).pn.checkDue = true ∧
      ({ awake with pn.sensorBand := 7#3 } : State).pn.sensorBand.toNat = 7 ∧ awake.pn.sensorBand.toNat = 0 ∧
      ({ awake with pn.sensorBand := 6#3 } : State).pn.sensorBand.toNat < 7 ∧
      panelEdge 6 - 128 ≤ panelEdge 6 ∧ panelEdge 6 < panelEdge (6 + 1) + 128 := by
  and_intros <;> first | decide +kernel | rfl

/-! ## Hypotheses of the statements about the ports, the outputs and the deliveries -/

/-- A host write frame of one word, with its CRC and the two bytes of its turnaround and status. -/
def hostWrite (a : Nat) (data : List Byte) (good : Bool) : List Byte :=
  let head := 0x40#8 :: leBytes 2 a ++ data
  head ++ [if good then crc8 head else crc8 head + 1#8, 0#8, 0#8]

/-- A host read frame of one word. -/
def hostRead (a : Nat) : List Byte :=
  let head := 0#8 :: leBytes 2 a
  head ++ [crc8 head] ++ List.replicate 7 0#8

/-- An I²C write of one word to SCRATCH. -/
def i2cWrite : List Byte :=
  let head := 0x70#8 :: leBytes 2 0x1C ++ [1#8] ++ [1#8, 2#8, 3#8, 4#8]
  head ++ [crc8 head]

theorem witness_PortTransactions_host :
    awake.hostListens = true ∧ frameKind (hostWrite 0x1C [1#8, 2#8, 3#8, 4#8] true) = 1 ∧
      frameN (hostWrite 0x1C [1#8, 2#8, 3#8, 4#8] true) = 1 ∧
      6 + 4 * 1 ≤ (hostWrite 0x1C [1#8, 2#8, 3#8, 4#8] true).length ∧
      ({ awake with boot.restored := false } : State).portNotReady = true ∧ awake.portNotReady = false ∧
      crcAt (hostWrite 0x1C [1#8, 2#8, 3#8, 4#8] false) 7 = false ∧ crcAt (hostWrite 0x1C [1#8, 2#8, 3#8, 4#8] true) 7 = true ∧
      awake.sys.state ≠ .hold ∧ ({ awake with sys.state := .hold } : State).portNotReady = false ∧
      addrsOk 0x122 1 = false ∧ addrsOk 0x3100 1 = true ∧ hostRegion 0x3100 = some .nonce ∧
      addrsOk 0x2000 1 = true ∧ hostRegion 0x2000 = some .buffer ∧ addrsOk 0x3FFC 1 = true ∧ hostRegion 0x3FFC = some .cert ∧
      ({ awake with upd.owner := 1#2 } : State).upd.owner = 1#2 ∧ awake.upd.owner ≠ 1#2 ∧
      ({ awake with st.rawBusy := true } : State).storeBusy = true ∧ storeDataAddr ∈ wordAddrs storeDataAddr 1 ∧
      addrsOk storeDataAddr 1 = true ∧
      ({ awake with upd.qBusy := true } : State).upd.qBusy = true ∧ awake.upd.qBusy = false ∧ awake.er.stepReq = 0#5 ∧
      addrsOk 0x1C 1 = true ∧ hostRegion 0x1C = some .regs ∧ 0x1C ≠ storeDataAddr ∧
      ((awake.writeReg .host (0x1C / 4) 5#32).powered 3) = true ∧ frameKind (hostRead 0x1C) = 0 ∧
      7 + 4 * 1 ≤ (hostRead 0x1C).length ∧ crcAt (hostRead 0x1C) 3 = true ∧ crcAt (List.replicate 11 1#8) 3 = false ∧
      frameKind (List.replicate 11 1#8) = 0 ∧ awake.storeBusy = false ∧ awake.prt.lastRead = none ∧
      ({ awake with prt.lastRead := some (1, 0#8, []) } : State).prt.lastRead = some (1, 0#8, []) ∧
      State.reset.hostListens = false := by
  and_intros <;> decide +kernel

theorem witness_PortTransactions_i2c :
    (0x3B#7 : BitVec 7) = 0b01110#5 ++ awake.addrSel ∧
      (0x38#7 : BitVec 7) = 0b01110#5 ++ ({ awake with addrSel := 0#2 } : State).addrSel ∧
      (0x3C#7 : BitVec 7) ≠ 0b01110#5 ++ awake.addrSel ∧ awake.boot.backupReset = false ∧
      ({ awake with boot.backupReset := true } : State).boot.backupReset = true ∧
      ({ awake with sys.state := .backup } : State).sys.state = .backup ∧ awake.sys.state ≠ .backup ∧
      awake.sys.state ≠ .off ∧ awake.i2cReady = true ∧ awake.boot.restored = true ∧
      ({ awake with sys.state := .boot, boot.restored := false } : State).boot.restored = false ∧
      ({ sleeping (.asleep false) with pwr.wakeEn := 4#7 } : State).pwr.wakeEn.getLsbD 2 = true ∧
      (sleeping (.asleep false)).pwr.sleep ≠ .awake ∧
      ({ awake with prt.i2c := .stretching true } : State).i2cReady = true ∧
      ({ awake with prt.i2c := .stretching true, boot.restored := false } : State).i2cReady = false ∧
      ({ awake with prt.i2c := .write } : State).i2cReady = true ∧ i2cN i2cWrite = 1 ∧ awake.br.keep.up = true ∧
      ({ unlinked with prt.i2c := .write } : State).br.keep.up = false ∧
      ({ unlinked with prt.i2c := .write } : State).i2cReady = true ∧
      ({ awake with prt.i2c := .write } : State).i2cWriteOk i2cWrite = true ∧
      ({ awake with prt.i2c := .write } : State).i2cWriteOk [] = false ∧ frameAddrOf i2cWrite ≠ storeDataAddr ∧
      ({ awake with prt.i2c := .read } : State).i2cReady = true ∧
      ({ awake with prt.i2c := .read } : State).prt.i2cPtr.toNat % 4 = 0 ∧
      ({ awake with prt.i2c := .read } : State).prt.i2cPtr.toNat ≠ storeDataAddr ∧
      ({ awake with prt.i2c := .ignoring } : State).prt.i2c = .ignoring ∧ (∀ b, awake.prt.i2c ≠ .stretching b) := by
  and_intros <;> first | decide +kernel | (intro b; cases b <;> decide)

theorem witness_PortTransactions_optical :
    ({ awake with clk.xhfRun := true } : State).opticalRuns = true ∧ awake.prt.txWr = awake.prt.txRd ∧
      (awake.prt.rxWr - awake.prt.rxRd).toNat < 256 ∧
      256 ≤ (({ awake with prt.rxWr := 256#12 } : State).prt.rxWr - awake.prt.rxRd).toNat ∧
      ({ awake with prt.txWr := 1#12 } : State).prt.txWr ≠ awake.prt.txRd ∧ awake.powered 3 = true ∧
      ({ dozing with pwr.wakeEn := 0x20#7 } : State).pwr.wakeEn.getLsbD 5 = true ∧ dozing.sleeping = true ∧
      dozing.clk.gateOpen.getLsbD 2 = true ∧ dozing.fenced .port = false ∧ awake.pwr.wakeEn.getLsbD 5 = false ∧
      ({ awake with clk.xhfRun := true } : State).opticalHears = true ∧ awake.opticalHears = false ∧ awake.opticalRuns = false ∧
      awake.pwr.vioLow = false ∧ ({ awake with pwr.vioLow := true } : State).pwr.vioLow = true := by
  and_intros <;> first | rfl | decide

/-- PO0 counts and has one pulse to give. -/
def pulsing : State :=
  { awake with out := { awake.out with po := awake.out.po.set 0 { PulseOut.reset with cfg := 1#64 ||| 1#64 <<< 8 ||| 100#64 <<< 32 ||| 50#64 <<< 48, pend := 1#32 } } }

theorem witness_OutputsAndDeliveries_pulses :
    awake.outputsRun = true ∧ poActs pulsing.out.po[(0 : Fin 4)].cfg = 1 ∧ poActs 0#64 ≠ 1 ∧ awake.pwr.sleep = .awake ∧ awake.out.po[(0 : Fin 4)].pend = 0#32 ∧
      pulsing.outHeld 0 = false ∧ pulsing.out.po[(0 : Fin 4)].active = false ∧ pulsing.out.po[(0 : Fin 4)].pend ≠ 0#32 := by
  and_intros <;> first | rfl | decide

/-- The delivery controller in a state, metering rod 0 whose SCALE is bound. -/
def delivering (st : DelivState) (final : Bool) : State :=
  { awake with
    ab := { awake.ab with closed := awake.ab.closed.set 0 { RodSt.zero with scale := 1#64 } }
    dl := { awake.dl with state := st, final := final, preset := 2#40, trimAt := 1#40, v2 := true, v1 := true,
                          cfg := 1#64 <<< 13 ||| 1#64 <<< 16 ||| 1#64 <<< 32 }
    clk := { awake.clk with ovenWarm := true, ovenFitted := true } }

theorem witness_OutputsAndDeliveries_reached :
    Reaches (delivering .idle false) (decide (Requester.host = .eng .k3) || (delivering .idle false).mayWriteReg .host 63) 63
        (delivering .idle false) ∧
      Reaches (delivering .running true) (decide (Requester.eng .k3 = .eng .k3) || awake.mayWriteReg (.eng .k3) 63) 63
        (delivering .running true) ∧
      State.reset.regAnswers 63 = false := by
  simp only [Reaches]; and_intros <;> first | rfl | decide

theorem witness_OutputsAndDeliveries_commands :
    dcOk (delivering .idle false).dl.cfg = true ∧ dcOk awake.dl.cfg = false ∧
      ((delivering .idle false).ab.closed[(delivering .idle false).dl.rod]).scale ≠ 0#64 ∧
      (delivering .idle false).dl.preset ≠ 0#40 ∧ (delivering .idle false).dl.trimAt < (delivering .idle false).dl.preset ∧
      ((delivering .idle false).ab.closed[10]).scale = 0#64 ∧ awake.dl.preset = 0#40 ∧
      (delivering .armed false).dl.state = .armed ∧ (delivering .armed false).startRefused = false ∧
      (delivering .idle false).dl.state ≠ .armed ∧ ({ awake with tw.role := .check } : State).tw.role = .check ∧
      (delivering .trim false).dl.state = .trim ∧ (delivering .done true).dl.state = .done ∧
      (delivering .aborted true).dl.final = true ∧ (delivering .aborted false).dl.final = false ∧
      (delivering .running false).deliveryBarred = false ∧
      ({ delivering .running false with pwr.pfail := true } : State).deliveryBarred = true ∧
      dcMaxTime (delivering .running false).dl.cfg ≠ 0 ∧
      (delivering .running false).dl.v1 = true ∧ dcMaxTime awake.dl.cfg = 0 ∧ awake.dl.v1 = false ∧
      (delivering .closing false).dl.state = .closing ∧ (delivering .closing false).dl.incs = [] ∧
      (delivering .closing false).ab.touched.getLsbD 10 = false ∧
      ((((delivering .closing false).ab.closed[10]).val.total - (delivering .closing false).dl.base10) %
          (256 * countLimit * 2 ^ 64) : Int) = (delivering .closing false).dl.delivered ∧
      ((((delivering .closing false).ab.closed[10]).val.total - (delivering .closing false).dl.base10) %
          (256 * countLimit * 2 ^ 64) : Int) ≠
        ({ delivering .closing false with dl.delivered := 1 } : State).dl.delivered ∧
      ({ delivering .closing false with dl.incs := [1#64] } : State).dl.incs ≠ [] := by
  and_intros <;> first | rfl | decide

/-! ## Hypotheses of the statements about the twin and the perturbations -/

/-- A frame of the link with its CRC. -/
def merFrame (typ seq : Byte) (payload : List Byte) : List Byte :=
  let head := typ :: seq :: leBytes 2 payload.length ++ payload
  head ++ leBytes 4 (crc32 head).toNat

/-- A pairing in progress. -/
def pairing : Pairing :=
  { hello := List.replicate 128 0#8, peerHello := none, certPart := [], certTotal := none, peerKey := none, signing := false,
    proofSent := false, proofOk := false, raised := none }

/-- A pairing that has the peer's HELLO and key, and the one that also has both proofs. -/
def greeted : Pairing := { pairing with peerHello := some (List.replicate 128 0#8), peerKey := some 3 }
def proven (seat : Byte) : Pairing :=
  { greeted with
    peerHello := some (List.replicate 0x28 0#8 ++ [seat] ++ List.replicate 0x57 0#8), proofSent := true, proofOk := true }

/-- The twin block with a link, a role and a pairing. -/
def twin (link : Link) (role : Role) (pr : Option Pairing) : State :=
  { awake with tw := { awake.tw with en := true, link := link, role := role, pairing := pr, lastSeq := some 9#8 } }

/-- The same with a twin configuration record in the store. -/
def twinConfigured : State :=
  { twin .up .solo none with st := awake.st.putRecord 0x10 (List.replicate 48 1#8) }

theorem witness_TwinLinkAndPairing_link :
    awake.meridianRuns = true ∧ (twin .down .solo none).tw.link = .down ∧ (twin .lost .solo none).tw.link = .lost ∧
      ({ awake with tw.detached := true } : State).tw.detached = true ∧ (twin .down .solo none).tw.detached = false ∧
      (twin .down .solo none).tw.en = true ∧ (twin .down .solo none).tw.pairing = none ∧
      (twin .down .solo none).tw.sendSeq = 0#8 ∧ awake.tw.en = false ∧ State.reset.meridianRuns = false ∧
      (twin .up .solo none).tw.link = .up ∧ (twin .up .solo none).powered 3 = true ∧ (twin .up .solo none).linkOpen = true ∧
      (twin .paired .check none).tw.link = .paired ∧ (twin .paired .check none).linkOpen = true ∧
      ({ awake with pwr.wakeEn := 8#7 } : State).pwr.wakeEn.getLsbD 3 = true ∧ awake.pwr.wakeEn.getLsbD 3 = false ∧
      (3 : Nat) < 4 ∧ (9 : Nat) < 10 ∧ awake.tw.out = [] ∧
      ({ awake with tw.out := [⟨1#8, 0#8, [], 4⟩] } : State).tw.out = [⟨1#8, 0#8, [], 4⟩] := by
  and_intros <;> first | rfl | decide

set_option maxRecDepth 100000 in
theorem witness_TwinLinkAndPairing_configured : twinConfigured.twinCfg = some (List.replicate 48 1#8) := by
  decide +kernel

set_option maxRecDepth 100000 in
theorem witness_TwinLinkAndPairing_frames :
    (twin .up .solo (some pairing)).tw.pairing = some pairing ∧
      parseFrame 1 128 (merFrame 1#8 7#8 (List.replicate 128 0#8)) = some (7#8, List.replicate 128 0#8) ∧
      (twin .up .solo (some pairing)).tw.lastSeq ≠ some 7#8 ∧ pairing.peerKey = none ∧
      parseFrame 2 1024 (merFrame 2#8 7#8 (leBytes 2 3 ++ leBytes 2 0 ++ [0#8, 0#8, 0#8, 0#8, 5#8])) =
        some (7#8, leBytes 2 3 ++ leBytes 2 0 ++ [0#8, 0#8, 0#8, 0#8, 5#8]) ∧
      parseFrame 2 1024 (merFrame 2#8 7#8 (leBytes 2 1 ++ leBytes 2 0 ++ [0#8, 0#8, 0#8, 0#8, 5#8])) =
        some (7#8, leBytes 2 1 ++ leBytes 2 0 ++ [0#8, 0#8, 0#8, 0#8, 5#8]) ∧
      leNat ((leBytes 2 1 ++ leBytes 2 1 ++ [0#8]).drop 2 |>.take 2) ≠ pairing.certPart.length ∧
      parseFrame 3 512 (merFrame 3#8 7#8 [1#8]) = some (7#8, [1#8]) ∧
      ({ pairing with peerHello := some [], peerKey := some 3, signing := true } : Pairing).peerKey = some 3 ∧
      parseFrame 1 128 (List.replicate 8 0#8) = none ∧ parseFrame 2 1024 (List.replicate 8 0#8) = none ∧
      parseFrame 3 512 (List.replicate 8 0#8) = none ∧
      parseFrame 1 128 (merFrame 1#8 9#8 (List.replicate 128 0#8)) = some (9#8, List.replicate 128 0#8) ∧
      parseFrame 0x3F 1 (merFrame 0x3F#8 9#8 [4#8]) = some (9#8, [4#8]) ∧ awake.tw.releasing = false ∧
      (({ awake with tw.out := [⟨0x11#8, 4#8, [], 0⟩] } : State).tw.out.any fun g => g.seq == 4#8 && g.typ == 0x11#8) = true ∧
      parseFrame 0x3F 1 (merFrame 0x3F#8 9#8 []) = some (9#8, []) ∧
      parseFrame 0x12 0 (merFrame 0x12#8 7#8 []) = some (7#8, []) := by
  and_intros <;> decide +kernel

set_option maxRecDepth 100000 in
theorem witness_TwinRunningAndTakeover_frames :
    parseFrame 0x10 184 (merFrame 0x10#8 7#8 (List.replicate 184 0#8)) = some (7#8, List.replicate 184 0#8) ∧
      parseFrame 0x11 184 (merFrame 0x11#8 7#8 (List.replicate 184 0#8)) = some (7#8, List.replicate 184 0#8) ∧
      (parseStatus (List.replicate 184 0#8)).isSome = true ∧
      parseFrame 0x20 1016 (merFrame 0x20#8 7#8 [1#8]) = some (7#8, [1#8]) ∧
      parseFrame 0x10 184 [] = none ∧ parseFrame 0x11 184 [] = none ∧ parseFrame 0x20 1016 [] = none ∧
      (awake.ringPtr 0 + 65536 - awake.ringPtr 1) % 65536 < 4 ∧
      4 ≤ (({ awake with prt.win := [(0xA000, 4#8)] } : State).ringPtr 0 + 65536 -
        ({ awake with prt.win := [(0xA000, 4#8)] } : State).ringPtr 1) % 65536 := by
  and_intros <;> decide +kernel

/-- A check twin fit to take over, its time base and the first edge after RUN. -/
def fit (handover lineLow firstEdge : Bool) (t : Nat) : State :=
  { twin .paired .check none with
    clk := { awake.clk with ovenWarm := true, ovenFitted := true }, sv := { awake.sv with timeBase := t }
    tw := { (twin .paired .check none).tw with handover := handover, lineLow := lineLow, firstEdge := firstEdge, rejoin := true } }

theorem witness_TwinRunningAndTakeover :
    (fit true false false 4000000).twinFit = true ∧ (fit true false false 0).tw.handover = true ∧
      (fit false false false 0).tw.lineLow = false ∧ (fit false true false 0).tw.lineLow = true ∧
      (fit false true false 0).twinFit = true ∧ (fit false false true 0).tw.firstEdge = true ∧
      (((fit false false false 4020000).sv.timeBase : Int) - (200 * (fit false false false 4020000).sv.travPeriod : Nat)).natAbs ≤
        20000 ∧
      20000 < (((fit false false false 4020001).sv.timeBase : Int) -
        (200 * (fit false false false 4020001).sv.travPeriod : Nat)).natAbs ∧
      (fit false false false 0).tw.role = .check ∧ awake.tw.role ≠ .check ∧ (fit false false false 0).tw.handover = false ∧
      (fit false false false 0).pwr.vioLow = false ∧ ({ awake with pwr.vioLow := true } : State).pwr.vioLow = true ∧
      ({ fit false false false 0 with pt.unlocked := true } : State).pt.unlocked = true ∧
      (twin .paired .principal none).tw.role = .principal ∧ (twin .up .principal none).tw.link ≠ .paired ∧
      awake.tw.role ≠ .principal ∧
      ({ twin .up .principal none with tw.holds := true } : State).tw.holds = true ∧ awake.tw.holds = false ∧
      ({ twin .paired .principal none with tw.releasing := true, tw.holds := true } : State).tw.releasing = true ∧
      awake.tw.releasing = false ∧ (twin .paired .check none).linkOpen = true ∧
      (twin .paired .check none).tw.lastSeq ≠ some 7#8 := by
  and_intros <;> first | rfl | decide

theorem witness_TwinLinkAndPairing_advances :
    greeted.peerHello ≠ none ∧ greeted.peerKey ≠ none ∧ greeted.proofSent = false ∧ greeted.signing = false ∧
      (twin .up .solo (some greeted)).cryptoRuns = false ∧ (twin .up .solo (some greeted)).railOk 2 = true ∧
      ({ twin .up .solo (some greeted) with pwr.vset := 1#5 } : State).railOk 2 = false ∧
      ({ greeted with raised := some (true, 6#5) } : Pairing).raised = some (true, 6#5) ∧
      ({ greeted with signing := true } : Pairing).signing = true ∧
      (proven 0#8).proofSent = true ∧ (proven 0#8).proofOk = true ∧ pairing.peerHello = none ∧
      ((proven 0#8).peerHello.map fun h => (twin .up .solo none).pairingCode (proven 0#8).hello h) = some 7 ∧
      ((proven 1#8).peerHello.map fun h => (twin .up .solo none).pairingCode (proven 1#8).hello h) = some 0 ∧
      ((proven 1#8).peerHello.map fun h => designated false (proven 1#8).hello h) = some true ∧
      (twin .up .solo none).tw.lineLow = false ∧ (twin .up .solo none).tw.holds = false ∧
      ({ fit false false false 0 with tw.link := .up } : State).twinFit = true ∧ peerCertKey [5#8] = none ∧
      pssVerify 3 [] [] = false := by
  and_intros <;> first | rfl | decide

/-- The encoding by R481 of the certificate below, with a salt of zeros. -/
def certCode : Nat :=
  0x6b598cf0068b8bbd407ded132d3e671d512febecec3197f618853e9718725ebd1bc4b74b4a8891f2551c5fe7a6db8f112b10cbaf5258319650e9246924ea1561874193565730d603f248983d7da931fa172632f7d5b18ac49f5f27ccdaac6966595bafcf669790301079c4b4316bd20776c28b09ca02af38d48f2cd8e0d2a2d1724d6215156f9db32c93c7af21d864a54d2f77242f643246f75bfdaf81b40ded1ae3a5c333ba6f847019c706eec619db0e47ea0f994e04e6c588a31fd4166aa5f0d3b9d20d2b1c2adf328309e9dd291532336e7f4d2887b356280ae185884c790b320714eab636f5288d808089f12407e778c97ddbe14689c36d8d1aa3a5a84e76cab265b428d770279bc3778a9a27bf582410e74371b78451dd58729f1a8ccb37e5529ffbb8b16bc3ccbcd04977a9ad7e6cddbeca1cdc5809043804c7571db89803e00a7de0f1310032fda5d6339acec99540694619b7315cb2a611d2ac30a70697088f5497881d8324a8e4964d80a9bce97d6a22658ee7fbe92075ab78bc3f8a5961e5bfd0b73f4ef7ce58c5e1a014330ca49051dce95a55e8597cdfcb214fd03c92985820ee59778223371fe9ebf0b762d13cce3974c8a87790db6566893233d4c48574623ae9abeec7c04d5db72a676a1a08a7cf9900287c26f291462c811756ff9cf3a81fdc6dc6455d4cc3b9ebaaebba0ef02fbe9d243da4c6d01c48bc

/-- The signed part of a certificate for the modulus 3, and the certificate that the modulus one above the encoding signs. -/
def certTbs : List Byte := beBytes 35 0x3021a0030201020201013000300030003000300f3000030b0030080201030203010001
def certificate : List Byte := beBytes 4 0x3082022a ++ certTbs ++ beBytes 7 0x30000382020100 ++ beBytes 512 certCode

set_option maxRecDepth 100000 in
/-- A certificate verifies against the authority that signed it, here one of the tests, and certifies its modulus. -/
theorem witness_TwinLinkAndPairing_certificate : certKey (certCode + 1) certificate = some 3 := by decide +kernel

theorem witness_TwinCommands_reached :
    (∀ idx ∈ [65, 69, 70], Reaches awake (awake.mayWriteReg .host idx) idx awake) ∧
      Reaches awake (Requester.host == .host) 68 awake ∧ (Requester.sysPort == .host) = false ∧
      State.reset.regAnswers 65 = false ∧ State.reset.regAnswers 70 = false := by
  simp only [Reaches, List.forall_mem_cons, List.not_mem_nil, false_implies, implies_true, and_true]
  and_intros <;> first | rfl | decide

/-- The perturbations unlocked, or half way. -/
def perturbing (unlocked half : Bool) : State := { awake with pt := { awake.pt with unlocked := unlocked, bit1 := half } }

theorem witness_PerturbationCommands :
    (perturbing false false).pt.bit1 = false ∧ (perturbing false true).pt.bit1 = true ∧ (perturbing true false).pt.unlocked = true ∧
      Reaches (perturbing true false) ((perturbing true false).mayWriteReg .host 70) 70 (perturbing true false) ∧
      Reaches (perturbing false true) true 68 (perturbing false true) ∧
      (0x00005EEC#32 : W32) ≠ 0x00005EED#32 ∧ (1#32 : W32) ≠ 0#32 ∧
      ({ awake with dl.state := .closing } : State).dl.state = .closing ∧ awake.dl.state ≠ .running ∧
      awake.tw.holds = false ∧ awake.powered 3 = true ∧
      (0x2000#32 : W32).getLsbD 13 = true ∧ (0#32 : W32).getLsbD 13 = false ∧ (21#5 : BitVec 5).toNat ≤ 21 ∧
      ¬ ((22#5 : BitVec 5).toNat ≤ 21 ∨ (22#5 : BitVec 5) = 31#5) ∧ (21 : Lane).val = (21#5 : BitVec 5).toNat ∧
      22 ≤ (22#5 : BitVec 5).toNat ∧
      (0x7FFFFF#24 : BitVec 24) ≠ 0x800000#24 ∧ (19 : Chord).val = (19#5 : BitVec 5).toNat ∧
      (1023#24 : BitVec 24).toNat < 1024 ∧ 1024 ≤ (1024#24 : BitVec 24).toNat ∧ 20 ≤ (20#5 : BitVec 5).toNat ∧
      (6 : Fin 7).val = (6#5 : BitVec 5).toNat ∧ (65535#24 : BitVec 24).toNat < 65536 ∧ 7 ≤ (7#5 : BitVec 5).toNat ∧
      65536 ≤ (65536#24 : BitVec 24).toNat := by
  simp only [Reaches]; and_intros <;> first | rfl | decide

/-- STALL at each end of its range: a stall with a time, and one without. -/
theorem witness_PerturbationCommands_stalls :
    ({ awake with pt.stalled := awake.pt.stalled.set 6 true, pt.stallTimed := awake.pt.stallTimed.set 6 true } : State).pt.stalled[
        (6 : Fin 7)] = true ∧
      ({ awake with pt.stallTimed := awake.pt.stallTimed.set 6 true } : State).pt.stallTimed[(6 : Fin 7)] = true ∧
      awake.pt.stalled[(6 : Fin 7)] = false ∧ awake.pt.stallTimed[(6 : Fin 7)] = false := by
  and_intros <;> first | rfl | decide

/-! ## Words written out from the formats of Table 14-4 and the opcodes of Table 14-5 -/

/-- Table 15-14, the encodings of the collection loop. -/
theorem test_decode_collectionLoop :
    decodeTeique .s0 0x8064FF06#32 = some (.fire .s0 3#5 4#5 0xFF#8 0x06#8) ∧
      decodeTeique .s0 0x6D600002#32 = some (.loop .s0 11#5 2#16) ∧
      decodeTeique .s0 0x918AFF00#32 = some (.corr .s0 12#5 10#5 0xFF#8 0#8) ∧
      decodeTeique .s0 0x094A0020#32 = some (.addi .s0 10#5 10#5 32#16) := by
  and_intros <;> decide

/-- ALU, MUL and DIV: format A, the function in bits 10 to 0 (Tables 14-4 and 14-5). -/
theorem test_decode_integer :
    decodeTeique .k2 0b00000100001000100001100000000000#32 = some (.aluAdd .k2 1#5 2#5 3#5) ∧
      decodeTeique .k2 0b00000111111000100001100000001101#32 = some (.aluSubs .k2 31#5 2#5 3#5) ∧
      decodeTeique .k2 0b00000100100001010011000000000111#32 = some (.aluSar .k2 4#5 5#5 6#5) ∧
      decodeTeique .k2 0b00010100111010000100100000000001#32 = some (.mulHighSigned .k2 7#5 8#5 9#5) ∧
      decodeTeique .k2 0b00011000001000100001100000000011#32 = some (.remu .k2 1#5 2#5 3#5) := by
  and_intros <;> decide

/-- ADDI, MOVI, SHI: format I. -/
theorem test_decode_immediate :
    decodeTeique .s1 0b00001000001000101111111111111111#32 = some (.addi .s1 1#5 2#5 0xFFFF#16) ∧
      decodeTeique .s1 0b00001101001000001000000000000000#32 = some (.movi .s1 9#5 0x8000#16) ∧
      decodeTeique .s1 0b00010000011000000001001000110100#32 = some (.shi .s1 3#5 0x1234#16) := by
  and_intros <;> decide

/-- QMUL, QDIV, MAC and FUNC: format A. -/
theorem test_decode_fixedPoint :
    decodeTeique .k3 0b00011100001000100001100000100000#32 = some (.qmul .k3 1#5 2#5 3#5 32#11) ∧
      decodeTeique .k3 0b00100000001000100001100000101000#32 = some (.qdiv .k3 1#5 2#5 3#5 40#11) ∧
      decodeTeique .k3 0b00100100000000100001100000000001#32 = some (.msu .k3 2#5 3#5) ∧
      decodeTeique .k3 0b00100100101000000000100000000011#32 = some (.aread .k3 5#5 1#5) ∧
      decodeTeique .k3 0b00101000110001110000000000000100#32 = some (.funcClz .k3 6#5 7#5) := by
  and_intros <;> decide

/-- Loads, stores, branches, jumps and loops. -/
theorem test_decode_memoryAndControl :
    decodeTeique .k01 0b01000000001000100000000000001000#32 = some (.ld64 .k01 1#5 2#5 8#16) ∧
      decodeTeique .k01 0b01001100001000101111111111111100#32 = some (.st32 .k01 1#5 2#5 0xFFFC#16) ∧
      decodeTeique .k01 0b01010100001000101111111111111110#32 = some (.bne .k01 1#5 2#5 0xFFFE#16) ∧
      decodeTeique .k01 0b01100011111111111111111111111111#32 = some (.jmp .k01 0x3FFFFFF#26) ∧
      decodeTeique .k01 0b01101000000000000000000000000001#32 = some (.retTrap .k01) ∧
      decodeTeique .k01 0b01101100100000000000000000000011#32 = some (.loop .k01 4#5 3#16) := by
  and_intros <;> decide

/-- FIRE to PACE and LANE: formats M and I. -/
theorem test_decode_measurement :
    decodeTeique .s0 0b10000100001000100000010110000011#32 = some (.arm .s0 1#5 2#5 5#8 0x83#8) ∧
      decodeTeique .s0 0b10001100001000100000011100000001#32 = some (.capt .s0 1#5 2#5 7#8 1#8) ∧
      decodeTeique .s0 0b10010100001000100000001100000001#32 = some (.statFeed .s0 1#5 2#5 3#8) ∧
      decodeTeique .s0 0b10011000100000000000011000000001#32 = some (.aux .s0 4#5 6#8 1#8) ∧
      decodeTeique .s0 0b10100000000000110000000000001000#32 = some (.pace .s0 3#5 8#16) ∧
      decodeTeique .s0 0b10100100100000000000100100000011#32 = some (.laneAssign .s0 4#5 9#8) := by
  and_intros <;> decide

/-- TALLY, ROD, PSAVE and PLOAD: the rod of TALLY stands in the field d. -/
theorem test_decode_totalsAndStore :
    decodeTeique .k01 0b11000001010000010001000000000001#32 = some (.tallyTest .k01 10#5 1#5 2#5) ∧
      decodeTeique .k01 0b11000100001000100000000000000001#32 = some (.rodReadDecimal .k01 1#5 2#5) ∧
      decodeTeique .k01 0b11000100000000000000000000000011#32 = some (.rodCommit .k01) ∧
      decodeTeique .k01 0b11001000001000100001100000000000#32 = some (.psave .k01 1#5 2#5 3#5) ∧
      decodeTeique .k01 0b11001100001000100001100000000000#32 = some (.pload .k01 1#5 2#5 3#5) := by
  and_intros <;> decide

/-- WAIT, SIG, HSK, SYS, TRAP, CRYPT and BRK: SYS has its index in bits 6 to 0 and its operation above. -/
theorem test_decode_system :
    decodeTeique .k2 0b11100000000000000000000000000000#32 = some (.wait .k2) ∧
      decodeTeique .k2 0b11100100101000000000000000010001#32 = some (.sig .k2 5#5 17#11) ∧
      decodeTeique .k2 0b11101000001000100001100000000001#32 = some (.hskTrysend .k2 1#5 2#5 3#5) ∧
      decodeTeique .k2 0b11101100100000000000000001000111#32 = some (.sysRead .k2 4#5 0x47#7) ∧
      decodeTeique .k2 0b11101100000001000000000100001001#32 = some (.sysWrite .k2 4#5 9#7) ∧
      decodeTeique .k2 0b11110000000000000000011111111111#32 = some (.trap .k2 0x7FF#11) ∧
      decodeTeique .k2 0b11110100000000010001000000000001#32 = some (.hupd .k2 1#5 2#5) ∧
      decodeTeique .k2 0b11111100000000000000000000000000#32 = some (.brk .k2) := by
  and_intros <;> decide

/-- R390: the all-zero word, an undefined opcode, an undefined function and an unused field that is not zero. -/
theorem test_decode_illegal :
    decodeTeique .k2 0#32 = none ∧ decodeTeique .k2 0b00101100000000000000000000000000#32 = none ∧
      decodeTeique .k2 0b00000100001000100001100000001110#32 = none ∧
      decodeTeique .k2 0b00001100001000010000000000000101#32 = none := by
  and_intros <;> decide

theorem witness_TeiqueWordsRoundTrip :
    teiqueWord (.fire .s0 3#5 4#5 0xFF#8 0x06#8) = some 0x8064FF06#32 ∧
      decodeTeique .s0 0x8064FF06#32 = some (.fire .s0 3#5 4#5 0xFF#8 0x06#8) := by
  and_intros <;> decide

/-! ## Ill-formed commands, one for each check -/

theorem test_wellFormed_register : (Instr.registerWrite .host 72#7 0#32).wellFormed = false := by decide

set_option maxRecDepth 100000 in
theorem test_wellFormed_capture : (Instr.captureEnd 3 (List.replicate 4097 (0, false))).wellFormed = false := by decide +kernel

set_option maxRecDepth 100000 in
theorem test_wellFormed_hits : (Instr.calibrationComplete 0 (List.replicate 255 0)).wellFormed = false := by decide +kernel

theorem test_wellFormed_edges :
    (Instr.deferredShotFire (List.replicate 21 ⟨0#8, 0#8, false⟩)).wellFormed = false := by decide

theorem test_wellFormed_i2c :
    (Instr.i2cAddressMatch 0x37#7 true).wellFormed = false ∧ (Instr.i2cAddressMatch 0x3C#7 true).wellFormed = false := by decide

theorem test_wellFormed_frames :
    (Instr.helloFrame (List.replicate 7 0#8)).wellFormed = false ∧ (Instr.certFrame (List.replicate 7 0#8)).wellFormed = false ∧
      (Instr.proofFrame (List.replicate 7 0#8)).wellFormed = false ∧ (Instr.statusFrame (List.replicate 7 0#8)).wellFormed = false ∧
      (Instr.handoverFrame (List.replicate 7 0#8)).wellFormed = false ∧ (Instr.detachFrame (List.replicate 7 0#8)).wellFormed = false ∧
      (Instr.serviceFrame (List.replicate 7 0#8)).wellFormed = false ∧ (Instr.ackFrame (List.replicate 7 0#8)).wellFormed = false := by
  decide

set_option maxRecDepth 100000 in
theorem test_wellFormed_longFrame : (Instr.helloFrame (List.replicate 1033 0#8)).wellFormed = false := by decide +kernel

/-! ## Single steps and operations, against values of the spec -/

/-- The worked example of rod 0 (ch. 11, Table 23-73). -/
theorem test_tally_rod0 :
    let x : RodSt := { val := { count := 123456789012, residue := 0xA000000000000000#64, rollover := 0#8, sat := false },
                       scale := 0x000003E800000000#64 }
    (x.tally 0 10604857#64 0x000003E800000000#64).val.count = 123456789015 ∧
      (x.tally 0 10604857#64 0x000003E800000000#64).val.residue = 0x181946A800000000#64 := by
  decide

/-- Table 23-73: the low and high words of COUNT and the residue. -/
theorem test_rodBinary_rod0 :
    let x : RodSt := { val := { count := 123456789015, residue := 0x181946A800000000#64, rollover := 0#8, sat := false },
                       scale := 0x000003E800000000#64 }
    rodBinary x false 0 = 0x0000001CBE991A17#64 ∧ rodBinary x false 2 = 0x181946A800000000#64 ∧
      rodBinary x false 3 = 0x000003E800000000#64 := by
  decide

/-- ADD of all ones and 1 gives 0 with carry and zero; g0 stays 0 (R385, R417). -/
theorem test_add_wraps :
    ∃ t, exec (.aluAdd .s0 3#5 1#5 2#5) (s0With (BitVec.allOnes 64) 1#64) = .next t ∧ t.reg .s0 3#5 = 0#64 ∧
      (t.engine .s0).z = true ∧ (t.engine .s0).c = true ∧ (t.engine .s0).v = false := by
  exact ⟨_, rfl, by decide, by decide, by decide, by decide⟩

/-- SUBS limits −2⁶³ − 1 to −2⁶³ (R417). -/
theorem test_subs_saturates :
    ∃ t, exec (.aluSubs .s0 3#5 1#5 2#5) (s0With 0x8000000000000000#64 1#64) = .next t ∧
      t.reg .s0 3#5 = 0x8000000000000000#64 := by
  exact ⟨_, rfl, by decide⟩

/-- REM takes the sign of the dividend (R420). -/
theorem test_rem_negative :
    ∃ t, exec (.rem .s0 3#5 1#5 2#5) (s0With (-7#64) 2#64) = .next t ∧ t.reg .s0 3#5 = -1#64 := by
  exact ⟨_, rfl, by decide⟩

/-- MOVI sign-extends and SHI shifts 16 bits in (R418). -/
theorem test_movi_shi :
    (∃ t, exec (.movi .s0 3#5 0x8000#16) awake = .next t ∧ t.reg .s0 3#5 = 0xFFFFFFFFFFFF8000#64) ∧
      ∃ t, exec (.shi .s0 1#5 0x1234#16) (s0With 0xABCD#64 0#64) = .next t ∧ t.reg .s0 1#5 = 0xABCD1234#64 := by
  exact ⟨⟨_, rfl, by decide⟩, _, rfl, by decide⟩

theorem witness_StepTakesTheFront : awake.pending = [] ∧ ({ awake with pending := [.wait .k2] } : State).pending ≠ [] := by
  constructor <;> decide

/-- A step takes the command at the front of the queue. -/
theorem test_step_front :
    (match step { awake with pending := [.movi .s0 1#5 5#16] } with
      | .next t => t.pending == [] && t.reg .s0 1#5 == 5#64
      | _ => false) = true := by
  decide +kernel

/-- "123456789" under the three checks (R461, R545, R551). -/
theorem test_crc :
    let bs : List Byte := [0x31#8, 0x32#8, 0x33#8, 0x34#8, 0x35#8, 0x36#8, 0x37#8, 0x38#8, 0x39#8]
    crc32 bs = 0xCBF43926#32 ∧ crc16 bs = 0x29B1#16 ∧ crc8 bs = 0xF4#8 := by
  decide +kernel

/-- The stamps of the worked example under Table 08-6. -/
theorem test_stamps :
    let g : List Nat := [11502] ++ List.replicate 36 0 ++ [318, 12790] ++ List.replicate 40 0 ++ [316]
    ({ LaneSt.reset with grat := g, coarse := 0x1A2B#24 } : LaneSt).stamp 0#24 37#8 = 0x001A2AD273#40 ∧
      ({ LaneSt.reset with grat := g, coarse := 0x1DCF8#24 } : LaneSt).stamp 0#24 79#8 = 0x01DCF79F40#40 := by
  decide +kernel

end Sys2Proof.Tests
end

section
/-! PROOF. The accumulator: MAC and MSU (R387). -/
namespace Sys2Proof.Machine

/-- A value limited to 128 bits reads back as its nearest neighbour in the signed range. -/
theorem toInt_limitTo_128 (x : Int) : (limitTo 128 x).toInt = max (-2 ^ 127) (min (2 ^ 127 - 1) x) := by
  rw [limitTo, BitVec.toInt_ofInt_eq_self] <;> omega

theorem outside_128 (x : Int) : outside 128 x = (decide (x < -2 ^ 127) || decide (2 ^ 127 - 1 < x)) := by
  simp only [outside, Nat.add_one_sub_one, Int.sub_one_lt_iff]

/-- `t` follows from `s` by an instruction of `e` that puts the exact value `x` into acc: limited to 128 bits, with Q
where it was limited, and nothing else changed. -/
def Accumulates (s t : State) (e : Eng) (x : Int) : Prop :=
  (t.engine e).acc.toInt = max (-2 ^ 127) (min (2 ^ 127 - 1) x) ∧
    FlagsAre t e (s.engine e).z (s.engine e).n (s.engine e).c (s.engine e).v
      ((s.engine e).q || decide (x < -2 ^ 127) || decide (2 ^ 127 - 1 < x)) ∧
    KeptRegs s t e ∧ WentOn s t e ∧ CoreOnly s t e

theorem KeptRegs.of_g {s t : State} {e : Eng} (h : (t.engine e).g = (s.engine e).g) : KeptRegs s t e := by
  intro k
  simp only [State.reg, Engine.reg, h]

/-- An instruction that sets acc by `setAcc` accumulates. -/
theorem Accumulates.of_setAcc {s : State} {e : Eng} {f : Engine → Engine} {x : Int}
    (hf : f (s.engine e) = (s.engine e).setAcc x) : Accumulates s (s.onEngine e f) e x := by
  obtain ⟨hflags, hacc, hwent, hcore, hg⟩ := State.onEngine_core (s := s) (e := e) (f := f) (g := (s.engine e).g)
    (z := (s.engine e).z) (n := (s.engine e).n) (c := (s.engine e).c) (v := (s.engine e).v)
    (q := (s.engine e).q || outside 128 x) (acc := limitTo 128 x) hf
  rw [outside_128, ← Bool.or_assoc] at hflags
  exact ⟨by rw [hacc, toInt_limitTo_128], hflags, KeptRegs.of_g hg, hwent, hcore⟩

theorem exec_mac (e : Eng) (a b : GReg) (s : State) :
    exec (.mac e a b) s = s.teique e [] fun s => s.onEngine e fun x =>
      x.setAcc (x.acc.toInt + (x.reg a).toInt * (x.reg b).toInt) := rfl

theorem exec_msu (e : Eng) (a b : GReg) (s : State) :
    exec (.msu e a b) s = s.teique e [] fun s => s.onEngine e fun x =>
      x.setAcc (x.acc.toInt - (x.reg a).toInt * (x.reg b).toInt) := rfl

/-- Settles O6: both instructions are `setAcc` of the exact value. -/
theorem accumulatorSaturates : Obligations.AccumulatorSaturates := by
  intro s e a b hr
  constructor
  · exact Gives.of_teique hr (exec_mac e a b s) rfl (Accumulates.of_setAcc rfl)
  · exact Gives.of_teique hr (exec_msu e a b s) rfl (Accumulates.of_setAcc rfl)

end Sys2Proof.Machine
end

section
/-! PROOF. The host's two mailboxes (R410): what an entry is, how it joins K2's queue, and how MAILBOX_OUT grows and
shrinks. -/
namespace Sys2Proof.Machine

/-! ## Entries of an engine's queue (R408) -/

/-- A 32-bit payload stands zero-extended under the sender's number. -/
theorem toNat_entryWord (n : Nat) (hn : n < 8) (v : W32) :
    (entryWord n (v.setWidth 64)).toNat = v.toNat + n * 2 ^ 56 := by
  have hv : v.toNat < 2 ^ 56 := Nat.lt_trans v.isLt (by norm_num)
  have hpay : ((field (v.setWidth 64) 0 56).setWidth 64).toNat = v.toNat := by
    simp only [field, BitVec.toNat_setWidth, BitVec.extractLsb'_toNat, Nat.shiftRight_zero]
    omega
  have hsend : (place 64 56 (BitVec.ofNat 3 n)).toNat = 2 ^ 56 * n := by
    simp only [place, BitVec.toNat_shiftLeft, BitVec.toNat_setWidth, BitVec.toNat_ofNat, Nat.shiftLeft_eq]
    omega
  rw [entryWord, BitVec.toNat_or, hpay, hsend, Nat.or_comm, ← Nat.two_pow_add_eq_or_of_lt hv]
  omega

/-- The end of a wait changes pc and loop state beside it, alone. -/
theorem Engine.done_kept (x : Engine) : ∃ pc lc, x.done = { x with wait := none, pc := pc, lc := lc } :=
  Engine.loopBack_kept 2 { x with wait := none }

@[simp] theorem Engine.done_g (x : Engine) : x.done.g = x.g := by
  obtain ⟨pc, lc, h⟩ := x.done_kept
  rw [h]

@[simp] theorem Engine.done_wait (x : Engine) : x.done.wait = none := by
  obtain ⟨pc, lc, h⟩ := x.done_kept
  rw [h]

@[simp] theorem Engine.done_inbox (x : Engine) : x.done.inbox = x.inbox := by
  obtain ⟨pc, lc, h⟩ := x.done_kept
  rw [h]

theorem Engine.reg_setReg_done (x : Engine) (d : GReg) (r : W64) (hd : d ≠ 0#5) : (x.setReg d r).done.reg d = r := by
  simp [Engine.reg, Engine.setReg, hd]

@[simp] theorem State.hop_engine (s : State) (ts : List (Fin 32)) (e : Eng) : (s.hop ts).engine e = s.engine e := by
  obtain ⟨n, h⟩ := s.hop_kept ts
  rw [h]; rfl

@[simp] theorem State.hop_sys (s : State) (ts : List (Fin 32)) : (s.hop ts).sys = s.sys := by
  obtain ⟨n, h⟩ := s.hop_kept ts
  rw [h]

@[simp] theorem State.hop_pwr (s : State) (ts : List (Fin 32)) : (s.hop ts).pwr = s.pwr := by
  obtain ⟨n, h⟩ := s.hop_kept ts
  rw [h]

/-- An entry for an engine that does not wait in RECV joins the end of its queue. -/
theorem State.append_inbox (s : State) (e : Eng) (w : W64) (h : ∀ d, (s.engine e).wait ≠ some (.recv d)) :
    ((s.append e w).engine e).inbox = (s.engine e).inbox ++ [w] := by
  simp only [State.append, State.engine_modEngine, State.hop_engine]
  split
  · next d hd => exact absurd hd (h d)
  · exact Engine.done_inbox _
  · rfl

/-- An engine that waits in RECV takes the entry, and its wait ends. -/
theorem State.append_recv (s : State) (e : Eng) (w : W64) (d : GReg) (h : (s.engine e).wait = some (.recv d)) :
    (s.append e w).engine e = ((s.engine e).setReg d w).done := by
  simp only [State.append, State.engine_modEngine, State.hop_engine, h]

/-! ## MAILBOX_IN -/

theorem State.mailboxIn_room {s : State} (v : W32) (hs : s.hubServes = true) (hr : s.queueHasRoom .k2 = true) :
    s.mailboxIn v = s.append .k2 (entryWord 7 (v.setWidth 64)) := by
  simp [State.mailboxIn, hs, hr]

theorem State.mailboxIn_full {s : State} (v : W32) (hs : s.hubServes = true) (hr : s.queueHasRoom .k2 = false) :
    s.mailboxIn v = { s with er.mbiOvf := true } := by
  simp [State.mailboxIn, hs, hr]

/-! ## MAILBOX_OUT grows -/

theorem State.powered_hub {s : State} (h : s.hubServes = true) : s.powered 3 = true := by
  simp only [State.hubServes, Bool.and_eq_true] at h
  exact h.1

/-- The low 32 bits of the payload join the end of MAILBOX_OUT. -/
@[simp] theorem State.appendOut_mailboxOut (s : State) (w : W64) :
    (s.appendOut w).er.mailboxOut = s.er.mailboxOut ++ [field w 0 32] := by
  simp only [State.appendOut, State.event_eq]
  split <;> rfl

/-- EVENT_FLAGS.MAILBOX is set where MAILBOX_OUT was empty. -/
theorem State.appendOut_eventFlags (s : State) (w : W64) (hp : s.powered 3 = true) :
    (s.appendOut w).sys.eventFlags =
      if s.er.mailboxOut = [] then s.sys.eventFlags ||| (1#24 <<< 18) else s.sys.eventFlags := by
  have hp' : s.pwr.ready.getLsbD 3 = true := hp
  simp only [State.appendOut, State.event_eq, List.isEmpty_iff, State.powered]
  split <;> simp [hp']

/-! ## SEND to the host -/

@[simp] theorem State.await_engine (s : State) (e : Eng) (w : Wait) :
    (s.await e w).engine e = { s.engine e with wait := some w } := State.engine_modEngine s e _

@[simp] theorem State.await_hubServes (s : State) (e : Eng) (w : Wait) : (s.await e w).hubServes = s.hubServes := rfl

/-- A SEND without outstanding stores acts at once (R397). -/
theorem State.hold_sendHeld {s : State} {e : Eng} (w : W64) (dst : BitVec 5) (hst : (s.engine e).stores = [])
    (hs : s.hubServes = true) :
    s.hold e (.sendHeld w dst) = (s.await e (.sendHeld w dst)).sendNow e w dst := by
  simp [State.hold, State.releaseHeld, hst, hs]

/-- On an engine without outstanding stores a SEND to the host acts at once. -/
theorem Gives.hskSend_host {s : State} {e : Eng} {a : GReg} {P : State → Prop} (hc : Clear s e)
    (hs : s.hubServes = true)
    (hp : P ((s.await e (.sendHeld (s.reg e a) 7#5)).sendNow e (s.reg e a) 7#5)) :
    Gives (.hskSend e a 7#5) s P := by
  refine Gives.of_teique (cs := [⟨.access, destTval 7#5, badDest e 7#5⟩]) hc.1 rfl rfl ?_
  simpa only [hs, if_true, State.hold_sendHeld _ _ hc.2 hs] using hp

theorem State.sendNow_host_room {s : State} (e : Eng) (w : W64) (h : s.er.mailboxOut.length < 4) :
    s.sendNow e w 7#5 = (s.appendOut w).modEngine e Engine.done := by
  simp [State.sendNow, State.roomAt, State.sendEntry, State.mailboxRoom, engOfNum, h]

theorem State.sendNow_host_full {s : State} (e : Eng) (w : W64) (h : 4 ≤ s.er.mailboxOut.length) :
    s.sendNow e w 7#5 = s.await e (.sendFull w 7#5) := by
  simp [State.sendNow, State.roomAt, State.mailboxRoom, engOfNum, Nat.not_lt.mpr h]

/-! ## MAILBOX_OUT shrinks -/

/-- A stalled SEND to the host only adds to MAILBOX_OUT. -/
theorem State.serveOut_mailboxOut (s : State) (e : Eng) :
    ∃ more, (s.serveOut e).er.mailboxOut = s.er.mailboxOut ++ more := by
  simp only [State.serveOut]
  split
  · split
    · exact ⟨_, by rw [State.modEngine_er, State.appendOut_mailboxOut]⟩
    · exact ⟨[], by simp⟩
  · exact ⟨[], by simp⟩

theorem State.foldl_serveOut_mailboxOut (es : List Eng) (s : State) :
    ∃ more, (es.foldl (fun s x => s.serveOut x) s).er.mailboxOut = s.er.mailboxOut ++ more := by
  induction es generalizing s with
  | nil => exact ⟨[], by simp⟩
  | cons e es ih =>
    obtain ⟨first, hfirst⟩ := s.serveOut_mailboxOut e
    obtain ⟨more, hmore⟩ := ih (s.serveOut e)
    exact ⟨first ++ more, by rw [List.foldl_cons, hmore, hfirst, List.append_assoc]⟩

/-- All stalled SENDs to the host together only add to MAILBOX_OUT. -/
theorem State.serveOuts_mailboxOut (s : State) : ∃ more, s.serveOuts.er.mailboxOut = s.er.mailboxOut ++ more :=
  State.foldl_serveOut_mailboxOut allEngines s

theorem State.mailboxOutRead_empty {s : State} (hs : s.hubServes = true) (h : s.er.mailboxOut = []) :
    s.mailboxOutRead = ({ s with er.mboEmpty := true }, 0#32) := by
  simp [State.mailboxOutRead, hs, h]

theorem State.mailboxOutRead_cons {s : State} {w : W32} {rest : List W32} (hs : s.hubServes = true)
    (h : s.er.mailboxOut = w :: rest) :
    s.mailboxOutRead = (({ s with er.mailboxOut := rest, er.mboEmpty := rest.isEmpty } : State).serveOuts, w) := by
  simp [State.mailboxOutRead, hs, h]

/-! ## The obligation -/

/-- A write of MAILBOX_IN is the unit's `mailboxIn`. -/
theorem Gives.mailboxInWrite {s : State} {v : W32} {P : State → Prop} (h : P (s.mailboxIn v)) :
    Gives (.mailboxInWrite v) s P := ⟨_, rfl, h⟩

/-- A read of MAILBOX_OUT is the unit's `mailboxOutRead`, whose value `readOut` shows. -/
theorem Gives.mailboxOutRead {s : State} {P : State → Prop}
    (h : P { s.mailboxOutRead.1 with readOut := s.mailboxOutRead.2.setWidth 64 }) :
    Gives .mailboxOutRead s P := ⟨_, rfl, h⟩

/-- Settles O54, a clause for each side of the two mailboxes. -/
theorem hostMailbox : Obligations.HostMailbox := by
  intro s e a d v hs
  refine ⟨?inQueued, ?inTaken, ?inFull, ?outQueued, ?outFull, ?outRead, ?outEmpty⟩
  case inQueued =>
    intro hroom hwait
    apply Gives.mailboxInWrite
    rw [State.mailboxIn_room v hs hroom]
    exact ⟨_, toNat_entryWord 7 (by decide) v, State.append_inbox s .k2 _ hwait⟩
  case inTaken =>
    intro hroom hwait hd
    apply Gives.mailboxInWrite
    rw [State.mailboxIn_room v hs hroom, State.reg, State.append_recv s .k2 _ d hwait, Engine.reg_setReg_done _ _ _ hd]
    exact ⟨toNat_entryWord 7 (by decide) v, Engine.done_wait _⟩
  case inFull =>
    intro hfull
    exact Gives.mailboxInWrite (State.mailboxIn_full v hs hfull)
  case outQueued =>
    intro hc hroom
    apply Gives.hskSend_host hc hs
    have hflags := State.appendOut_eventFlags (s.await e (.sendHeld (s.reg e a) 7#5)) (s.reg e a) (State.powered_hub hs)
    rw [State.sendNow_host_room (s := s.await e _) e _ hroom]
    refine ⟨State.appendOut_mailboxOut _ _, fun hempty => ?_, fun hne => ?_⟩
    · exact hflags.trans (if_pos hempty)
    · exact hflags.trans (if_neg hne)
  case outFull =>
    intro hc hfull
    apply Gives.hskSend_host hc hs
    rw [State.sendNow_host_full (s := s.await e _) e _ hfull]
    rfl
  case outRead =>
    intro w rest h
    apply Gives.mailboxOutRead
    rw [State.mailboxOutRead_cons hs h]
    exact ⟨rfl, State.serveOuts_mailboxOut _⟩
  case outEmpty =>
    intro h
    apply Gives.mailboxOutRead
    rw [State.mailboxOutRead_empty hs h]
    rfl

end Sys2Proof.Machine
end
